-- ==== Sys2Proof/Word.lean ====
section
/-! DEFINITION. Words, halves, addresses and their plainest arithmetic (00_scope.md rules R12 to R14, R16). -/

namespace Sys2Proof

/-- A 36-bit machine word (R13). Bit 0 is the least significant bit: DEC bit n is bit `35 - n` (R12). -/
abbrev Word := BitVec 36

/-- An 18-bit halfword (R13). -/
abbrev Half := BitVec 18

/-- An 18-bit virtual address; all address arithmetic is modulo 2^18 (R56, R150). -/
abbrev VAddr := BitVec 18

/-- An accumulator number, 0 to 15 (R14). -/
abbrev AcNum := BitVec 4

/-- `L(w)`, the left half (R13). -/
def lh (w : Word) : Half := w.extractLsb' 18 18

/-- `R(w)`, the right half (R13). -/
def rh (w : Word) : Half := w.extractLsb' 0 18

/-- `XWD(l, r)` (R13). -/
def xwd (l r : Half) : Word := l ++ r

/-- `SWAP(w)` (R13). -/
def swapHalves (w : Word) : Word := xwd (rh w) (lh w)

/-- `XWD(0, E)`, the immediate operand "0,,E" (R17, R321). -/
def immR (e : VAddr) : Word := xwd 0 e

/-- `XWD(E, 0)`, the immediate operand "E,,0" (R17, R321). -/
def immL (e : VAddr) : Word := xwd e 0

/-- `SIGN` and `MAXNEG` (R13). -/
def signWord : Word := 0o400000000000

/-- `MAXPOS` (R13). -/
def maxPos : Word := 0o377777777777

/-- `ONES` (R13). -/
def ones : Word := 0o777777777777

/-- A word as an exact signed integer, `signed(w)` (R13). -/
def signed (w : Word) : Int := w.toInt

/-- The sign of a word: DEC bit 0. -/
def negative (w : Word) : Bool := w.getLsbD 35

/-- The value of an exact integer modulo 2^36 as a word (R13). -/
def wordOfInt (v : Int) : Word := BitVec.ofInt 36 v

end Sys2Proof
end

