-- ==== Sys2Proof/Config.lean ====
section
/-! DEFINITION. The named parameters of 92_eei_decisions.md (R10: "a model takes the whole set as one configuration
record"), their defaults, and the free values. -/

namespace Sys2Proof

/-! ### The kinds of setting -/

/-- The setting of a parameter whose values are behaviours: the behaviour the rules state, or another the spec permits and
does not describe, number `k` of the uninterpreted functions below (log entry 37). -/
inductive Setting where
  | standard
  | other (k : Nat)
  deriving DecidableEq, Repr

/-- `APR_FLAG_BITS` (D38): where each named flag stands in the 8-bit APR registers (R1103). -/
structure AprBits where
  int80 : BitVec 3
  pwf : BitVec 3
  nxm : BitVec 3
  bmd : BitVec 3
  ecc : BitVec 3
  tim : BitVec 3
  con : BitVec 3
  deriving DecidableEq, Repr

/-- `UNIBUS_BYTE_MAP` (D40): the lowest bit of each byte of a word in Unibus format (R1156). -/
structure UnibusMap where
  b0 : Nat
  b1 : Nat
  b2 : Nat
  b3 : Nat
  deriving DecidableEq, Repr

/-- The four operations of floating-point arithmetic (R503). -/
inductive FloatOp where
  | add | sub | mul | div
  deriving DecidableEq, Repr

/-- The functions of the numeric field `FPU` (R504). -/
inductive FpuFn where
  | single (op : FloatOp)
  | double (op : FloatOp)
  | fix | fixr | fltr | fsc
  deriving DecidableEq, Repr

/-- Whether the exponent of a floating-point result fits its field (R502). -/
inductive FloatRange where
  | fits | overflow | underflow
  deriving DecidableEq, Repr, Inhabited

/-- What the numeric field answers: whether the operation is refused (no divide, or a fixed-point result out of range),
the result, a single-word one in `hi`, and the range that decides its flags (R61, R63, R502). -/
structure FpuAnswer where
  refused : Bool
  hi : Word
  lo : Word
  range : FloatRange
  deriving DecidableEq, Repr, Inhabited

/-- What a page-fail word or a MAP success word reports (R200, R1149). -/
inductive PfwEvent where
  /-- A soft failure, or the word of a fill: space, A, W, S or M, C, P, write reference, virtual address. -/
  | soft (user a w sm c p wr : Bool) (va : VAddr)
  /-- A success of MAP: space, W, physical address (R688). -/
  | mapped (user w : Bool) (pa : Nat)
  /-- Non-existent memory: space, physical address. -/
  | nxm (user : Bool) (pa : Nat)
  /-- A failed I/O bus reference: USER, I/O address. -/
  | io (user : Bool) (ioa : BitVec 22)
  deriving DecidableEq, Repr

/-- One word a page fail saves (R1203, R1205): the formats the rules give, or another, number `k` (log entry 37). -/
inductive PfItem where
  /-- The page-fail status word. -/
  | status
  /-- Old flags,,PC. -/
  | flpc
  /-- Old flags,,0. -/
  | flags
  /-- 0,,PC. -/
  | pc
  | other (k : Nat)
  deriving DecidableEq, Repr

/-- One word an MUUO saves (R1231), or another, number `k` (log entry 37). -/
inductive MuuoItem where
  /-- Opcode and AC,,E. -/
  | opcodeE
  /-- Old flags,,PC. -/
  | flpc
  /-- The context word. -/
  | context
  /-- Old flags,,opcode and AC. -/
  | flagsOpcode
  /-- 0,,PC. -/
  | pc
  /-- 0,,E. -/
  | e
  | other (k : Nat)
  deriving DecidableEq, Repr

/-- The cells and the format of a page fail: the words saved, in their order, each with the offset of its cell in the UPT,
and the offset of the new-flags,,PC cell (`PF_CELLS`, `ITS_PF_CELLS`). -/
structure PfCells where
  saves : List (Nat × PfItem)
  entry : Nat
  deriving DecidableEq, Repr

/-- One act of an EXTEND sub-operation under another `EXTEND_DETAIL` (D36). What the spec fixes for every setting stands
in the loop that performs the acts (`Machine.otherLoop`). -/
inductive ExtendAct where
  /-- Read a word in the data context. -/
  | read (va : VAddr)
  /-- Write a word in the data context. -/
  | write (va : VAddr) (v : Word)
  /-- Load the byte a pointer names. -/
  | load (bp : Word)
  /-- Deposit a byte where a pointer points. -/
  | deposit (bp v : Word)
  /-- Record progress in AC to AC+5 and pass a checkpoint. -/
  | progress (acs : List Word)
  /-- End with these words in AC to AC+5, with a skip or none, with AOV and TRAP1 or not. -/
  | done (acs : List Word) (skips overflow : Bool)
  deriving DecidableEq, Repr, Inhabited

/-- The parameters a model takes as one record (R10). The record is part of `State` so that one step function serves
every setting; no step changes it (R1400: "fixed for a run"). -/
structure Config where
  /-- `ITS`: the ITS discipline, instruction forms and 1-proceed are selected (D3). -/
  its : Bool
  /-- `PA_WIDTH` (D2), at most 22 (log entry 38). -/
  paWidth : Nat
  /-- `MEMSIZE` (D60): physical addresses from here up are non-existent (R99). -/
  memSize : Nat
  /-- `START_PC` (D21). -/
  startPc : VAddr
  /-- `IND_MAX` (D60), 0 is unlimited. -/
  indMax : Nat
  /-- `XCT_MAX` (D60), 0 is unlimited. -/
  xctMax : Nat
  /-- `STOP_ON_OP0` (D60). -/
  stopOnOp0 : Bool
  /-- `TLB_MAY_EVICT` (D10). -/
  tlbMayEvict : Bool
  /-- `T20_CST_WRITEBACK` (D19): true writes the CST entry back only when the fill is for a write. -/
  t20CstWriteOnly : Bool
  /-- `T20_CST_SCOPE` (D19): true consults the CST for the page-table pages of a chain too (log entry 39). -/
  t20CstTables : Bool
  /-- `ITS_WRITABLE_CLASSES` (D22): bit `c` is set when access class `c` permits writing. -/
  itsWritable : BitVec 4
  /-- `BLT_MIN_ONE` (D29). -/
  bltMinOne : Bool
  /-- `AOB_CARRY` (D30). -/
  aobCarry : Bool
  /-- `APRID_WORD` (D31). -/
  apridWord : Word
  /-- `XJRST_GATE` = `ALWAYS` (D32). -/
  xjrstAlways : Bool
  /-- `FPU` (D35). -/
  fpu : Setting
  /-- `DFP_ROUND` = ROUND (D35). -/
  dfpRound : Bool
  /-- `EXTEND_DETAIL` (D36). -/
  extendDetail : Setting
  /-- `DLOW_SIGN` (D25) of DADD, DSUB, DMUL and DDIV: true copies the sign of the high word, false gives 0. -/
  dlowArith : Bool
  /-- `DLOW_SIGN` (D25) of DMOVN and DMOVNM. -/
  dlowNeg : Bool
  /-- `IDIV_MAXNEG_M1` (D28): quotient and remainder, or a division not performed. -/
  idivMaxnegM1 : Option (Word × Word)
  /-- `ITS_XCTRI_INHIBIT` (D26): true suppresses the page fail of the instruction XCTRI executes (log entry 40). -/
  xctriInhibit : Bool
  /-- `ITS_USER_LUUO` = `MUUO` (D37). -/
  itsUserLuuoMuuo : Bool
  /-- `APR_FLAG_BITS` (D38). -/
  aprBits : AprBits
  /-- `UNIBUS_BYTE_MAP` (D40). -/
  unibusMap : UnibusMap
  /-- `IOEA_MODE` (D42). -/
  ioeaMode : Setting
  /-- `ITS_IO_CTL_I` (D42). -/
  ioCtlI : BitVec 4
  /-- `ITS_IO_CTL_Q` (D42). -/
  ioCtlQ : BitVec 4
  /-- `HSB_RESET` (D59). -/
  hsbReset : BitVec 22
  /-- `PFW_LAYOUT` (D58). -/
  pfwLayout : Setting
  /-- `PFW_ITS_LAYOUT` (D58). -/
  pfwItsLayout : Setting
  /-- `PF_CELLS` (D44) under TOPS-10. -/
  pfT10 : PfCells
  /-- `PF_CELLS` (D44) under TOPS-20. -/
  pfT20 : PfCells
  /-- `ITS_PF_CELLS` (D46). -/
  pfIts : PfCells
  /-- `ITS_1PR_CELLS` (D48): offset of the old-PC cell in the UPT. -/
  its1prOld : Nat
  /-- `ITS_1PR_CELLS` (D48): offset of the new-PC cell. -/
  its1prNew : Nat
  /-- `MUUO_CELLS` (D51): what is saved under TOPS-10 and ITS, in its order, each word with the offset of its cell in the
  UPT. -/
  muuoT10 : List (Nat × MuuoItem)
  /-- `MUUO_CELLS` (D51) under TOPS-20. -/
  muuoT20 : List (Nat × MuuoItem)
  /-- Offsets of the MUUO new-PC cells in the UPT, at index 4 USER + 2 PUBLIC + t (R1232). -/
  muuoNew : Vector Nat 8
  /-- Offset of the arithmetic-trap cells in the EPT or UPT, trap t at t beyond it (R1240). -/
  trapCells : Nat
  /-- `PI_CELL_BASE` (D53): offset of the interrupt cells in the EPT, level n at twice n beyond it. -/
  piCellBase : Nat
  deriving DecidableEq, Repr

/-- The defaults of 92_eei_decisions.md, with `MEMSIZE` and the other start parameters of 95_test_vectors.md section 1.
DESIGN CHOICE: `memSize` and `startPc` have no default in the spec (D21, D60); log entry 2. -/
def Config.default : Config where
  its := false
  paWidth := 20
  memSize := 0o100000
  startPc := 0o500
  indMax := 0
  xctMax := 0
  stopOnOp0 := false
  tlbMayEvict := false
  t20CstWriteOnly := false
  t20CstTables := false
  itsWritable := 0b1100
  bltMinOne := true
  aobCarry := false
  apridWord := 0
  xjrstAlways := false
  fpu := .standard
  dfpRound := true
  extendDetail := .standard
  dlowArith := true
  dlowNeg := false
  idivMaxnegM1 := some (0o400000000000, 0)
  xctriInhibit := false
  itsUserLuuoMuuo := false
  aprBits := { int80 := 6, pwf := 5, nxm := 4, bmd := 3, ecc := 2, tim := 1, con := 0 }
  unibusMap := { b0 := 18, b1 := 26, b2 := 0, b3 := 8 }
  ioeaMode := .standard
  ioCtlI := 3
  ioCtlQ := 1
  hsbReset := 0o376000
  pfwLayout := .standard
  pfwItsLayout := .standard
  pfT10 := ⟨[(0o500, .status), (0o501, .flpc)], 0o502⟩
  pfT20 := ⟨[(0o500, .status), (0o501, .flags), (0o502, .pc)], 0o503⟩
  pfIts := ⟨[(0o440, .status), (0o441, .flpc)], 0o442⟩
  its1prOld := 0o432
  its1prNew := 0o433
  muuoT10 := [(0o424, .opcodeE), (0o425, .flpc), (0o426, .context)]
  muuoT20 := [(0o424, .flagsOpcode), (0o425, .pc), (0o426, .e), (0o427, .context)]
  muuoNew := #v[0o430, 0o431, 0o432, 0o433, 0o434, 0o435, 0o436, 0o437]
  trapCells := 0o420
  piCellBase := 0o40

/-- The bounds the spec puts on the numbers of the record (D2, D60; log entry 38). -/
def Config.wf (c : Config) : Bool := decide (10 ≤ c.paWidth) && decide (c.paWidth ≤ 22) && decide (c.memSize ≤ 2 ^ c.paWidth)

/-! ### Uninterpreted behaviours and values -/

/-- FREE VALUE (log entry 37): another `FPU`, a total function of the operands and the rounding selector (R504). Two
operands of two words each; a single-word operand is a high word with 0. -/
opaque Config.fpuOther : Nat → FpuFn → Bool → Word × Word → Word × Word → FpuAnswer

/-- FREE VALUE (log entry 37): the next act of a sub-operation under another `EXTEND_DETAIL`, from the sub-opcode, E0, E1,
FPD, the words of AC to AC+5, and what its acts since the last progress have read, newest first (0 for a store). -/
opaque Config.extendOther : Nat → BitVec 9 → VAddr → VAddr → Bool → List Word → List Word → ExtendAct

/-- FREE VALUE (log entry 37): another `PFW_LAYOUT`. -/
opaque Config.pfwOther : Nat → PfwEvent → Word

/-- FREE VALUE (log entry 37): another `PFW_ITS_LAYOUT`, from the space, the access class, the write reference and the
virtual address. -/
opaque Config.pfwItsOther : Nat → Bool → BitVec 2 → Bool → VAddr → Word

/-- FREE VALUE (log entry 37): another `IOEA_MODE`, from Y, the indirect bit, the index register's word (0 for none) and
E. -/
opaque Config.ioeaOther : Nat → BitVec 18 → Bool → Word → VAddr → BitVec 22

/-- FREE VALUE (log entry 37): another word a page fail saves, from the old flags, the PC and the status word. -/
opaque Config.pfSaveOther : Nat → Half → VAddr → Word → Word

/-- FREE VALUE (log entry 37): another word an MUUO saves, from the opcode, AC, E, the old flags, the PC and the context
word. -/
opaque Config.muuoSaveOther : Nat → BitVec 9 → AcNum → VAddr → Half → VAddr → Word → Word

/-- FREE VALUE (log entry 20): bit 35 of the low word of a CVTDBO or CVTDBT result whose high word is negative. R560
asks for "the format of rule R451", which gives two conventions for that bit and assigns neither to these
instructions. -/
opaque Config.cvtLowSign : Word → Word → Bool

end Sys2Proof
end

