-- ==== Sys2Proof/Syntax.lean ====
section
/-! DEFINITION. The instructions: one constructor for each mnemonic of opcode_table.json (30_encoding.md rules R300 to
R304, R330, R331). -/

namespace Sys2Proof

/-- The address part of an instruction or indirect word: I, X and Y (R301, R303). -/
structure EaField where
  /-- I, DEC bit 13. -/
  ind : Bool
  /-- X, DEC bits 14-17; 0 is no index register. -/
  idx : BitVec 4
  /-- Y, DEC bits 18-35. -/
  y : BitVec 18
  deriving DecidableEq, Repr

/-- The instructions. `ac` is the AC field, where it is an operand and not a function number, and `m` the address part.
`muuo` stands for every word the table gives to MUUO and keeps its opcode. The EXTEND operations are two words: `ac` is
the AC field of the EXTEND, `e0` its effective address, and `m` the address part of the second word (R550). -/
inductive Instr where
  /-- MUUO: the opcodes of R340 (R433 to R438). -/
  | muuo (op : BitVec 9) (ac : AcNum) (m : EaField)
  /-- LUUO01: 0o001 (R402). -/
  | luuo01 (ac : AcNum) (m : EaField)
  /-- LUUO02: 0o002 (R403). -/
  | luuo02 (ac : AcNum) (m : EaField)
  /-- LUUO03: 0o003 (R404). -/
  | luuo03 (ac : AcNum) (m : EaField)
  /-- LUUO04: 0o004 (R405). -/
  | luuo04 (ac : AcNum) (m : EaField)
  /-- LUUO05: 0o005 (R406). -/
  | luuo05 (ac : AcNum) (m : EaField)
  /-- LUUO06: 0o006 (R407). -/
  | luuo06 (ac : AcNum) (m : EaField)
  /-- LUUO07: 0o007 (R408). -/
  | luuo07 (ac : AcNum) (m : EaField)
  /-- LUUO10: 0o010 (R409). -/
  | luuo10 (ac : AcNum) (m : EaField)
  /-- LUUO11: 0o011 (R410). -/
  | luuo11 (ac : AcNum) (m : EaField)
  /-- LUUO12: 0o012 (R411). -/
  | luuo12 (ac : AcNum) (m : EaField)
  /-- LUUO13: 0o013 (R412). -/
  | luuo13 (ac : AcNum) (m : EaField)
  /-- LUUO14: 0o014 (R413). -/
  | luuo14 (ac : AcNum) (m : EaField)
  /-- LUUO15: 0o015 (R414). -/
  | luuo15 (ac : AcNum) (m : EaField)
  /-- LUUO16: 0o016 (R415). -/
  | luuo16 (ac : AcNum) (m : EaField)
  /-- LUUO17: 0o017 (R416). -/
  | luuo17 (ac : AcNum) (m : EaField)
  /-- LUUO20: 0o020 (R417). -/
  | luuo20 (ac : AcNum) (m : EaField)
  /-- LUUO21: 0o021 (R418). -/
  | luuo21 (ac : AcNum) (m : EaField)
  /-- LUUO22: 0o022 (R419). -/
  | luuo22 (ac : AcNum) (m : EaField)
  /-- LUUO23: 0o023 (R420). -/
  | luuo23 (ac : AcNum) (m : EaField)
  /-- LUUO24: 0o024 (R421). -/
  | luuo24 (ac : AcNum) (m : EaField)
  /-- LUUO25: 0o025 (R422). -/
  | luuo25 (ac : AcNum) (m : EaField)
  /-- LUUO26: 0o026 (R423). -/
  | luuo26 (ac : AcNum) (m : EaField)
  /-- LUUO27: 0o027 (R424). -/
  | luuo27 (ac : AcNum) (m : EaField)
  /-- LUUO30: 0o030 (R425). -/
  | luuo30 (ac : AcNum) (m : EaField)
  /-- LUUO31: 0o031 (R426). -/
  | luuo31 (ac : AcNum) (m : EaField)
  /-- LUUO32: 0o032 (R427). -/
  | luuo32 (ac : AcNum) (m : EaField)
  /-- LUUO33: 0o033 (R428). -/
  | luuo33 (ac : AcNum) (m : EaField)
  /-- LUUO34: 0o034 (R429). -/
  | luuo34 (ac : AcNum) (m : EaField)
  /-- LUUO35: 0o035 (R430). -/
  | luuo35 (ac : AcNum) (m : EaField)
  /-- LUUO36: 0o036 (R431). -/
  | luuo36 (ac : AcNum) (m : EaField)
  /-- LUUO37: 0o037 (R432). -/
  | luuo37 (ac : AcNum) (m : EaField)
  /-- XCTRI: 0o102, ITS only (R453). -/
  | xctri (ac : AcNum) (m : EaField)
  /-- XCTR: 0o103, ITS only (R454). -/
  | xctr (ac : AcNum) (m : EaField)
  /-- ADJSP: 0o105 (R455). -/
  | adjsp (ac : AcNum) (m : EaField)
  /-- DFAD: 0o110 (R505). -/
  | dfad (ac : AcNum) (m : EaField)
  /-- DFSB: 0o111 (R506). -/
  | dfsb (ac : AcNum) (m : EaField)
  /-- DFMP: 0o112 (R507). -/
  | dfmp (ac : AcNum) (m : EaField)
  /-- DFDV: 0o113 (R508). -/
  | dfdv (ac : AcNum) (m : EaField)
  /-- DADD: 0o114 (R456). -/
  | dadd (ac : AcNum) (m : EaField)
  /-- DSUB: 0o115 (R457). -/
  | dsub (ac : AcNum) (m : EaField)
  /-- DMUL: 0o116 (R458). -/
  | dmul (ac : AcNum) (m : EaField)
  /-- DDIV: 0o117 (R459). -/
  | ddiv (ac : AcNum) (m : EaField)
  /-- DMOVE: 0o120 (R462). -/
  | dmove (ac : AcNum) (m : EaField)
  /-- DMOVN: 0o121 (R463). -/
  | dmovn (ac : AcNum) (m : EaField)
  /-- FIX: 0o122 (R509). -/
  | fix (ac : AcNum) (m : EaField)
  /-- EXTEND: 0o123 (R550). -/
  | extend (ac : AcNum) (m : EaField)
  /-- DMOVEM: 0o124 (R464). -/
  | dmovem (ac : AcNum) (m : EaField)
  /-- DMOVNM: 0o125 (R465). -/
  | dmovnm (ac : AcNum) (m : EaField)
  /-- FIXR: 0o126 (R510). -/
  | fixr (ac : AcNum) (m : EaField)
  /-- FLTR: 0o127 (R511). -/
  | fltr (ac : AcNum) (m : EaField)
  /-- FSC: 0o132 (R512). -/
  | fsc (ac : AcNum) (m : EaField)
  /-- IBP: 0o133, ac 0o0 (R466). -/
  | ibp (m : EaField)
  /-- ADJBP: 0o133 (R467). -/
  | adjbp (ac : AcNum) (m : EaField)
  /-- ILDB: 0o134 (R468). -/
  | ildb (ac : AcNum) (m : EaField)
  /-- LDB: 0o135 (R469). -/
  | ldb (ac : AcNum) (m : EaField)
  /-- IDPB: 0o136 (R470). -/
  | idpb (ac : AcNum) (m : EaField)
  /-- DPB: 0o137 (R471). -/
  | dpb (ac : AcNum) (m : EaField)
  /-- FAD: 0o140 (R513). -/
  | fad (ac : AcNum) (m : EaField)
  /-- FADM: 0o142 (R514). -/
  | fadm (ac : AcNum) (m : EaField)
  /-- FADB: 0o143 (R515). -/
  | fadb (ac : AcNum) (m : EaField)
  /-- FADR: 0o144 (R516). -/
  | fadr (ac : AcNum) (m : EaField)
  /-- FADRI: 0o145 (R517). -/
  | fadri (ac : AcNum) (m : EaField)
  /-- FADRM: 0o146 (R518). -/
  | fadrm (ac : AcNum) (m : EaField)
  /-- FADRB: 0o147 (R519). -/
  | fadrb (ac : AcNum) (m : EaField)
  /-- FSB: 0o150 (R520). -/
  | fsb (ac : AcNum) (m : EaField)
  /-- FSBM: 0o152 (R521). -/
  | fsbm (ac : AcNum) (m : EaField)
  /-- FSBB: 0o153 (R522). -/
  | fsbb (ac : AcNum) (m : EaField)
  /-- FSBR: 0o154 (R523). -/
  | fsbr (ac : AcNum) (m : EaField)
  /-- FSBRI: 0o155 (R524). -/
  | fsbri (ac : AcNum) (m : EaField)
  /-- FSBRM: 0o156 (R525). -/
  | fsbrm (ac : AcNum) (m : EaField)
  /-- FSBRB: 0o157 (R526). -/
  | fsbrb (ac : AcNum) (m : EaField)
  /-- FMP: 0o160 (R527). -/
  | fmp (ac : AcNum) (m : EaField)
  /-- FMPM: 0o162 (R528). -/
  | fmpm (ac : AcNum) (m : EaField)
  /-- FMPB: 0o163 (R529). -/
  | fmpb (ac : AcNum) (m : EaField)
  /-- FMPR: 0o164 (R530). -/
  | fmpr (ac : AcNum) (m : EaField)
  /-- FMPRI: 0o165 (R531). -/
  | fmpri (ac : AcNum) (m : EaField)
  /-- FMPRM: 0o166 (R532). -/
  | fmprm (ac : AcNum) (m : EaField)
  /-- FMPRB: 0o167 (R533). -/
  | fmprb (ac : AcNum) (m : EaField)
  /-- FDV: 0o170 (R534). -/
  | fdv (ac : AcNum) (m : EaField)
  /-- FDVM: 0o172 (R535). -/
  | fdvm (ac : AcNum) (m : EaField)
  /-- FDVB: 0o173 (R536). -/
  | fdvb (ac : AcNum) (m : EaField)
  /-- FDVR: 0o174 (R537). -/
  | fdvr (ac : AcNum) (m : EaField)
  /-- FDVRI: 0o175 (R538). -/
  | fdvri (ac : AcNum) (m : EaField)
  /-- FDVRM: 0o176 (R539). -/
  | fdvrm (ac : AcNum) (m : EaField)
  /-- FDVRB: 0o177 (R540). -/
  | fdvrb (ac : AcNum) (m : EaField)
  /-- MOVE: 0o200 (R604). -/
  | move (ac : AcNum) (m : EaField)
  /-- MOVEI: 0o201 (R605). -/
  | movei (ac : AcNum) (m : EaField)
  /-- MOVEM: 0o202 (R606). -/
  | movem (ac : AcNum) (m : EaField)
  /-- MOVES: 0o203 (R607). -/
  | moves (ac : AcNum) (m : EaField)
  /-- MOVS: 0o204 (R608). -/
  | movs (ac : AcNum) (m : EaField)
  /-- MOVSI: 0o205 (R609). -/
  | movsi (ac : AcNum) (m : EaField)
  /-- MOVSM: 0o206 (R610). -/
  | movsm (ac : AcNum) (m : EaField)
  /-- MOVSS: 0o207 (R611). -/
  | movss (ac : AcNum) (m : EaField)
  /-- MOVN: 0o210 (R612). -/
  | movn (ac : AcNum) (m : EaField)
  /-- MOVNI: 0o211 (R613). -/
  | movni (ac : AcNum) (m : EaField)
  /-- MOVNM: 0o212 (R614). -/
  | movnm (ac : AcNum) (m : EaField)
  /-- MOVNS: 0o213 (R615). -/
  | movns (ac : AcNum) (m : EaField)
  /-- MOVM: 0o214 (R616). -/
  | movm (ac : AcNum) (m : EaField)
  /-- MOVMI: 0o215 (R617). -/
  | movmi (ac : AcNum) (m : EaField)
  /-- MOVMM: 0o216 (R618). -/
  | movmm (ac : AcNum) (m : EaField)
  /-- MOVMS: 0o217 (R619). -/
  | movms (ac : AcNum) (m : EaField)
  /-- IMUL: 0o220 (R621). -/
  | imul (ac : AcNum) (m : EaField)
  /-- IMULI: 0o221 (R622). -/
  | imuli (ac : AcNum) (m : EaField)
  /-- IMULM: 0o222 (R623). -/
  | imulm (ac : AcNum) (m : EaField)
  /-- IMULB: 0o223 (R624). -/
  | imulb (ac : AcNum) (m : EaField)
  /-- MUL: 0o224 (R625). -/
  | mul (ac : AcNum) (m : EaField)
  /-- MULI: 0o225 (R626). -/
  | muli (ac : AcNum) (m : EaField)
  /-- MULM: 0o226 (R627). -/
  | mulm (ac : AcNum) (m : EaField)
  /-- MULB: 0o227 (R628). -/
  | mulb (ac : AcNum) (m : EaField)
  /-- IDIV: 0o230 (R630). -/
  | idiv (ac : AcNum) (m : EaField)
  /-- IDIVI: 0o231 (R631). -/
  | idivi (ac : AcNum) (m : EaField)
  /-- IDIVM: 0o232 (R632). -/
  | idivm (ac : AcNum) (m : EaField)
  /-- IDIVB: 0o233 (R633). -/
  | idivb (ac : AcNum) (m : EaField)
  /-- DIV: 0o234 (R634). -/
  | div (ac : AcNum) (m : EaField)
  /-- DIVI: 0o235 (R635). -/
  | divi (ac : AcNum) (m : EaField)
  /-- DIVM: 0o236 (R636). -/
  | divm (ac : AcNum) (m : EaField)
  /-- DIVB: 0o237 (R637). -/
  | divb (ac : AcNum) (m : EaField)
  /-- ASH: 0o240 (R661). -/
  | ash (ac : AcNum) (m : EaField)
  /-- ROT: 0o241 (R662). -/
  | rot (ac : AcNum) (m : EaField)
  /-- LSH: 0o242 (R663). -/
  | lsh (ac : AcNum) (m : EaField)
  /-- JFFO: 0o243 (R664). -/
  | jffo (ac : AcNum) (m : EaField)
  /-- ASHC: 0o244 (R665). -/
  | ashc (ac : AcNum) (m : EaField)
  /-- ROTC: 0o245 (R666). -/
  | rotc (ac : AcNum) (m : EaField)
  /-- LSHC: 0o246 (R667). -/
  | lshc (ac : AcNum) (m : EaField)
  /-- CIRC: 0o247, ITS only (R668). -/
  | circ (ac : AcNum) (m : EaField)
  /-- EXCH: 0o250 (R669). -/
  | exch (ac : AcNum) (m : EaField)
  /-- BLT: 0o251 (R670). -/
  | blt (ac : AcNum) (m : EaField)
  /-- AOBJP: 0o252 (R671). -/
  | aobjp (ac : AcNum) (m : EaField)
  /-- AOBJN: 0o253 (R672). -/
  | aobjn (ac : AcNum) (m : EaField)
  /-- JRST: 0o254, ac 0o0 (R674). -/
  | jrst (m : EaField)
  /-- PORTAL: 0o254, ac 0o1 (R675). -/
  | portal (m : EaField)
  /-- JRSTF: 0o254, ac 0o2 (R676). -/
  | jrstf (m : EaField)
  /-- HALT: 0o254, ac 0o4 (R677). -/
  | halt (m : EaField)
  /-- XJRSTF: 0o254, ac 0o5 (R678). -/
  | xjrstf (m : EaField)
  /-- XJEN: 0o254, ac 0o6 (R679). -/
  | xjen (m : EaField)
  /-- XPCW: 0o254, ac 0o7 (R680). -/
  | xpcw (m : EaField)
  /-- JRST10: 0o254, ac 0o10 (R681). -/
  | jrst10 (m : EaField)
  /-- JEN: 0o254, ac 0o12 (R682). -/
  | jen (m : EaField)
  /-- SFM: 0o254, ac 0o14 (R683). -/
  | sfm (m : EaField)
  /-- XJRST: 0o254, ac 0o15, ITS only (R684). -/
  | xjrst (m : EaField)
  /-- JFCL: 0o255 (R685). -/
  | jfcl (ac : AcNum) (m : EaField)
  /-- XCT: 0o256, ac 0o0 (R686). -/
  | xct (m : EaField)
  /-- PXCT: 0o256 (R687). -/
  | pxct (ac : AcNum) (m : EaField)
  /-- MAP: 0o257, not under ITS (R688). -/
  | map (ac : AcNum) (m : EaField)
  /-- PUSHJ: 0o260 (R690). -/
  | pushj (ac : AcNum) (m : EaField)
  /-- PUSH: 0o261 (R691). -/
  | push (ac : AcNum) (m : EaField)
  /-- POP: 0o262 (R692). -/
  | pop (ac : AcNum) (m : EaField)
  /-- POPJ: 0o263 (R693). -/
  | popj (ac : AcNum) (m : EaField)
  /-- JSR: 0o264 (R694). -/
  | jsr (ac : AcNum) (m : EaField)
  /-- JSP: 0o265 (R695). -/
  | jsp (ac : AcNum) (m : EaField)
  /-- JSA: 0o266 (R696). -/
  | jsa (ac : AcNum) (m : EaField)
  /-- JRA: 0o267 (R697). -/
  | jra (ac : AcNum) (m : EaField)
  /-- ADD: 0o270 (R638). -/
  | add (ac : AcNum) (m : EaField)
  /-- ADDI: 0o271 (R639). -/
  | addi (ac : AcNum) (m : EaField)
  /-- ADDM: 0o272 (R640). -/
  | addm (ac : AcNum) (m : EaField)
  /-- ADDB: 0o273 (R641). -/
  | addb (ac : AcNum) (m : EaField)
  /-- SUB: 0o274 (R642). -/
  | sub (ac : AcNum) (m : EaField)
  /-- SUBI: 0o275 (R643). -/
  | subi (ac : AcNum) (m : EaField)
  /-- SUBM: 0o276 (R644). -/
  | subm (ac : AcNum) (m : EaField)
  /-- SUBB: 0o277 (R645). -/
  | subb (ac : AcNum) (m : EaField)
  /-- CAI: 0o300 (R702). -/
  | cai (ac : AcNum) (m : EaField)
  /-- CAIL: 0o301 (R703). -/
  | cail (ac : AcNum) (m : EaField)
  /-- CAIE: 0o302 (R704). -/
  | caie (ac : AcNum) (m : EaField)
  /-- CAILE: 0o303 (R705). -/
  | caile (ac : AcNum) (m : EaField)
  /-- CAIA: 0o304 (R706). -/
  | caia (ac : AcNum) (m : EaField)
  /-- CAIGE: 0o305 (R707). -/
  | caige (ac : AcNum) (m : EaField)
  /-- CAIN: 0o306 (R708). -/
  | cain (ac : AcNum) (m : EaField)
  /-- CAIG: 0o307 (R709). -/
  | caig (ac : AcNum) (m : EaField)
  /-- CAM: 0o310 (R710). -/
  | cam (ac : AcNum) (m : EaField)
  /-- CAML: 0o311 (R711). -/
  | caml (ac : AcNum) (m : EaField)
  /-- CAME: 0o312 (R712). -/
  | came (ac : AcNum) (m : EaField)
  /-- CAMLE: 0o313 (R713). -/
  | camle (ac : AcNum) (m : EaField)
  /-- CAMA: 0o314 (R714). -/
  | cama (ac : AcNum) (m : EaField)
  /-- CAMGE: 0o315 (R715). -/
  | camge (ac : AcNum) (m : EaField)
  /-- CAMN: 0o316 (R716). -/
  | camn (ac : AcNum) (m : EaField)
  /-- CAMG: 0o317 (R717). -/
  | camg (ac : AcNum) (m : EaField)
  /-- JUMP: 0o320 (R718). -/
  | jump (ac : AcNum) (m : EaField)
  /-- JUMPL: 0o321 (R719). -/
  | jumpl (ac : AcNum) (m : EaField)
  /-- JUMPE: 0o322 (R720). -/
  | jumpe (ac : AcNum) (m : EaField)
  /-- JUMPLE: 0o323 (R721). -/
  | jumple (ac : AcNum) (m : EaField)
  /-- JUMPA: 0o324 (R722). -/
  | jumpa (ac : AcNum) (m : EaField)
  /-- JUMPGE: 0o325 (R723). -/
  | jumpge (ac : AcNum) (m : EaField)
  /-- JUMPN: 0o326 (R724). -/
  | jumpn (ac : AcNum) (m : EaField)
  /-- JUMPG: 0o327 (R725). -/
  | jumpg (ac : AcNum) (m : EaField)
  /-- SKIP: 0o330 (R726). -/
  | skip (ac : AcNum) (m : EaField)
  /-- SKIPL: 0o331 (R727). -/
  | skipl (ac : AcNum) (m : EaField)
  /-- SKIPE: 0o332 (R728). -/
  | skipe (ac : AcNum) (m : EaField)
  /-- SKIPLE: 0o333 (R729). -/
  | skiple (ac : AcNum) (m : EaField)
  /-- SKIPA: 0o334 (R730). -/
  | skipa (ac : AcNum) (m : EaField)
  /-- SKIPGE: 0o335 (R731). -/
  | skipge (ac : AcNum) (m : EaField)
  /-- SKIPN: 0o336 (R732). -/
  | skipn (ac : AcNum) (m : EaField)
  /-- SKIPG: 0o337 (R733). -/
  | skipg (ac : AcNum) (m : EaField)
  /-- AOJ: 0o340 (R734). -/
  | aoj (ac : AcNum) (m : EaField)
  /-- AOJL: 0o341 (R735). -/
  | aojl (ac : AcNum) (m : EaField)
  /-- AOJE: 0o342 (R736). -/
  | aoje (ac : AcNum) (m : EaField)
  /-- AOJLE: 0o343 (R737). -/
  | aojle (ac : AcNum) (m : EaField)
  /-- AOJA: 0o344 (R738). -/
  | aoja (ac : AcNum) (m : EaField)
  /-- AOJGE: 0o345 (R739). -/
  | aojge (ac : AcNum) (m : EaField)
  /-- AOJN: 0o346 (R740). -/
  | aojn (ac : AcNum) (m : EaField)
  /-- AOJG: 0o347 (R741). -/
  | aojg (ac : AcNum) (m : EaField)
  /-- AOS: 0o350 (R742). -/
  | aos (ac : AcNum) (m : EaField)
  /-- AOSL: 0o351 (R743). -/
  | aosl (ac : AcNum) (m : EaField)
  /-- AOSE: 0o352 (R744). -/
  | aose (ac : AcNum) (m : EaField)
  /-- AOSLE: 0o353 (R745). -/
  | aosle (ac : AcNum) (m : EaField)
  /-- AOSA: 0o354 (R746). -/
  | aosa (ac : AcNum) (m : EaField)
  /-- AOSGE: 0o355 (R747). -/
  | aosge (ac : AcNum) (m : EaField)
  /-- AOSN: 0o356 (R748). -/
  | aosn (ac : AcNum) (m : EaField)
  /-- AOSG: 0o357 (R749). -/
  | aosg (ac : AcNum) (m : EaField)
  /-- SOJ: 0o360 (R750). -/
  | soj (ac : AcNum) (m : EaField)
  /-- SOJL: 0o361 (R751). -/
  | sojl (ac : AcNum) (m : EaField)
  /-- SOJE: 0o362 (R752). -/
  | soje (ac : AcNum) (m : EaField)
  /-- SOJLE: 0o363 (R753). -/
  | sojle (ac : AcNum) (m : EaField)
  /-- SOJA: 0o364 (R754). -/
  | soja (ac : AcNum) (m : EaField)
  /-- SOJGE: 0o365 (R755). -/
  | sojge (ac : AcNum) (m : EaField)
  /-- SOJN: 0o366 (R756). -/
  | sojn (ac : AcNum) (m : EaField)
  /-- SOJG: 0o367 (R757). -/
  | sojg (ac : AcNum) (m : EaField)
  /-- SOS: 0o370 (R758). -/
  | sos (ac : AcNum) (m : EaField)
  /-- SOSL: 0o371 (R759). -/
  | sosl (ac : AcNum) (m : EaField)
  /-- SOSE: 0o372 (R760). -/
  | sose (ac : AcNum) (m : EaField)
  /-- SOSLE: 0o373 (R761). -/
  | sosle (ac : AcNum) (m : EaField)
  /-- SOSA: 0o374 (R762). -/
  | sosa (ac : AcNum) (m : EaField)
  /-- SOSGE: 0o375 (R763). -/
  | sosge (ac : AcNum) (m : EaField)
  /-- SOSN: 0o376 (R764). -/
  | sosn (ac : AcNum) (m : EaField)
  /-- SOSG: 0o377 (R765). -/
  | sosg (ac : AcNum) (m : EaField)
  /-- SETZ: 0o400 (R802). -/
  | setz (ac : AcNum) (m : EaField)
  /-- SETZI: 0o401 (R803). -/
  | setzi (ac : AcNum) (m : EaField)
  /-- SETZM: 0o402 (R804). -/
  | setzm (ac : AcNum) (m : EaField)
  /-- SETZB: 0o403 (R805). -/
  | setzb (ac : AcNum) (m : EaField)
  /-- AND: 0o404 (R806). -/
  | and (ac : AcNum) (m : EaField)
  /-- ANDI: 0o405 (R807). -/
  | andi (ac : AcNum) (m : EaField)
  /-- ANDM: 0o406 (R808). -/
  | andm (ac : AcNum) (m : EaField)
  /-- ANDB: 0o407 (R809). -/
  | andb (ac : AcNum) (m : EaField)
  /-- ANDCA: 0o410 (R810). -/
  | andca (ac : AcNum) (m : EaField)
  /-- ANDCAI: 0o411 (R811). -/
  | andcai (ac : AcNum) (m : EaField)
  /-- ANDCAM: 0o412 (R812). -/
  | andcam (ac : AcNum) (m : EaField)
  /-- ANDCAB: 0o413 (R813). -/
  | andcab (ac : AcNum) (m : EaField)
  /-- SETM: 0o414 (R814). -/
  | setm (ac : AcNum) (m : EaField)
  /-- SETMI: 0o415 (R815). -/
  | setmi (ac : AcNum) (m : EaField)
  /-- SETMM: 0o416 (R816). -/
  | setmm (ac : AcNum) (m : EaField)
  /-- SETMB: 0o417 (R817). -/
  | setmb (ac : AcNum) (m : EaField)
  /-- ANDCM: 0o420 (R818). -/
  | andcm (ac : AcNum) (m : EaField)
  /-- ANDCMI: 0o421 (R819). -/
  | andcmi (ac : AcNum) (m : EaField)
  /-- ANDCMM: 0o422 (R820). -/
  | andcmm (ac : AcNum) (m : EaField)
  /-- ANDCMB: 0o423 (R821). -/
  | andcmb (ac : AcNum) (m : EaField)
  /-- SETA: 0o424 (R822). -/
  | seta (ac : AcNum) (m : EaField)
  /-- SETAI: 0o425 (R823). -/
  | setai (ac : AcNum) (m : EaField)
  /-- SETAM: 0o426 (R824). -/
  | setam (ac : AcNum) (m : EaField)
  /-- SETAB: 0o427 (R825). -/
  | setab (ac : AcNum) (m : EaField)
  /-- XOR: 0o430 (R826). -/
  | xor (ac : AcNum) (m : EaField)
  /-- XORI: 0o431 (R827). -/
  | xori (ac : AcNum) (m : EaField)
  /-- XORM: 0o432 (R828). -/
  | xorm (ac : AcNum) (m : EaField)
  /-- XORB: 0o433 (R829). -/
  | xorb (ac : AcNum) (m : EaField)
  /-- IOR: 0o434 (R830). -/
  | ior (ac : AcNum) (m : EaField)
  /-- IORI: 0o435 (R831). -/
  | iori (ac : AcNum) (m : EaField)
  /-- IORM: 0o436 (R832). -/
  | iorm (ac : AcNum) (m : EaField)
  /-- IORB: 0o437 (R833). -/
  | iorb (ac : AcNum) (m : EaField)
  /-- ANDCB: 0o440 (R834). -/
  | andcb (ac : AcNum) (m : EaField)
  /-- ANDCBI: 0o441 (R835). -/
  | andcbi (ac : AcNum) (m : EaField)
  /-- ANDCBM: 0o442 (R836). -/
  | andcbm (ac : AcNum) (m : EaField)
  /-- ANDCBB: 0o443 (R837). -/
  | andcbb (ac : AcNum) (m : EaField)
  /-- EQV: 0o444 (R838). -/
  | eqv (ac : AcNum) (m : EaField)
  /-- EQVI: 0o445 (R839). -/
  | eqvi (ac : AcNum) (m : EaField)
  /-- EQVM: 0o446 (R840). -/
  | eqvm (ac : AcNum) (m : EaField)
  /-- EQVB: 0o447 (R841). -/
  | eqvb (ac : AcNum) (m : EaField)
  /-- SETCA: 0o450 (R842). -/
  | setca (ac : AcNum) (m : EaField)
  /-- SETCAI: 0o451 (R843). -/
  | setcai (ac : AcNum) (m : EaField)
  /-- SETCAM: 0o452 (R844). -/
  | setcam (ac : AcNum) (m : EaField)
  /-- SETCAB: 0o453 (R845). -/
  | setcab (ac : AcNum) (m : EaField)
  /-- ORCA: 0o454 (R846). -/
  | orca (ac : AcNum) (m : EaField)
  /-- ORCAI: 0o455 (R847). -/
  | orcai (ac : AcNum) (m : EaField)
  /-- ORCAM: 0o456 (R848). -/
  | orcam (ac : AcNum) (m : EaField)
  /-- ORCAB: 0o457 (R849). -/
  | orcab (ac : AcNum) (m : EaField)
  /-- SETCM: 0o460 (R850). -/
  | setcm (ac : AcNum) (m : EaField)
  /-- SETCMI: 0o461 (R851). -/
  | setcmi (ac : AcNum) (m : EaField)
  /-- SETCMM: 0o462 (R852). -/
  | setcmm (ac : AcNum) (m : EaField)
  /-- SETCMB: 0o463 (R853). -/
  | setcmb (ac : AcNum) (m : EaField)
  /-- ORCM: 0o464 (R854). -/
  | orcm (ac : AcNum) (m : EaField)
  /-- ORCMI: 0o465 (R855). -/
  | orcmi (ac : AcNum) (m : EaField)
  /-- ORCMM: 0o466 (R856). -/
  | orcmm (ac : AcNum) (m : EaField)
  /-- ORCMB: 0o467 (R857). -/
  | orcmb (ac : AcNum) (m : EaField)
  /-- ORCB: 0o470 (R858). -/
  | orcb (ac : AcNum) (m : EaField)
  /-- ORCBI: 0o471 (R859). -/
  | orcbi (ac : AcNum) (m : EaField)
  /-- ORCBM: 0o472 (R860). -/
  | orcbm (ac : AcNum) (m : EaField)
  /-- ORCBB: 0o473 (R861). -/
  | orcbb (ac : AcNum) (m : EaField)
  /-- SETO: 0o474 (R862). -/
  | seto (ac : AcNum) (m : EaField)
  /-- SETOI: 0o475 (R863). -/
  | setoi (ac : AcNum) (m : EaField)
  /-- SETOM: 0o476 (R864). -/
  | setom (ac : AcNum) (m : EaField)
  /-- SETOB: 0o477 (R865). -/
  | setob (ac : AcNum) (m : EaField)
  /-- HLL: 0o500 (R902). -/
  | hll (ac : AcNum) (m : EaField)
  /-- HLLI: 0o501 (R903). -/
  | hlli (ac : AcNum) (m : EaField)
  /-- HLLM: 0o502 (R904). -/
  | hllm (ac : AcNum) (m : EaField)
  /-- HLLS: 0o503 (R905). -/
  | hlls (ac : AcNum) (m : EaField)
  /-- HRL: 0o504 (R906). -/
  | hrl (ac : AcNum) (m : EaField)
  /-- HRLI: 0o505 (R907). -/
  | hrli (ac : AcNum) (m : EaField)
  /-- HRLM: 0o506 (R908). -/
  | hrlm (ac : AcNum) (m : EaField)
  /-- HRLS: 0o507 (R909). -/
  | hrls (ac : AcNum) (m : EaField)
  /-- HLLZ: 0o510 (R910). -/
  | hllz (ac : AcNum) (m : EaField)
  /-- HLLZI: 0o511 (R911). -/
  | hllzi (ac : AcNum) (m : EaField)
  /-- HLLZM: 0o512 (R912). -/
  | hllzm (ac : AcNum) (m : EaField)
  /-- HLLZS: 0o513 (R913). -/
  | hllzs (ac : AcNum) (m : EaField)
  /-- HRLZ: 0o514 (R914). -/
  | hrlz (ac : AcNum) (m : EaField)
  /-- HRLZI: 0o515 (R915). -/
  | hrlzi (ac : AcNum) (m : EaField)
  /-- HRLZM: 0o516 (R916). -/
  | hrlzm (ac : AcNum) (m : EaField)
  /-- HRLZS: 0o517 (R917). -/
  | hrlzs (ac : AcNum) (m : EaField)
  /-- HLLO: 0o520 (R918). -/
  | hllo (ac : AcNum) (m : EaField)
  /-- HLLOI: 0o521 (R919). -/
  | hlloi (ac : AcNum) (m : EaField)
  /-- HLLOM: 0o522 (R920). -/
  | hllom (ac : AcNum) (m : EaField)
  /-- HLLOS: 0o523 (R921). -/
  | hllos (ac : AcNum) (m : EaField)
  /-- HRLO: 0o524 (R922). -/
  | hrlo (ac : AcNum) (m : EaField)
  /-- HRLOI: 0o525 (R923). -/
  | hrloi (ac : AcNum) (m : EaField)
  /-- HRLOM: 0o526 (R924). -/
  | hrlom (ac : AcNum) (m : EaField)
  /-- HRLOS: 0o527 (R925). -/
  | hrlos (ac : AcNum) (m : EaField)
  /-- HLLE: 0o530 (R926). -/
  | hlle (ac : AcNum) (m : EaField)
  /-- HLLEI: 0o531 (R927). -/
  | hllei (ac : AcNum) (m : EaField)
  /-- HLLEM: 0o532 (R928). -/
  | hllem (ac : AcNum) (m : EaField)
  /-- HLLES: 0o533 (R929). -/
  | hlles (ac : AcNum) (m : EaField)
  /-- HRLE: 0o534 (R930). -/
  | hrle (ac : AcNum) (m : EaField)
  /-- HRLEI: 0o535 (R931). -/
  | hrlei (ac : AcNum) (m : EaField)
  /-- HRLEM: 0o536 (R932). -/
  | hrlem (ac : AcNum) (m : EaField)
  /-- HRLES: 0o537 (R933). -/
  | hrles (ac : AcNum) (m : EaField)
  /-- HRR: 0o540 (R934). -/
  | hrr (ac : AcNum) (m : EaField)
  /-- HRRI: 0o541 (R935). -/
  | hrri (ac : AcNum) (m : EaField)
  /-- HRRM: 0o542 (R936). -/
  | hrrm (ac : AcNum) (m : EaField)
  /-- HRRS: 0o543 (R937). -/
  | hrrs (ac : AcNum) (m : EaField)
  /-- HLR: 0o544 (R938). -/
  | hlr (ac : AcNum) (m : EaField)
  /-- HLRI: 0o545 (R939). -/
  | hlri (ac : AcNum) (m : EaField)
  /-- HLRM: 0o546 (R940). -/
  | hlrm (ac : AcNum) (m : EaField)
  /-- HLRS: 0o547 (R941). -/
  | hlrs (ac : AcNum) (m : EaField)
  /-- HRRZ: 0o550 (R942). -/
  | hrrz (ac : AcNum) (m : EaField)
  /-- HRRZI: 0o551 (R943). -/
  | hrrzi (ac : AcNum) (m : EaField)
  /-- HRRZM: 0o552 (R944). -/
  | hrrzm (ac : AcNum) (m : EaField)
  /-- HRRZS: 0o553 (R945). -/
  | hrrzs (ac : AcNum) (m : EaField)
  /-- HLRZ: 0o554 (R946). -/
  | hlrz (ac : AcNum) (m : EaField)
  /-- HLRZI: 0o555 (R947). -/
  | hlrzi (ac : AcNum) (m : EaField)
  /-- HLRZM: 0o556 (R948). -/
  | hlrzm (ac : AcNum) (m : EaField)
  /-- HLRZS: 0o557 (R949). -/
  | hlrzs (ac : AcNum) (m : EaField)
  /-- HRRO: 0o560 (R950). -/
  | hrro (ac : AcNum) (m : EaField)
  /-- HRROI: 0o561 (R951). -/
  | hrroi (ac : AcNum) (m : EaField)
  /-- HRROM: 0o562 (R952). -/
  | hrrom (ac : AcNum) (m : EaField)
  /-- HRROS: 0o563 (R953). -/
  | hrros (ac : AcNum) (m : EaField)
  /-- HLRO: 0o564 (R954). -/
  | hlro (ac : AcNum) (m : EaField)
  /-- HLROI: 0o565 (R955). -/
  | hlroi (ac : AcNum) (m : EaField)
  /-- HLROM: 0o566 (R956). -/
  | hlrom (ac : AcNum) (m : EaField)
  /-- HLROS: 0o567 (R957). -/
  | hlros (ac : AcNum) (m : EaField)
  /-- HRRE: 0o570 (R958). -/
  | hrre (ac : AcNum) (m : EaField)
  /-- HRREI: 0o571 (R959). -/
  | hrrei (ac : AcNum) (m : EaField)
  /-- HRREM: 0o572 (R960). -/
  | hrrem (ac : AcNum) (m : EaField)
  /-- HRRES: 0o573 (R961). -/
  | hrres (ac : AcNum) (m : EaField)
  /-- HLRE: 0o574 (R962). -/
  | hlre (ac : AcNum) (m : EaField)
  /-- HLREI: 0o575 (R963). -/
  | hlrei (ac : AcNum) (m : EaField)
  /-- HLREM: 0o576 (R964). -/
  | hlrem (ac : AcNum) (m : EaField)
  /-- HLRES: 0o577 (R965). -/
  | hlres (ac : AcNum) (m : EaField)
  /-- TRN: 0o600 (R982). -/
  | trn (ac : AcNum) (m : EaField)
  /-- TLN: 0o601 (R983). -/
  | tln (ac : AcNum) (m : EaField)
  /-- TRNE: 0o602 (R984). -/
  | trne (ac : AcNum) (m : EaField)
  /-- TLNE: 0o603 (R985). -/
  | tlne (ac : AcNum) (m : EaField)
  /-- TRNA: 0o604 (R986). -/
  | trna (ac : AcNum) (m : EaField)
  /-- TLNA: 0o605 (R987). -/
  | tlna (ac : AcNum) (m : EaField)
  /-- TRNN: 0o606 (R988). -/
  | trnn (ac : AcNum) (m : EaField)
  /-- TLNN: 0o607 (R989). -/
  | tlnn (ac : AcNum) (m : EaField)
  /-- TDN: 0o610 (R990). -/
  | tdn (ac : AcNum) (m : EaField)
  /-- TSN: 0o611 (R991). -/
  | tsn (ac : AcNum) (m : EaField)
  /-- TDNE: 0o612 (R992). -/
  | tdne (ac : AcNum) (m : EaField)
  /-- TSNE: 0o613 (R993). -/
  | tsne (ac : AcNum) (m : EaField)
  /-- TDNA: 0o614 (R994). -/
  | tdna (ac : AcNum) (m : EaField)
  /-- TSNA: 0o615 (R995). -/
  | tsna (ac : AcNum) (m : EaField)
  /-- TDNN: 0o616 (R996). -/
  | tdnn (ac : AcNum) (m : EaField)
  /-- TSNN: 0o617 (R997). -/
  | tsnn (ac : AcNum) (m : EaField)
  /-- TRZ: 0o620 (R998). -/
  | trz (ac : AcNum) (m : EaField)
  /-- TLZ: 0o621 (R999). -/
  | tlz (ac : AcNum) (m : EaField)
  /-- TRZE: 0o622 (R1000). -/
  | trze (ac : AcNum) (m : EaField)
  /-- TLZE: 0o623 (R1001). -/
  | tlze (ac : AcNum) (m : EaField)
  /-- TRZA: 0o624 (R1002). -/
  | trza (ac : AcNum) (m : EaField)
  /-- TLZA: 0o625 (R1003). -/
  | tlza (ac : AcNum) (m : EaField)
  /-- TRZN: 0o626 (R1004). -/
  | trzn (ac : AcNum) (m : EaField)
  /-- TLZN: 0o627 (R1005). -/
  | tlzn (ac : AcNum) (m : EaField)
  /-- TDZ: 0o630 (R1006). -/
  | tdz (ac : AcNum) (m : EaField)
  /-- TSZ: 0o631 (R1007). -/
  | tsz (ac : AcNum) (m : EaField)
  /-- TDZE: 0o632 (R1008). -/
  | tdze (ac : AcNum) (m : EaField)
  /-- TSZE: 0o633 (R1009). -/
  | tsze (ac : AcNum) (m : EaField)
  /-- TDZA: 0o634 (R1010). -/
  | tdza (ac : AcNum) (m : EaField)
  /-- TSZA: 0o635 (R1011). -/
  | tsza (ac : AcNum) (m : EaField)
  /-- TDZN: 0o636 (R1012). -/
  | tdzn (ac : AcNum) (m : EaField)
  /-- TSZN: 0o637 (R1013). -/
  | tszn (ac : AcNum) (m : EaField)
  /-- TRC: 0o640 (R1014). -/
  | trc (ac : AcNum) (m : EaField)
  /-- TLC: 0o641 (R1015). -/
  | tlc (ac : AcNum) (m : EaField)
  /-- TRCE: 0o642 (R1016). -/
  | trce (ac : AcNum) (m : EaField)
  /-- TLCE: 0o643 (R1017). -/
  | tlce (ac : AcNum) (m : EaField)
  /-- TRCA: 0o644 (R1018). -/
  | trca (ac : AcNum) (m : EaField)
  /-- TLCA: 0o645 (R1019). -/
  | tlca (ac : AcNum) (m : EaField)
  /-- TRCN: 0o646 (R1020). -/
  | trcn (ac : AcNum) (m : EaField)
  /-- TLCN: 0o647 (R1021). -/
  | tlcn (ac : AcNum) (m : EaField)
  /-- TDC: 0o650 (R1022). -/
  | tdc (ac : AcNum) (m : EaField)
  /-- TSC: 0o651 (R1023). -/
  | tsc (ac : AcNum) (m : EaField)
  /-- TDCE: 0o652 (R1024). -/
  | tdce (ac : AcNum) (m : EaField)
  /-- TSCE: 0o653 (R1025). -/
  | tsce (ac : AcNum) (m : EaField)
  /-- TDCA: 0o654 (R1026). -/
  | tdca (ac : AcNum) (m : EaField)
  /-- TSCA: 0o655 (R1027). -/
  | tsca (ac : AcNum) (m : EaField)
  /-- TDCN: 0o656 (R1028). -/
  | tdcn (ac : AcNum) (m : EaField)
  /-- TSCN: 0o657 (R1029). -/
  | tscn (ac : AcNum) (m : EaField)
  /-- TRO: 0o660 (R1030). -/
  | tro (ac : AcNum) (m : EaField)
  /-- TLO: 0o661 (R1031). -/
  | tlo (ac : AcNum) (m : EaField)
  /-- TROE: 0o662 (R1032). -/
  | troe (ac : AcNum) (m : EaField)
  /-- TLOE: 0o663 (R1033). -/
  | tloe (ac : AcNum) (m : EaField)
  /-- TROA: 0o664 (R1034). -/
  | troa (ac : AcNum) (m : EaField)
  /-- TLOA: 0o665 (R1035). -/
  | tloa (ac : AcNum) (m : EaField)
  /-- TRON: 0o666 (R1036). -/
  | tron (ac : AcNum) (m : EaField)
  /-- TLON: 0o667 (R1037). -/
  | tlon (ac : AcNum) (m : EaField)
  /-- TDO: 0o670 (R1038). -/
  | tdo (ac : AcNum) (m : EaField)
  /-- TSO: 0o671 (R1039). -/
  | tso (ac : AcNum) (m : EaField)
  /-- TDOE: 0o672 (R1040). -/
  | tdoe (ac : AcNum) (m : EaField)
  /-- TSOE: 0o673 (R1041). -/
  | tsoe (ac : AcNum) (m : EaField)
  /-- TDOA: 0o674 (R1042). -/
  | tdoa (ac : AcNum) (m : EaField)
  /-- TSOA: 0o675 (R1043). -/
  | tsoa (ac : AcNum) (m : EaField)
  /-- TDON: 0o676 (R1044). -/
  | tdon (ac : AcNum) (m : EaField)
  /-- TSON: 0o677 (R1045). -/
  | tson (ac : AcNum) (m : EaField)
  /-- APRID: 0o700, ac 0o0 (R1101). -/
  | aprid (m : EaField)
  /-- WRAPR: 0o700, ac 0o4 (R1102). -/
  | wrapr (m : EaField)
  /-- RDAPR: 0o700, ac 0o5 (R1104). -/
  | rdapr (m : EaField)
  /-- CONSZAPR: 0o700, ac 0o6 (R1105). -/
  | conszapr (m : EaField)
  /-- CONSOAPR: 0o700, ac 0o7 (R1106). -/
  | consoapr (m : EaField)
  /-- WRPI: 0o700, ac 0o14 (R1107). -/
  | wrpi (m : EaField)
  /-- RDPI: 0o700, ac 0o15 (R1108). -/
  | rdpi (m : EaField)
  /-- CONSZPI: 0o700, ac 0o16 (R1109). -/
  | conszpi (m : EaField)
  /-- CONSOPI: 0o700, ac 0o17 (R1110). -/
  | consopi (m : EaField)
  /-- CLRCSH: 0o701, ac 0o0, ITS only (R1113). -/
  | clrcsh (m : EaField)
  /-- RDUBR: 0o701, ac 0o1 (R1114). -/
  | rdubr (m : EaField)
  /-- CLRPT: 0o701, ac 0o2 (R1115). -/
  | clrpt (m : EaField)
  /-- WRUBR: 0o701, ac 0o3 (R1116). -/
  | wrubr (m : EaField)
  /-- WREBR: 0o701, ac 0o4 (R1118). -/
  | wrebr (m : EaField)
  /-- RDEBR: 0o701, ac 0o5 (R1119). -/
  | rdebr (m : EaField)
  /-- RDSPB: 0o702, ac 0o0, not under ITS (R1120). -/
  | rdspb (m : EaField)
  /-- SDBR1: 0o702, ac 0o0, ITS only (R1130). -/
  | sdbr1 (m : EaField)
  /-- RDCSB: 0o702, ac 0o1, not under ITS (R1121). -/
  | rdcsb (m : EaField)
  /-- SDBR2: 0o702, ac 0o1, ITS only (R1131). -/
  | sdbr2 (m : EaField)
  /-- RDPUR: 0o702, ac 0o2, not under ITS (R1122). -/
  | rdpur (m : EaField)
  /-- SDBR3: 0o702, ac 0o2, ITS only (R1132). -/
  | sdbr3 (m : EaField)
  /-- RDCSTM: 0o702, ac 0o3, not under ITS (R1123). -/
  | rdcstm (m : EaField)
  /-- SDBR4: 0o702, ac 0o3, ITS only (R1133). -/
  | sdbr4 (m : EaField)
  /-- RDTIM: 0o702, ac 0o4 (R1128). -/
  | rdtim (m : EaField)
  /-- RDINT: 0o702, ac 0o5 (R1141). -/
  | rdint (m : EaField)
  /-- RDHSB: 0o702, ac 0o6 (R1143). -/
  | rdhsb (m : EaField)
  /-- SPM: 0o702, ac 0o7, ITS only (R1138). -/
  | spm (m : EaField)
  /-- WRSPB: 0o702, ac 0o10, not under ITS (R1124). -/
  | wrspb (m : EaField)
  /-- LDBR1: 0o702, ac 0o10, ITS only (R1134). -/
  | ldbr1 (m : EaField)
  /-- WRCSB: 0o702, ac 0o11, not under ITS (R1125). -/
  | wrcsb (m : EaField)
  /-- LDBR2: 0o702, ac 0o11, ITS only (R1135). -/
  | ldbr2 (m : EaField)
  /-- WRPUR: 0o702, ac 0o12, not under ITS (R1126). -/
  | wrpur (m : EaField)
  /-- LDBR3: 0o702, ac 0o12, ITS only (R1136). -/
  | ldbr3 (m : EaField)
  /-- WRCSTM: 0o702, ac 0o13, not under ITS (R1127). -/
  | wrcstm (m : EaField)
  /-- LDBR4: 0o702, ac 0o13, ITS only (R1137). -/
  | ldbr4 (m : EaField)
  /-- WRTIM: 0o702, ac 0o14 (R1129). -/
  | wrtim (m : EaField)
  /-- WRINT: 0o702, ac 0o15 (R1142). -/
  | wrint (m : EaField)
  /-- WRHSB: 0o702, ac 0o16 (R1144). -/
  | wrhsb (m : EaField)
  /-- LPMR: 0o702, ac 0o17, ITS only (R1139). -/
  | lpmr (m : EaField)
  /-- UMOVE: 0o704 (R1145). -/
  | umove (ac : AcNum) (m : EaField)
  /-- UMOVEM: 0o705 (R1146). -/
  | umovem (ac : AcNum) (m : EaField)
  /-- TIOE: 0o710, not under ITS (R1150). -/
  | tioe (ac : AcNum) (m : EaField)
  /-- IORDI: 0o710, ITS only (R1165). -/
  | iordi (ac : AcNum) (m : EaField)
  /-- TION: 0o711, not under ITS (R1151). -/
  | tion (ac : AcNum) (m : EaField)
  /-- IORDQ: 0o711, ITS only (R1166). -/
  | iordq (ac : AcNum) (m : EaField)
  /-- RDIO: 0o712, not under ITS (R1152). -/
  | rdio (ac : AcNum) (m : EaField)
  /-- IORD: 0o712, ITS only (R1167). -/
  | iord (ac : AcNum) (m : EaField)
  /-- WRIO: 0o713, not under ITS (R1153). -/
  | wrio (ac : AcNum) (m : EaField)
  /-- IOWR: 0o713, ITS only (R1168). -/
  | iowr (ac : AcNum) (m : EaField)
  /-- BSIO: 0o714, not under ITS (R1154). -/
  | bsio (ac : AcNum) (m : EaField)
  /-- IOWRI: 0o714, ITS only (R1169). -/
  | iowri (ac : AcNum) (m : EaField)
  /-- BCIO: 0o715, not under ITS (R1155). -/
  | bcio (ac : AcNum) (m : EaField)
  /-- IOWRQ: 0o715, ITS only (R1170). -/
  | iowrq (ac : AcNum) (m : EaField)
  /-- BLTBU: 0o716 (R1156). -/
  | bltbu (ac : AcNum) (m : EaField)
  /-- BLTUB: 0o717 (R1157). -/
  | bltub (ac : AcNum) (m : EaField)
  /-- TIOEB: 0o720, not under ITS (R1158). -/
  | tioeb (ac : AcNum) (m : EaField)
  /-- IORDBI: 0o720, ITS only (R1171). -/
  | iordbi (ac : AcNum) (m : EaField)
  /-- TIONB: 0o721, not under ITS (R1159). -/
  | tionb (ac : AcNum) (m : EaField)
  /-- IORDBQ: 0o721, ITS only (R1172). -/
  | iordbq (ac : AcNum) (m : EaField)
  /-- RDIOB: 0o722, not under ITS (R1160). -/
  | rdiob (ac : AcNum) (m : EaField)
  /-- IORDB: 0o722, ITS only (R1173). -/
  | iordb (ac : AcNum) (m : EaField)
  /-- WRIOB: 0o723, not under ITS (R1161). -/
  | wriob (ac : AcNum) (m : EaField)
  /-- IOWRB: 0o723, ITS only (R1174). -/
  | iowrb (ac : AcNum) (m : EaField)
  /-- BSIOB: 0o724, not under ITS (R1162). -/
  | bsiob (ac : AcNum) (m : EaField)
  /-- IOWRBI: 0o724, ITS only (R1175). -/
  | iowrbi (ac : AcNum) (m : EaField)
  /-- BCIOB: 0o725, not under ITS (R1163). -/
  | bciob (ac : AcNum) (m : EaField)
  /-- IOWRBQ: 0o725, ITS only (R1176). -/
  | iowrbq (ac : AcNum) (m : EaField)
  /-- CMPSL: EXTEND sub-opcode 0o001 (R553). -/
  | cmpsl (ac : AcNum) (e0 : VAddr) (m : EaField)
  /-- CMPSE: EXTEND sub-opcode 0o002 (R554). -/
  | cmpse (ac : AcNum) (e0 : VAddr) (m : EaField)
  /-- CMPSLE: EXTEND sub-opcode 0o003 (R555). -/
  | cmpsle (ac : AcNum) (e0 : VAddr) (m : EaField)
  /-- EDIT: EXTEND sub-opcode 0o004 (R556). -/
  | edit (ac : AcNum) (e0 : VAddr) (m : EaField)
  /-- CMPSGE: EXTEND sub-opcode 0o005 (R557). -/
  | cmpsge (ac : AcNum) (e0 : VAddr) (m : EaField)
  /-- CMPSN: EXTEND sub-opcode 0o006 (R558). -/
  | cmpsn (ac : AcNum) (e0 : VAddr) (m : EaField)
  /-- CMPSG: EXTEND sub-opcode 0o007 (R559). -/
  | cmpsg (ac : AcNum) (e0 : VAddr) (m : EaField)
  /-- CVTDBO: EXTEND sub-opcode 0o010 (R560). -/
  | cvtdbo (ac : AcNum) (e0 : VAddr) (m : EaField)
  /-- CVTDBT: EXTEND sub-opcode 0o011 (R561). -/
  | cvtdbt (ac : AcNum) (e0 : VAddr) (m : EaField)
  /-- CVTBDO: EXTEND sub-opcode 0o012 (R562). -/
  | cvtbdo (ac : AcNum) (e0 : VAddr) (m : EaField)
  /-- CVTBDT: EXTEND sub-opcode 0o013 (R563). -/
  | cvtbdt (ac : AcNum) (e0 : VAddr) (m : EaField)
  /-- MOVSO: EXTEND sub-opcode 0o014 (R564). -/
  | movso (ac : AcNum) (e0 : VAddr) (m : EaField)
  /-- MOVST: EXTEND sub-opcode 0o015 (R565). -/
  | movst (ac : AcNum) (e0 : VAddr) (m : EaField)
  /-- MOVSLJ: EXTEND sub-opcode 0o016 (R566). -/
  | movslj (ac : AcNum) (e0 : VAddr) (m : EaField)
  /-- MOVSRJ: EXTEND sub-opcode 0o017 (R567). -/
  | movsrj (ac : AcNum) (e0 : VAddr) (m : EaField)
  deriving DecidableEq, Repr

end Sys2Proof
end

