-- ==== Sys2Proof/WellFormed.lean ====
section
/-! DEFINITION. Which instruction terms stand for words of the opcode table under a configuration (30_encoding.md rules
R331, R340, R341). -/

namespace Sys2Proof

/-- XJRST exists: under ITS, or when `XJRST_GATE` is `ALWAYS` (R684, D32). -/
def Config.hasXjrst (c : Config) : Bool := c.its || c.xjrstAlways

/-- The MUUO encodings (R340, R673, R1100, R1180). -/
def isMuuo (c : Config) (op : BitVec 9) (ac : AcNum) : Bool :=
  let o := op.toNat
  let a := ac.toNat
  o == 0 || (0o40 ≤ o && o ≤ 0o77) ||
    [0o100, 0o101, 0o104, 0o106, 0o107, 0o130, 0o131, 0o141, 0o151, 0o161, 0o171].contains o ||
    ([0o102, 0o103, 0o247].contains o && !c.its) || (o == 0o257 && c.its) ||
    (o == 0o254 && ([0o3, 0o11, 0o13, 0o16, 0o17].contains a || (a == 0o15 && !c.hasXjrst))) ||
    (o == 0o700 && [0o1, 0o2, 0o3, 0o10, 0o11, 0o12, 0o13].contains a) ||
    (o == 0o701 && (0o6 ≤ a || (a == 0 && !c.its))) ||
    (o == 0o702 && ((a == 0o7 || a == 0o17) && !c.its)) ||
    [0o703, 0o706, 0o707].contains o || 0o726 ≤ o

/-- Well-formed under a configuration: the instruction's gate holds (R331), ADJBP and PXCT have a nonzero AC field
(R466, R467, R687), and `muuo` carries an MUUO encoding (R340). -/
def Instr.wf (c : Config) : Instr → Bool
  | .muuo op ac _ => isMuuo c op ac
  | .adjbp ac _ => ac != 0
  | .pxct ac _ => ac != 0
  | .xjrst _ => c.hasXjrst
  | .xctri _ _ | .xctr _ _ | .circ _ _ | .clrcsh _ | .sdbr1 _ | .sdbr2 _ | .sdbr3 _ | .sdbr4 _ | .spm _
  | .ldbr1 _ | .ldbr2 _ | .ldbr3 _ | .ldbr4 _ | .lpmr _ | .iordi _ _ | .iordq _ _ | .iord _ _ | .iowr _ _
  | .iowri _ _ | .iowrq _ _ | .iordbi _ _ | .iordbq _ _ | .iordb _ _ | .iowrb _ _ | .iowrbi _ _ | .iowrbq _ _ => c.its
  | .map _ _ | .rdspb _ | .rdcsb _ | .rdpur _ | .rdcstm _ | .wrspb _ | .wrcsb _ | .wrpur _ | .wrcstm _
  | .tioe _ _ | .tion _ _ | .rdio _ _ | .wrio _ _ | .bsio _ _ | .bcio _ _ | .tioeb _ _ | .tionb _ _
  | .rdiob _ _ | .wriob _ _ | .bsiob _ _ | .bciob _ _ => !c.its
  | .luuo01 _ _ | .luuo02 _ _ | .luuo03 _ _ | .luuo04 _ _ | .luuo05 _ _ | .luuo06 _ _ | .luuo07 _ _
  | .luuo10 _ _ | .luuo11 _ _ | .luuo12 _ _ | .luuo13 _ _ | .luuo14 _ _ | .luuo15 _ _ | .luuo16 _ _
  | .luuo17 _ _ | .luuo20 _ _ | .luuo21 _ _ | .luuo22 _ _ | .luuo23 _ _ | .luuo24 _ _ | .luuo25 _ _
  | .luuo26 _ _ | .luuo27 _ _ | .luuo30 _ _ | .luuo31 _ _ | .luuo32 _ _ | .luuo33 _ _ | .luuo34 _ _
  | .luuo35 _ _ | .luuo36 _ _ | .luuo37 _ _ | .adjsp _ _ | .dfad _ _ | .dfsb _ _ | .dfmp _ _ | .dfdv _ _
  | .dadd _ _ | .dsub _ _ | .dmul _ _ | .ddiv _ _ | .dmove _ _ | .dmovn _ _ | .fix _ _ | .extend _ _
  | .dmovem _ _ | .dmovnm _ _ | .fixr _ _ | .fltr _ _ | .fsc _ _ | .ibp _ | .ildb _ _ | .ldb _ _ | .idpb _ _
  | .dpb _ _ | .fad _ _ | .fadm _ _ | .fadb _ _ | .fadr _ _ | .fadri _ _ | .fadrm _ _ | .fadrb _ _ | .fsb _ _
  | .fsbm _ _ | .fsbb _ _ | .fsbr _ _ | .fsbri _ _ | .fsbrm _ _ | .fsbrb _ _ | .fmp _ _ | .fmpm _ _
  | .fmpb _ _ | .fmpr _ _ | .fmpri _ _ | .fmprm _ _ | .fmprb _ _ | .fdv _ _ | .fdvm _ _ | .fdvb _ _
  | .fdvr _ _ | .fdvri _ _ | .fdvrm _ _ | .fdvrb _ _ | .move _ _ | .movei _ _ | .movem _ _ | .moves _ _
  | .movs _ _ | .movsi _ _ | .movsm _ _ | .movss _ _ | .movn _ _ | .movni _ _ | .movnm _ _ | .movns _ _
  | .movm _ _ | .movmi _ _ | .movmm _ _ | .movms _ _ | .imul _ _ | .imuli _ _ | .imulm _ _ | .imulb _ _
  | .mul _ _ | .muli _ _ | .mulm _ _ | .mulb _ _ | .idiv _ _ | .idivi _ _ | .idivm _ _ | .idivb _ _ | .div _ _
  | .divi _ _ | .divm _ _ | .divb _ _ | .ash _ _ | .rot _ _ | .lsh _ _ | .jffo _ _ | .ashc _ _ | .rotc _ _
  | .lshc _ _ | .exch _ _ | .blt _ _ | .aobjp _ _ | .aobjn _ _ | .jrst _ | .portal _ | .jrstf _ | .halt _
  | .xjrstf _ | .xjen _ | .xpcw _ | .jrst10 _ | .jen _ | .sfm _ | .jfcl _ _ | .xct _ | .pushj _ _ | .push _ _
  | .pop _ _ | .popj _ _ | .jsr _ _ | .jsp _ _ | .jsa _ _ | .jra _ _ | .add _ _ | .addi _ _ | .addm _ _
  | .addb _ _ | .sub _ _ | .subi _ _ | .subm _ _ | .subb _ _ | .cai _ _ | .cail _ _ | .caie _ _ | .caile _ _
  | .caia _ _ | .caige _ _ | .cain _ _ | .caig _ _ | .cam _ _ | .caml _ _ | .came _ _ | .camle _ _ | .cama _ _
  | .camge _ _ | .camn _ _ | .camg _ _ | .jump _ _ | .jumpl _ _ | .jumpe _ _ | .jumple _ _ | .jumpa _ _
  | .jumpge _ _ | .jumpn _ _ | .jumpg _ _ | .skip _ _ | .skipl _ _ | .skipe _ _ | .skiple _ _ | .skipa _ _
  | .skipge _ _ | .skipn _ _ | .skipg _ _ | .aoj _ _ | .aojl _ _ | .aoje _ _ | .aojle _ _ | .aoja _ _
  | .aojge _ _ | .aojn _ _ | .aojg _ _ | .aos _ _ | .aosl _ _ | .aose _ _ | .aosle _ _ | .aosa _ _
  | .aosge _ _ | .aosn _ _ | .aosg _ _ | .soj _ _ | .sojl _ _ | .soje _ _ | .sojle _ _ | .soja _ _
  | .sojge _ _ | .sojn _ _ | .sojg _ _ | .sos _ _ | .sosl _ _ | .sose _ _ | .sosle _ _ | .sosa _ _
  | .sosge _ _ | .sosn _ _ | .sosg _ _ | .setz _ _ | .setzi _ _ | .setzm _ _ | .setzb _ _ | .and _ _
  | .andi _ _ | .andm _ _ | .andb _ _ | .andca _ _ | .andcai _ _ | .andcam _ _ | .andcab _ _ | .setm _ _
  | .setmi _ _ | .setmm _ _ | .setmb _ _ | .andcm _ _ | .andcmi _ _ | .andcmm _ _ | .andcmb _ _ | .seta _ _
  | .setai _ _ | .setam _ _ | .setab _ _ | .xor _ _ | .xori _ _ | .xorm _ _ | .xorb _ _ | .ior _ _ | .iori _ _
  | .iorm _ _ | .iorb _ _ | .andcb _ _ | .andcbi _ _ | .andcbm _ _ | .andcbb _ _ | .eqv _ _ | .eqvi _ _
  | .eqvm _ _ | .eqvb _ _ | .setca _ _ | .setcai _ _ | .setcam _ _ | .setcab _ _ | .orca _ _ | .orcai _ _
  | .orcam _ _ | .orcab _ _ | .setcm _ _ | .setcmi _ _ | .setcmm _ _ | .setcmb _ _ | .orcm _ _ | .orcmi _ _
  | .orcmm _ _ | .orcmb _ _ | .orcb _ _ | .orcbi _ _ | .orcbm _ _ | .orcbb _ _ | .seto _ _ | .setoi _ _
  | .setom _ _ | .setob _ _ | .hll _ _ | .hlli _ _ | .hllm _ _ | .hlls _ _ | .hrl _ _ | .hrli _ _ | .hrlm _ _
  | .hrls _ _ | .hllz _ _ | .hllzi _ _ | .hllzm _ _ | .hllzs _ _ | .hrlz _ _ | .hrlzi _ _ | .hrlzm _ _
  | .hrlzs _ _ | .hllo _ _ | .hlloi _ _ | .hllom _ _ | .hllos _ _ | .hrlo _ _ | .hrloi _ _ | .hrlom _ _
  | .hrlos _ _ | .hlle _ _ | .hllei _ _ | .hllem _ _ | .hlles _ _ | .hrle _ _ | .hrlei _ _ | .hrlem _ _
  | .hrles _ _ | .hrr _ _ | .hrri _ _ | .hrrm _ _ | .hrrs _ _ | .hlr _ _ | .hlri _ _ | .hlrm _ _ | .hlrs _ _
  | .hrrz _ _ | .hrrzi _ _ | .hrrzm _ _ | .hrrzs _ _ | .hlrz _ _ | .hlrzi _ _ | .hlrzm _ _ | .hlrzs _ _
  | .hrro _ _ | .hrroi _ _ | .hrrom _ _ | .hrros _ _ | .hlro _ _ | .hlroi _ _ | .hlrom _ _ | .hlros _ _
  | .hrre _ _ | .hrrei _ _ | .hrrem _ _ | .hrres _ _ | .hlre _ _ | .hlrei _ _ | .hlrem _ _ | .hlres _ _
  | .trn _ _ | .tln _ _ | .trne _ _ | .tlne _ _ | .trna _ _ | .tlna _ _ | .trnn _ _ | .tlnn _ _ | .tdn _ _
  | .tsn _ _ | .tdne _ _ | .tsne _ _ | .tdna _ _ | .tsna _ _ | .tdnn _ _ | .tsnn _ _ | .trz _ _ | .tlz _ _
  | .trze _ _ | .tlze _ _ | .trza _ _ | .tlza _ _ | .trzn _ _ | .tlzn _ _ | .tdz _ _ | .tsz _ _ | .tdze _ _
  | .tsze _ _ | .tdza _ _ | .tsza _ _ | .tdzn _ _ | .tszn _ _ | .trc _ _ | .tlc _ _ | .trce _ _ | .tlce _ _
  | .trca _ _ | .tlca _ _ | .trcn _ _ | .tlcn _ _ | .tdc _ _ | .tsc _ _ | .tdce _ _ | .tsce _ _ | .tdca _ _
  | .tsca _ _ | .tdcn _ _ | .tscn _ _ | .tro _ _ | .tlo _ _ | .troe _ _ | .tloe _ _ | .troa _ _ | .tloa _ _
  | .tron _ _ | .tlon _ _ | .tdo _ _ | .tso _ _ | .tdoe _ _ | .tsoe _ _ | .tdoa _ _ | .tsoa _ _ | .tdon _ _
  | .tson _ _ | .aprid _ | .wrapr _ | .rdapr _ | .conszapr _ | .consoapr _ | .wrpi _ | .rdpi _ | .conszpi _
  | .consopi _ | .rdubr _ | .clrpt _ | .wrubr _ | .wrebr _ | .rdebr _ | .rdtim _ | .rdint _ | .rdhsb _
  | .wrtim _ | .wrint _ | .wrhsb _ | .umove _ _ | .umovem _ _ | .bltbu _ _ | .bltub _ _ | .cmpsl _ _ _
  | .cmpse _ _ _ | .cmpsle _ _ _ | .edit _ _ _ | .cmpsge _ _ _ | .cmpsn _ _ _ | .cmpsg _ _ _ | .cvtdbo _ _ _
  | .cvtdbt _ _ _ | .cvtbdo _ _ _ | .cvtbdt _ _ _ | .movso _ _ _ | .movst _ _ _ | .movslj _ _ _
  | .movsrj _ _ _ => true

end Sys2Proof
end

