-- ==== Sys2Proof/Decode.lean ====
section
/-! DEFINITION. The decoder and the encoder (30_encoding.md sections 1 and 4, opcode_table.json). -/

namespace Sys2Proof

/-- `op`, DEC bits 0-8 (R301). -/
def opField (w : Word) : BitVec 9 := w.extractLsb' 27 9

/-- `ac`, DEC bits 9-12 (R301). -/
def acField (w : Word) : AcNum := w.extractLsb' 23 4

/-- I, X and Y, DEC bits 13-35 (R301, R303). -/
def eaField (w : Word) : EaField where
  ind := w.getLsbD 22
  idx := w.extractLsb' 18 4
  y := w.extractLsb' 0 18

/-- An instruction word from its fields (R301). -/
def pack (op : BitVec 9) (ac : AcNum) (m : EaField) : Word :=
  op ++ ac ++ BitVec.ofBool m.ind ++ m.idx ++ m.y

/-- The address part of a direct, unindexed address. -/
def EaField.direct (y : VAddr) : EaField := ⟨false, 0, y⟩

/-! Lean's code generator represents no constructor with fields beyond the 245th of a type, so definitions that build
instructions are marked noncomputable: they have no compiled code, and the kernel evaluates them as any other. -/

noncomputable section

/-- The two meanings of a word whose table rows are gated (R331): the first under ITS, the second otherwise. -/
def gated {α : Type} (c : Config) (itsForm decForm : α) : α := if c.its then itsForm else decForm

/-- IBP and ADJBP (R466, R467). -/
def decodeIbp (ac : AcNum) (m : EaField) : Instr := if ac = 0 then .ibp m else .adjbp ac m

/-- XCT and PXCT (R686, R687). -/
def decodeXct (ac : AcNum) (m : EaField) : Instr := if ac = 0 then .xct m else .pxct ac m

/-- The functions of opcode 0o254 (R673). -/
def decodeJrst (c : Config) (ac : AcNum) (m : EaField) : Instr :=
  match ac.toNat with
  | 0o0 => .jrst m
  | 0o1 => .portal m
  | 0o2 => .jrstf m
  | 0o4 => .halt m
  | 0o5 => .xjrstf m
  | 0o6 => .xjen m
  | 0o7 => .xpcw m
  | 0o10 => .jrst10 m
  | 0o12 => .jen m
  | 0o14 => .sfm m
  | 0o15 => if c.hasXjrst then .xjrst m else .muuo 0o254 ac m
  | _ => .muuo 0o254 ac m

/-- The functions of opcode 0o700 (R1100). -/
def decode700 (ac : AcNum) (m : EaField) : Instr :=
  match ac.toNat with
  | 0o0 => .aprid m
  | 0o4 => .wrapr m
  | 0o5 => .rdapr m
  | 0o6 => .conszapr m
  | 0o7 => .consoapr m
  | 0o14 => .wrpi m
  | 0o15 => .rdpi m
  | 0o16 => .conszpi m
  | 0o17 => .consopi m
  | _ => .muuo 0o700 ac m

/-- The functions of opcode 0o701 (R1100, R1112). -/
def decode701 (c : Config) (ac : AcNum) (m : EaField) : Instr :=
  match ac.toNat with
  | 0o0 => gated c (.clrcsh m) (.muuo 0o701 ac m)
  | 0o1 => .rdubr m
  | 0o2 => .clrpt m
  | 0o3 => .wrubr m
  | 0o4 => .wrebr m
  | 0o5 => .rdebr m
  | _ => .muuo 0o701 ac m

/-- The functions of opcode 0o702 (R1100). -/
def decode702 (c : Config) (ac : AcNum) (m : EaField) : Instr :=
  match ac.toNat with
  | 0o0 => gated c (.sdbr1 m) (.rdspb m)
  | 0o1 => gated c (.sdbr2 m) (.rdcsb m)
  | 0o2 => gated c (.sdbr3 m) (.rdpur m)
  | 0o3 => gated c (.sdbr4 m) (.rdcstm m)
  | 0o4 => .rdtim m
  | 0o5 => .rdint m
  | 0o6 => .rdhsb m
  | 0o7 => gated c (.spm m) (.muuo 0o702 ac m)
  | 0o10 => gated c (.ldbr1 m) (.wrspb m)
  | 0o11 => gated c (.ldbr2 m) (.wrcsb m)
  | 0o12 => gated c (.ldbr3 m) (.wrpur m)
  | 0o13 => gated c (.ldbr4 m) (.wrcstm m)
  | 0o14 => .wrtim m
  | 0o15 => .wrint m
  | 0o16 => .wrhsb m
  | _ => gated c (.lpmr m) (.muuo 0o702 ac m)

/-- Opcodes 0o000 to 0o077. -/
def opcodes0 : List (AcNum → EaField → Instr) :=
  [.muuo 0o0, .luuo01, .luuo02, .luuo03, .luuo04, .luuo05, .luuo06, .luuo07,
   .luuo10, .luuo11, .luuo12, .luuo13, .luuo14, .luuo15, .luuo16, .luuo17,
   .luuo20, .luuo21, .luuo22, .luuo23, .luuo24, .luuo25, .luuo26, .luuo27,
   .luuo30, .luuo31, .luuo32, .luuo33, .luuo34, .luuo35, .luuo36, .luuo37,
   .muuo 0o40, .muuo 0o41, .muuo 0o42, .muuo 0o43, .muuo 0o44, .muuo 0o45, .muuo 0o46, .muuo 0o47,
   .muuo 0o50, .muuo 0o51, .muuo 0o52, .muuo 0o53, .muuo 0o54, .muuo 0o55, .muuo 0o56, .muuo 0o57,
   .muuo 0o60, .muuo 0o61, .muuo 0o62, .muuo 0o63, .muuo 0o64, .muuo 0o65, .muuo 0o66, .muuo 0o67,
   .muuo 0o70, .muuo 0o71, .muuo 0o72, .muuo 0o73, .muuo 0o74, .muuo 0o75, .muuo 0o76, .muuo 0o77]

/-- Opcodes 0o100 to 0o177. -/
def opcodes1 (c : Config) : List (AcNum → EaField → Instr) :=
  [.muuo 0o100, .muuo 0o101, gated c .xctri (.muuo 0o102), gated c .xctr (.muuo 0o103), .muuo 0o104, .adjsp, .muuo 0o106, .muuo 0o107,
   .dfad, .dfsb, .dfmp, .dfdv, .dadd, .dsub, .dmul, .ddiv,
   .dmove, .dmovn, .fix, .extend, .dmovem, .dmovnm, .fixr, .fltr,
   .muuo 0o130, .muuo 0o131, .fsc, decodeIbp, .ildb, .ldb, .idpb, .dpb,
   .fad, .muuo 0o141, .fadm, .fadb, .fadr, .fadri, .fadrm, .fadrb,
   .fsb, .muuo 0o151, .fsbm, .fsbb, .fsbr, .fsbri, .fsbrm, .fsbrb,
   .fmp, .muuo 0o161, .fmpm, .fmpb, .fmpr, .fmpri, .fmprm, .fmprb,
   .fdv, .muuo 0o171, .fdvm, .fdvb, .fdvr, .fdvri, .fdvrm, .fdvrb]

/-- Opcodes 0o200 to 0o277. -/
def opcodes2 (c : Config) : List (AcNum → EaField → Instr) :=
  [.move, .movei, .movem, .moves, .movs, .movsi, .movsm, .movss,
   .movn, .movni, .movnm, .movns, .movm, .movmi, .movmm, .movms,
   .imul, .imuli, .imulm, .imulb, .mul, .muli, .mulm, .mulb,
   .idiv, .idivi, .idivm, .idivb, .div, .divi, .divm, .divb,
   .ash, .rot, .lsh, .jffo, .ashc, .rotc, .lshc, gated c .circ (.muuo 0o247),
   .exch, .blt, .aobjp, .aobjn, decodeJrst c, .jfcl, decodeXct, gated c (.muuo 0o257) .map,
   .pushj, .push, .pop, .popj, .jsr, .jsp, .jsa, .jra,
   .add, .addi, .addm, .addb, .sub, .subi, .subm, .subb]

/-- Opcodes 0o300 to 0o377. -/
def opcodes3 : List (AcNum → EaField → Instr) :=
  [.cai, .cail, .caie, .caile, .caia, .caige, .cain, .caig,
   .cam, .caml, .came, .camle, .cama, .camge, .camn, .camg,
   .jump, .jumpl, .jumpe, .jumple, .jumpa, .jumpge, .jumpn, .jumpg,
   .skip, .skipl, .skipe, .skiple, .skipa, .skipge, .skipn, .skipg,
   .aoj, .aojl, .aoje, .aojle, .aoja, .aojge, .aojn, .aojg,
   .aos, .aosl, .aose, .aosle, .aosa, .aosge, .aosn, .aosg,
   .soj, .sojl, .soje, .sojle, .soja, .sojge, .sojn, .sojg,
   .sos, .sosl, .sose, .sosle, .sosa, .sosge, .sosn, .sosg]

/-- Opcodes 0o400 to 0o477. -/
def opcodes4 : List (AcNum → EaField → Instr) :=
  [.setz, .setzi, .setzm, .setzb, .and, .andi, .andm, .andb,
   .andca, .andcai, .andcam, .andcab, .setm, .setmi, .setmm, .setmb,
   .andcm, .andcmi, .andcmm, .andcmb, .seta, .setai, .setam, .setab,
   .xor, .xori, .xorm, .xorb, .ior, .iori, .iorm, .iorb,
   .andcb, .andcbi, .andcbm, .andcbb, .eqv, .eqvi, .eqvm, .eqvb,
   .setca, .setcai, .setcam, .setcab, .orca, .orcai, .orcam, .orcab,
   .setcm, .setcmi, .setcmm, .setcmb, .orcm, .orcmi, .orcmm, .orcmb,
   .orcb, .orcbi, .orcbm, .orcbb, .seto, .setoi, .setom, .setob]

/-- Opcodes 0o500 to 0o577. -/
def opcodes5 : List (AcNum → EaField → Instr) :=
  [.hll, .hlli, .hllm, .hlls, .hrl, .hrli, .hrlm, .hrls,
   .hllz, .hllzi, .hllzm, .hllzs, .hrlz, .hrlzi, .hrlzm, .hrlzs,
   .hllo, .hlloi, .hllom, .hllos, .hrlo, .hrloi, .hrlom, .hrlos,
   .hlle, .hllei, .hllem, .hlles, .hrle, .hrlei, .hrlem, .hrles,
   .hrr, .hrri, .hrrm, .hrrs, .hlr, .hlri, .hlrm, .hlrs,
   .hrrz, .hrrzi, .hrrzm, .hrrzs, .hlrz, .hlrzi, .hlrzm, .hlrzs,
   .hrro, .hrroi, .hrrom, .hrros, .hlro, .hlroi, .hlrom, .hlros,
   .hrre, .hrrei, .hrrem, .hrres, .hlre, .hlrei, .hlrem, .hlres]

/-- Opcodes 0o600 to 0o677. -/
def opcodes6 : List (AcNum → EaField → Instr) :=
  [.trn, .tln, .trne, .tlne, .trna, .tlna, .trnn, .tlnn,
   .tdn, .tsn, .tdne, .tsne, .tdna, .tsna, .tdnn, .tsnn,
   .trz, .tlz, .trze, .tlze, .trza, .tlza, .trzn, .tlzn,
   .tdz, .tsz, .tdze, .tsze, .tdza, .tsza, .tdzn, .tszn,
   .trc, .tlc, .trce, .tlce, .trca, .tlca, .trcn, .tlcn,
   .tdc, .tsc, .tdce, .tsce, .tdca, .tsca, .tdcn, .tscn,
   .tro, .tlo, .troe, .tloe, .troa, .tloa, .tron, .tlon,
   .tdo, .tso, .tdoe, .tsoe, .tdoa, .tsoa, .tdon, .tson]

/-- Opcodes 0o700 to 0o777. -/
def opcodes7 (c : Config) : List (AcNum → EaField → Instr) :=
  [decode700, decode701 c, decode702 c, .muuo 0o703, .umove, .umovem, .muuo 0o706, .muuo 0o707,
   gated c .iordi .tioe, gated c .iordq .tion, gated c .iord .rdio, gated c .iowr .wrio, gated c .iowri .bsio, gated c .iowrq .bcio, .bltbu, .bltub,
   gated c .iordbi .tioeb, gated c .iordbq .tionb, gated c .iordb .rdiob, gated c .iowrb .wriob, gated c .iowrbi .bsiob, gated c .iowrbq .bciob, .muuo 0o726, .muuo 0o727,
   .muuo 0o730, .muuo 0o731, .muuo 0o732, .muuo 0o733, .muuo 0o734, .muuo 0o735, .muuo 0o736, .muuo 0o737,
   .muuo 0o740, .muuo 0o741, .muuo 0o742, .muuo 0o743, .muuo 0o744, .muuo 0o745, .muuo 0o746, .muuo 0o747,
   .muuo 0o750, .muuo 0o751, .muuo 0o752, .muuo 0o753, .muuo 0o754, .muuo 0o755, .muuo 0o756, .muuo 0o757,
   .muuo 0o760, .muuo 0o761, .muuo 0o762, .muuo 0o763, .muuo 0o764, .muuo 0o765, .muuo 0o766, .muuo 0o767,
   .muuo 0o770, .muuo 0o771, .muuo 0o772, .muuo 0o773, .muuo 0o774, .muuo 0o775, .muuo 0o776, .muuo 0o777]

/-- What each of the 512 opcodes decodes to, in order (R330, R331). -/
def opcodeTable (c : Config) : List (AcNum → EaField → Instr) :=
  opcodes0 ++ opcodes1 c ++ opcodes2 c ++ opcodes3 ++ opcodes4 ++ opcodes5 ++ opcodes6 ++ opcodes7 c

/-- Decode one word: total, every word being some instruction (R331, R340). -/
def decode (c : Config) (w : Word) : Instr :=
  ((opcodeTable c).getD (opField w).toNat (.muuo (opField w))) (acField w) (eaField w)

/-- The EXTEND operations 1 to 0o17 by the opcode of the second word (R550); 0 and 0o20 up are undefined. -/
def extendTable : List (AcNum → VAddr → EaField → Instr) :=
  [.cmpsl, .cmpse, .cmpsle, .edit, .cmpsge, .cmpsn, .cmpsg, .cvtdbo,
   .cvtdbt, .cvtbdo, .cvtbdt, .movso, .movst, .movslj, .movsrj]

/-- Decode an EXTEND with its second word, `none` for an undefined sub-opcode (R550, R568). The AC field of the second
word is ignored. -/
def decodeExtended (ac : AcNum) (e0 : VAddr) (w : Word) : Option Instr :=
  match (opField w).toNat with
  | 0 => none
  | n + 1 => (extendTable[n]?).map fun f => f ac e0 (eaField w)

end

/-- Why a sequence of numbers is not the words of an instruction. -/
inductive DecodeError where
  /-- No word was given. -/
  | noWord
  /-- A number does not fit in a 36-bit word. -/
  | wordTooWide (n : Nat)
  /-- A second word was given after an instruction that takes none, or after an EXTEND whose own address is indexed or
  indirect, so that no position of the second word is fixed. -/
  | secondWordUnexpected
  /-- The second word of an EXTEND holds an undefined sub-opcode (R568). -/
  | undefinedSubOpcode (w : Word)
  /-- More than two words were given. -/
  | tooManyWords
  deriving DecidableEq, Repr

noncomputable section

/-- Decode the words of one instruction, rejecting by name what is none: one word, or an EXTEND with a direct address
and its second word (R300). -/
def decodeWords (c : Config) : List Nat → Except DecodeError Instr
  | [] => .error .noWord
  | [a] => if 2 ^ 36 ≤ a then .error (.wordTooWide a) else .ok (decode c (BitVec.ofNat 36 a))
  | [a, b] =>
    if 2 ^ 36 ≤ a then .error (.wordTooWide a)
    else if 2 ^ 36 ≤ b then .error (.wordTooWide b)
    else
      let w := BitVec.ofNat 36 a
      let m := eaField w
      if opField w = 0o123 ∧ m.ind = false ∧ m.idx = 0 then
        match decodeExtended (acField w) m.y (BitVec.ofNat 36 b) with
        | some i => .ok i
        | none => .error (.undefinedSubOpcode (BitVec.ofNat 36 b))
      else .error .secondWordUnexpected
  | _ => .error .tooManyWords

/-- The instruction in the low bits of a number as opcode_table.json numbers them: bits 35:0 the first word, bits 71:36
the second, which only an EXTEND with a direct address has. -/
def decodeTableWord (_nbits w : Nat) : Option Instr :=
  let words := if w < 2 ^ 36 then [w] else [w % 2 ^ 36, w / 2 ^ 36]
  match decodeWords Config.default words with
  | .ok i => some i
  | .error _ => none

end

/-- The words of an instruction (R300, R301, opcode_table.json). -/
def encode : Instr → List Word
  | .muuo op ac m => [pack op ac m]
  | .luuo01 ac m => [pack 0o1 ac m]
  | .luuo02 ac m => [pack 0o2 ac m]
  | .luuo03 ac m => [pack 0o3 ac m]
  | .luuo04 ac m => [pack 0o4 ac m]
  | .luuo05 ac m => [pack 0o5 ac m]
  | .luuo06 ac m => [pack 0o6 ac m]
  | .luuo07 ac m => [pack 0o7 ac m]
  | .luuo10 ac m => [pack 0o10 ac m]
  | .luuo11 ac m => [pack 0o11 ac m]
  | .luuo12 ac m => [pack 0o12 ac m]
  | .luuo13 ac m => [pack 0o13 ac m]
  | .luuo14 ac m => [pack 0o14 ac m]
  | .luuo15 ac m => [pack 0o15 ac m]
  | .luuo16 ac m => [pack 0o16 ac m]
  | .luuo17 ac m => [pack 0o17 ac m]
  | .luuo20 ac m => [pack 0o20 ac m]
  | .luuo21 ac m => [pack 0o21 ac m]
  | .luuo22 ac m => [pack 0o22 ac m]
  | .luuo23 ac m => [pack 0o23 ac m]
  | .luuo24 ac m => [pack 0o24 ac m]
  | .luuo25 ac m => [pack 0o25 ac m]
  | .luuo26 ac m => [pack 0o26 ac m]
  | .luuo27 ac m => [pack 0o27 ac m]
  | .luuo30 ac m => [pack 0o30 ac m]
  | .luuo31 ac m => [pack 0o31 ac m]
  | .luuo32 ac m => [pack 0o32 ac m]
  | .luuo33 ac m => [pack 0o33 ac m]
  | .luuo34 ac m => [pack 0o34 ac m]
  | .luuo35 ac m => [pack 0o35 ac m]
  | .luuo36 ac m => [pack 0o36 ac m]
  | .luuo37 ac m => [pack 0o37 ac m]
  | .xctri ac m => [pack 0o102 ac m]
  | .xctr ac m => [pack 0o103 ac m]
  | .adjsp ac m => [pack 0o105 ac m]
  | .dfad ac m => [pack 0o110 ac m]
  | .dfsb ac m => [pack 0o111 ac m]
  | .dfmp ac m => [pack 0o112 ac m]
  | .dfdv ac m => [pack 0o113 ac m]
  | .dadd ac m => [pack 0o114 ac m]
  | .dsub ac m => [pack 0o115 ac m]
  | .dmul ac m => [pack 0o116 ac m]
  | .ddiv ac m => [pack 0o117 ac m]
  | .dmove ac m => [pack 0o120 ac m]
  | .dmovn ac m => [pack 0o121 ac m]
  | .fix ac m => [pack 0o122 ac m]
  | .extend ac m => [pack 0o123 ac m]
  | .dmovem ac m => [pack 0o124 ac m]
  | .dmovnm ac m => [pack 0o125 ac m]
  | .fixr ac m => [pack 0o126 ac m]
  | .fltr ac m => [pack 0o127 ac m]
  | .fsc ac m => [pack 0o132 ac m]
  | .ibp m => [pack 0o133 0o0 m]
  | .adjbp ac m => [pack 0o133 ac m]
  | .ildb ac m => [pack 0o134 ac m]
  | .ldb ac m => [pack 0o135 ac m]
  | .idpb ac m => [pack 0o136 ac m]
  | .dpb ac m => [pack 0o137 ac m]
  | .fad ac m => [pack 0o140 ac m]
  | .fadm ac m => [pack 0o142 ac m]
  | .fadb ac m => [pack 0o143 ac m]
  | .fadr ac m => [pack 0o144 ac m]
  | .fadri ac m => [pack 0o145 ac m]
  | .fadrm ac m => [pack 0o146 ac m]
  | .fadrb ac m => [pack 0o147 ac m]
  | .fsb ac m => [pack 0o150 ac m]
  | .fsbm ac m => [pack 0o152 ac m]
  | .fsbb ac m => [pack 0o153 ac m]
  | .fsbr ac m => [pack 0o154 ac m]
  | .fsbri ac m => [pack 0o155 ac m]
  | .fsbrm ac m => [pack 0o156 ac m]
  | .fsbrb ac m => [pack 0o157 ac m]
  | .fmp ac m => [pack 0o160 ac m]
  | .fmpm ac m => [pack 0o162 ac m]
  | .fmpb ac m => [pack 0o163 ac m]
  | .fmpr ac m => [pack 0o164 ac m]
  | .fmpri ac m => [pack 0o165 ac m]
  | .fmprm ac m => [pack 0o166 ac m]
  | .fmprb ac m => [pack 0o167 ac m]
  | .fdv ac m => [pack 0o170 ac m]
  | .fdvm ac m => [pack 0o172 ac m]
  | .fdvb ac m => [pack 0o173 ac m]
  | .fdvr ac m => [pack 0o174 ac m]
  | .fdvri ac m => [pack 0o175 ac m]
  | .fdvrm ac m => [pack 0o176 ac m]
  | .fdvrb ac m => [pack 0o177 ac m]
  | .move ac m => [pack 0o200 ac m]
  | .movei ac m => [pack 0o201 ac m]
  | .movem ac m => [pack 0o202 ac m]
  | .moves ac m => [pack 0o203 ac m]
  | .movs ac m => [pack 0o204 ac m]
  | .movsi ac m => [pack 0o205 ac m]
  | .movsm ac m => [pack 0o206 ac m]
  | .movss ac m => [pack 0o207 ac m]
  | .movn ac m => [pack 0o210 ac m]
  | .movni ac m => [pack 0o211 ac m]
  | .movnm ac m => [pack 0o212 ac m]
  | .movns ac m => [pack 0o213 ac m]
  | .movm ac m => [pack 0o214 ac m]
  | .movmi ac m => [pack 0o215 ac m]
  | .movmm ac m => [pack 0o216 ac m]
  | .movms ac m => [pack 0o217 ac m]
  | .imul ac m => [pack 0o220 ac m]
  | .imuli ac m => [pack 0o221 ac m]
  | .imulm ac m => [pack 0o222 ac m]
  | .imulb ac m => [pack 0o223 ac m]
  | .mul ac m => [pack 0o224 ac m]
  | .muli ac m => [pack 0o225 ac m]
  | .mulm ac m => [pack 0o226 ac m]
  | .mulb ac m => [pack 0o227 ac m]
  | .idiv ac m => [pack 0o230 ac m]
  | .idivi ac m => [pack 0o231 ac m]
  | .idivm ac m => [pack 0o232 ac m]
  | .idivb ac m => [pack 0o233 ac m]
  | .div ac m => [pack 0o234 ac m]
  | .divi ac m => [pack 0o235 ac m]
  | .divm ac m => [pack 0o236 ac m]
  | .divb ac m => [pack 0o237 ac m]
  | .ash ac m => [pack 0o240 ac m]
  | .rot ac m => [pack 0o241 ac m]
  | .lsh ac m => [pack 0o242 ac m]
  | .jffo ac m => [pack 0o243 ac m]
  | .ashc ac m => [pack 0o244 ac m]
  | .rotc ac m => [pack 0o245 ac m]
  | .lshc ac m => [pack 0o246 ac m]
  | .circ ac m => [pack 0o247 ac m]
  | .exch ac m => [pack 0o250 ac m]
  | .blt ac m => [pack 0o251 ac m]
  | .aobjp ac m => [pack 0o252 ac m]
  | .aobjn ac m => [pack 0o253 ac m]
  | .jrst m => [pack 0o254 0o0 m]
  | .portal m => [pack 0o254 0o1 m]
  | .jrstf m => [pack 0o254 0o2 m]
  | .halt m => [pack 0o254 0o4 m]
  | .xjrstf m => [pack 0o254 0o5 m]
  | .xjen m => [pack 0o254 0o6 m]
  | .xpcw m => [pack 0o254 0o7 m]
  | .jrst10 m => [pack 0o254 0o10 m]
  | .jen m => [pack 0o254 0o12 m]
  | .sfm m => [pack 0o254 0o14 m]
  | .xjrst m => [pack 0o254 0o15 m]
  | .jfcl ac m => [pack 0o255 ac m]
  | .xct m => [pack 0o256 0o0 m]
  | .pxct ac m => [pack 0o256 ac m]
  | .map ac m => [pack 0o257 ac m]
  | .pushj ac m => [pack 0o260 ac m]
  | .push ac m => [pack 0o261 ac m]
  | .pop ac m => [pack 0o262 ac m]
  | .popj ac m => [pack 0o263 ac m]
  | .jsr ac m => [pack 0o264 ac m]
  | .jsp ac m => [pack 0o265 ac m]
  | .jsa ac m => [pack 0o266 ac m]
  | .jra ac m => [pack 0o267 ac m]
  | .add ac m => [pack 0o270 ac m]
  | .addi ac m => [pack 0o271 ac m]
  | .addm ac m => [pack 0o272 ac m]
  | .addb ac m => [pack 0o273 ac m]
  | .sub ac m => [pack 0o274 ac m]
  | .subi ac m => [pack 0o275 ac m]
  | .subm ac m => [pack 0o276 ac m]
  | .subb ac m => [pack 0o277 ac m]
  | .cai ac m => [pack 0o300 ac m]
  | .cail ac m => [pack 0o301 ac m]
  | .caie ac m => [pack 0o302 ac m]
  | .caile ac m => [pack 0o303 ac m]
  | .caia ac m => [pack 0o304 ac m]
  | .caige ac m => [pack 0o305 ac m]
  | .cain ac m => [pack 0o306 ac m]
  | .caig ac m => [pack 0o307 ac m]
  | .cam ac m => [pack 0o310 ac m]
  | .caml ac m => [pack 0o311 ac m]
  | .came ac m => [pack 0o312 ac m]
  | .camle ac m => [pack 0o313 ac m]
  | .cama ac m => [pack 0o314 ac m]
  | .camge ac m => [pack 0o315 ac m]
  | .camn ac m => [pack 0o316 ac m]
  | .camg ac m => [pack 0o317 ac m]
  | .jump ac m => [pack 0o320 ac m]
  | .jumpl ac m => [pack 0o321 ac m]
  | .jumpe ac m => [pack 0o322 ac m]
  | .jumple ac m => [pack 0o323 ac m]
  | .jumpa ac m => [pack 0o324 ac m]
  | .jumpge ac m => [pack 0o325 ac m]
  | .jumpn ac m => [pack 0o326 ac m]
  | .jumpg ac m => [pack 0o327 ac m]
  | .skip ac m => [pack 0o330 ac m]
  | .skipl ac m => [pack 0o331 ac m]
  | .skipe ac m => [pack 0o332 ac m]
  | .skiple ac m => [pack 0o333 ac m]
  | .skipa ac m => [pack 0o334 ac m]
  | .skipge ac m => [pack 0o335 ac m]
  | .skipn ac m => [pack 0o336 ac m]
  | .skipg ac m => [pack 0o337 ac m]
  | .aoj ac m => [pack 0o340 ac m]
  | .aojl ac m => [pack 0o341 ac m]
  | .aoje ac m => [pack 0o342 ac m]
  | .aojle ac m => [pack 0o343 ac m]
  | .aoja ac m => [pack 0o344 ac m]
  | .aojge ac m => [pack 0o345 ac m]
  | .aojn ac m => [pack 0o346 ac m]
  | .aojg ac m => [pack 0o347 ac m]
  | .aos ac m => [pack 0o350 ac m]
  | .aosl ac m => [pack 0o351 ac m]
  | .aose ac m => [pack 0o352 ac m]
  | .aosle ac m => [pack 0o353 ac m]
  | .aosa ac m => [pack 0o354 ac m]
  | .aosge ac m => [pack 0o355 ac m]
  | .aosn ac m => [pack 0o356 ac m]
  | .aosg ac m => [pack 0o357 ac m]
  | .soj ac m => [pack 0o360 ac m]
  | .sojl ac m => [pack 0o361 ac m]
  | .soje ac m => [pack 0o362 ac m]
  | .sojle ac m => [pack 0o363 ac m]
  | .soja ac m => [pack 0o364 ac m]
  | .sojge ac m => [pack 0o365 ac m]
  | .sojn ac m => [pack 0o366 ac m]
  | .sojg ac m => [pack 0o367 ac m]
  | .sos ac m => [pack 0o370 ac m]
  | .sosl ac m => [pack 0o371 ac m]
  | .sose ac m => [pack 0o372 ac m]
  | .sosle ac m => [pack 0o373 ac m]
  | .sosa ac m => [pack 0o374 ac m]
  | .sosge ac m => [pack 0o375 ac m]
  | .sosn ac m => [pack 0o376 ac m]
  | .sosg ac m => [pack 0o377 ac m]
  | .setz ac m => [pack 0o400 ac m]
  | .setzi ac m => [pack 0o401 ac m]
  | .setzm ac m => [pack 0o402 ac m]
  | .setzb ac m => [pack 0o403 ac m]
  | .and ac m => [pack 0o404 ac m]
  | .andi ac m => [pack 0o405 ac m]
  | .andm ac m => [pack 0o406 ac m]
  | .andb ac m => [pack 0o407 ac m]
  | .andca ac m => [pack 0o410 ac m]
  | .andcai ac m => [pack 0o411 ac m]
  | .andcam ac m => [pack 0o412 ac m]
  | .andcab ac m => [pack 0o413 ac m]
  | .setm ac m => [pack 0o414 ac m]
  | .setmi ac m => [pack 0o415 ac m]
  | .setmm ac m => [pack 0o416 ac m]
  | .setmb ac m => [pack 0o417 ac m]
  | .andcm ac m => [pack 0o420 ac m]
  | .andcmi ac m => [pack 0o421 ac m]
  | .andcmm ac m => [pack 0o422 ac m]
  | .andcmb ac m => [pack 0o423 ac m]
  | .seta ac m => [pack 0o424 ac m]
  | .setai ac m => [pack 0o425 ac m]
  | .setam ac m => [pack 0o426 ac m]
  | .setab ac m => [pack 0o427 ac m]
  | .xor ac m => [pack 0o430 ac m]
  | .xori ac m => [pack 0o431 ac m]
  | .xorm ac m => [pack 0o432 ac m]
  | .xorb ac m => [pack 0o433 ac m]
  | .ior ac m => [pack 0o434 ac m]
  | .iori ac m => [pack 0o435 ac m]
  | .iorm ac m => [pack 0o436 ac m]
  | .iorb ac m => [pack 0o437 ac m]
  | .andcb ac m => [pack 0o440 ac m]
  | .andcbi ac m => [pack 0o441 ac m]
  | .andcbm ac m => [pack 0o442 ac m]
  | .andcbb ac m => [pack 0o443 ac m]
  | .eqv ac m => [pack 0o444 ac m]
  | .eqvi ac m => [pack 0o445 ac m]
  | .eqvm ac m => [pack 0o446 ac m]
  | .eqvb ac m => [pack 0o447 ac m]
  | .setca ac m => [pack 0o450 ac m]
  | .setcai ac m => [pack 0o451 ac m]
  | .setcam ac m => [pack 0o452 ac m]
  | .setcab ac m => [pack 0o453 ac m]
  | .orca ac m => [pack 0o454 ac m]
  | .orcai ac m => [pack 0o455 ac m]
  | .orcam ac m => [pack 0o456 ac m]
  | .orcab ac m => [pack 0o457 ac m]
  | .setcm ac m => [pack 0o460 ac m]
  | .setcmi ac m => [pack 0o461 ac m]
  | .setcmm ac m => [pack 0o462 ac m]
  | .setcmb ac m => [pack 0o463 ac m]
  | .orcm ac m => [pack 0o464 ac m]
  | .orcmi ac m => [pack 0o465 ac m]
  | .orcmm ac m => [pack 0o466 ac m]
  | .orcmb ac m => [pack 0o467 ac m]
  | .orcb ac m => [pack 0o470 ac m]
  | .orcbi ac m => [pack 0o471 ac m]
  | .orcbm ac m => [pack 0o472 ac m]
  | .orcbb ac m => [pack 0o473 ac m]
  | .seto ac m => [pack 0o474 ac m]
  | .setoi ac m => [pack 0o475 ac m]
  | .setom ac m => [pack 0o476 ac m]
  | .setob ac m => [pack 0o477 ac m]
  | .hll ac m => [pack 0o500 ac m]
  | .hlli ac m => [pack 0o501 ac m]
  | .hllm ac m => [pack 0o502 ac m]
  | .hlls ac m => [pack 0o503 ac m]
  | .hrl ac m => [pack 0o504 ac m]
  | .hrli ac m => [pack 0o505 ac m]
  | .hrlm ac m => [pack 0o506 ac m]
  | .hrls ac m => [pack 0o507 ac m]
  | .hllz ac m => [pack 0o510 ac m]
  | .hllzi ac m => [pack 0o511 ac m]
  | .hllzm ac m => [pack 0o512 ac m]
  | .hllzs ac m => [pack 0o513 ac m]
  | .hrlz ac m => [pack 0o514 ac m]
  | .hrlzi ac m => [pack 0o515 ac m]
  | .hrlzm ac m => [pack 0o516 ac m]
  | .hrlzs ac m => [pack 0o517 ac m]
  | .hllo ac m => [pack 0o520 ac m]
  | .hlloi ac m => [pack 0o521 ac m]
  | .hllom ac m => [pack 0o522 ac m]
  | .hllos ac m => [pack 0o523 ac m]
  | .hrlo ac m => [pack 0o524 ac m]
  | .hrloi ac m => [pack 0o525 ac m]
  | .hrlom ac m => [pack 0o526 ac m]
  | .hrlos ac m => [pack 0o527 ac m]
  | .hlle ac m => [pack 0o530 ac m]
  | .hllei ac m => [pack 0o531 ac m]
  | .hllem ac m => [pack 0o532 ac m]
  | .hlles ac m => [pack 0o533 ac m]
  | .hrle ac m => [pack 0o534 ac m]
  | .hrlei ac m => [pack 0o535 ac m]
  | .hrlem ac m => [pack 0o536 ac m]
  | .hrles ac m => [pack 0o537 ac m]
  | .hrr ac m => [pack 0o540 ac m]
  | .hrri ac m => [pack 0o541 ac m]
  | .hrrm ac m => [pack 0o542 ac m]
  | .hrrs ac m => [pack 0o543 ac m]
  | .hlr ac m => [pack 0o544 ac m]
  | .hlri ac m => [pack 0o545 ac m]
  | .hlrm ac m => [pack 0o546 ac m]
  | .hlrs ac m => [pack 0o547 ac m]
  | .hrrz ac m => [pack 0o550 ac m]
  | .hrrzi ac m => [pack 0o551 ac m]
  | .hrrzm ac m => [pack 0o552 ac m]
  | .hrrzs ac m => [pack 0o553 ac m]
  | .hlrz ac m => [pack 0o554 ac m]
  | .hlrzi ac m => [pack 0o555 ac m]
  | .hlrzm ac m => [pack 0o556 ac m]
  | .hlrzs ac m => [pack 0o557 ac m]
  | .hrro ac m => [pack 0o560 ac m]
  | .hrroi ac m => [pack 0o561 ac m]
  | .hrrom ac m => [pack 0o562 ac m]
  | .hrros ac m => [pack 0o563 ac m]
  | .hlro ac m => [pack 0o564 ac m]
  | .hlroi ac m => [pack 0o565 ac m]
  | .hlrom ac m => [pack 0o566 ac m]
  | .hlros ac m => [pack 0o567 ac m]
  | .hrre ac m => [pack 0o570 ac m]
  | .hrrei ac m => [pack 0o571 ac m]
  | .hrrem ac m => [pack 0o572 ac m]
  | .hrres ac m => [pack 0o573 ac m]
  | .hlre ac m => [pack 0o574 ac m]
  | .hlrei ac m => [pack 0o575 ac m]
  | .hlrem ac m => [pack 0o576 ac m]
  | .hlres ac m => [pack 0o577 ac m]
  | .trn ac m => [pack 0o600 ac m]
  | .tln ac m => [pack 0o601 ac m]
  | .trne ac m => [pack 0o602 ac m]
  | .tlne ac m => [pack 0o603 ac m]
  | .trna ac m => [pack 0o604 ac m]
  | .tlna ac m => [pack 0o605 ac m]
  | .trnn ac m => [pack 0o606 ac m]
  | .tlnn ac m => [pack 0o607 ac m]
  | .tdn ac m => [pack 0o610 ac m]
  | .tsn ac m => [pack 0o611 ac m]
  | .tdne ac m => [pack 0o612 ac m]
  | .tsne ac m => [pack 0o613 ac m]
  | .tdna ac m => [pack 0o614 ac m]
  | .tsna ac m => [pack 0o615 ac m]
  | .tdnn ac m => [pack 0o616 ac m]
  | .tsnn ac m => [pack 0o617 ac m]
  | .trz ac m => [pack 0o620 ac m]
  | .tlz ac m => [pack 0o621 ac m]
  | .trze ac m => [pack 0o622 ac m]
  | .tlze ac m => [pack 0o623 ac m]
  | .trza ac m => [pack 0o624 ac m]
  | .tlza ac m => [pack 0o625 ac m]
  | .trzn ac m => [pack 0o626 ac m]
  | .tlzn ac m => [pack 0o627 ac m]
  | .tdz ac m => [pack 0o630 ac m]
  | .tsz ac m => [pack 0o631 ac m]
  | .tdze ac m => [pack 0o632 ac m]
  | .tsze ac m => [pack 0o633 ac m]
  | .tdza ac m => [pack 0o634 ac m]
  | .tsza ac m => [pack 0o635 ac m]
  | .tdzn ac m => [pack 0o636 ac m]
  | .tszn ac m => [pack 0o637 ac m]
  | .trc ac m => [pack 0o640 ac m]
  | .tlc ac m => [pack 0o641 ac m]
  | .trce ac m => [pack 0o642 ac m]
  | .tlce ac m => [pack 0o643 ac m]
  | .trca ac m => [pack 0o644 ac m]
  | .tlca ac m => [pack 0o645 ac m]
  | .trcn ac m => [pack 0o646 ac m]
  | .tlcn ac m => [pack 0o647 ac m]
  | .tdc ac m => [pack 0o650 ac m]
  | .tsc ac m => [pack 0o651 ac m]
  | .tdce ac m => [pack 0o652 ac m]
  | .tsce ac m => [pack 0o653 ac m]
  | .tdca ac m => [pack 0o654 ac m]
  | .tsca ac m => [pack 0o655 ac m]
  | .tdcn ac m => [pack 0o656 ac m]
  | .tscn ac m => [pack 0o657 ac m]
  | .tro ac m => [pack 0o660 ac m]
  | .tlo ac m => [pack 0o661 ac m]
  | .troe ac m => [pack 0o662 ac m]
  | .tloe ac m => [pack 0o663 ac m]
  | .troa ac m => [pack 0o664 ac m]
  | .tloa ac m => [pack 0o665 ac m]
  | .tron ac m => [pack 0o666 ac m]
  | .tlon ac m => [pack 0o667 ac m]
  | .tdo ac m => [pack 0o670 ac m]
  | .tso ac m => [pack 0o671 ac m]
  | .tdoe ac m => [pack 0o672 ac m]
  | .tsoe ac m => [pack 0o673 ac m]
  | .tdoa ac m => [pack 0o674 ac m]
  | .tsoa ac m => [pack 0o675 ac m]
  | .tdon ac m => [pack 0o676 ac m]
  | .tson ac m => [pack 0o677 ac m]
  | .aprid m => [pack 0o700 0o0 m]
  | .wrapr m => [pack 0o700 0o4 m]
  | .rdapr m => [pack 0o700 0o5 m]
  | .conszapr m => [pack 0o700 0o6 m]
  | .consoapr m => [pack 0o700 0o7 m]
  | .wrpi m => [pack 0o700 0o14 m]
  | .rdpi m => [pack 0o700 0o15 m]
  | .conszpi m => [pack 0o700 0o16 m]
  | .consopi m => [pack 0o700 0o17 m]
  | .clrcsh m => [pack 0o701 0o0 m]
  | .rdubr m => [pack 0o701 0o1 m]
  | .clrpt m => [pack 0o701 0o2 m]
  | .wrubr m => [pack 0o701 0o3 m]
  | .wrebr m => [pack 0o701 0o4 m]
  | .rdebr m => [pack 0o701 0o5 m]
  | .rdspb m => [pack 0o702 0o0 m]
  | .sdbr1 m => [pack 0o702 0o0 m]
  | .rdcsb m => [pack 0o702 0o1 m]
  | .sdbr2 m => [pack 0o702 0o1 m]
  | .rdpur m => [pack 0o702 0o2 m]
  | .sdbr3 m => [pack 0o702 0o2 m]
  | .rdcstm m => [pack 0o702 0o3 m]
  | .sdbr4 m => [pack 0o702 0o3 m]
  | .rdtim m => [pack 0o702 0o4 m]
  | .rdint m => [pack 0o702 0o5 m]
  | .rdhsb m => [pack 0o702 0o6 m]
  | .spm m => [pack 0o702 0o7 m]
  | .wrspb m => [pack 0o702 0o10 m]
  | .ldbr1 m => [pack 0o702 0o10 m]
  | .wrcsb m => [pack 0o702 0o11 m]
  | .ldbr2 m => [pack 0o702 0o11 m]
  | .wrpur m => [pack 0o702 0o12 m]
  | .ldbr3 m => [pack 0o702 0o12 m]
  | .wrcstm m => [pack 0o702 0o13 m]
  | .ldbr4 m => [pack 0o702 0o13 m]
  | .wrtim m => [pack 0o702 0o14 m]
  | .wrint m => [pack 0o702 0o15 m]
  | .wrhsb m => [pack 0o702 0o16 m]
  | .lpmr m => [pack 0o702 0o17 m]
  | .umove ac m => [pack 0o704 ac m]
  | .umovem ac m => [pack 0o705 ac m]
  | .tioe ac m => [pack 0o710 ac m]
  | .iordi ac m => [pack 0o710 ac m]
  | .tion ac m => [pack 0o711 ac m]
  | .iordq ac m => [pack 0o711 ac m]
  | .rdio ac m => [pack 0o712 ac m]
  | .iord ac m => [pack 0o712 ac m]
  | .wrio ac m => [pack 0o713 ac m]
  | .iowr ac m => [pack 0o713 ac m]
  | .bsio ac m => [pack 0o714 ac m]
  | .iowri ac m => [pack 0o714 ac m]
  | .bcio ac m => [pack 0o715 ac m]
  | .iowrq ac m => [pack 0o715 ac m]
  | .bltbu ac m => [pack 0o716 ac m]
  | .bltub ac m => [pack 0o717 ac m]
  | .tioeb ac m => [pack 0o720 ac m]
  | .iordbi ac m => [pack 0o720 ac m]
  | .tionb ac m => [pack 0o721 ac m]
  | .iordbq ac m => [pack 0o721 ac m]
  | .rdiob ac m => [pack 0o722 ac m]
  | .iordb ac m => [pack 0o722 ac m]
  | .wriob ac m => [pack 0o723 ac m]
  | .iowrb ac m => [pack 0o723 ac m]
  | .bsiob ac m => [pack 0o724 ac m]
  | .iowrbi ac m => [pack 0o724 ac m]
  | .bciob ac m => [pack 0o725 ac m]
  | .iowrbq ac m => [pack 0o725 ac m]
  | .cmpsl ac e0 m => [pack 0o123 ac (.direct e0), pack 0o1 0 m]
  | .cmpse ac e0 m => [pack 0o123 ac (.direct e0), pack 0o2 0 m]
  | .cmpsle ac e0 m => [pack 0o123 ac (.direct e0), pack 0o3 0 m]
  | .edit ac e0 m => [pack 0o123 ac (.direct e0), pack 0o4 0 m]
  | .cmpsge ac e0 m => [pack 0o123 ac (.direct e0), pack 0o5 0 m]
  | .cmpsn ac e0 m => [pack 0o123 ac (.direct e0), pack 0o6 0 m]
  | .cmpsg ac e0 m => [pack 0o123 ac (.direct e0), pack 0o7 0 m]
  | .cvtdbo ac e0 m => [pack 0o123 ac (.direct e0), pack 0o10 0 m]
  | .cvtdbt ac e0 m => [pack 0o123 ac (.direct e0), pack 0o11 0 m]
  | .cvtbdo ac e0 m => [pack 0o123 ac (.direct e0), pack 0o12 0 m]
  | .cvtbdt ac e0 m => [pack 0o123 ac (.direct e0), pack 0o13 0 m]
  | .movso ac e0 m => [pack 0o123 ac (.direct e0), pack 0o14 0 m]
  | .movst ac e0 m => [pack 0o123 ac (.direct e0), pack 0o15 0 m]
  | .movslj ac e0 m => [pack 0o123 ac (.direct e0), pack 0o16 0 m]
  | .movsrj ac e0 m => [pack 0o123 ac (.direct e0), pack 0o17 0 m]

end Sys2Proof
end

