-- ==== Sys2Proof/Machine/State.lean ====
section
/-! DEFINITION. The machine's state as plain data (10_state.md), its reset (70_reset_and_hazards.md rule R1400), and the
reasons a step can fault or be refused. -/

namespace Sys2Proof.Machine

open Sys2Proof

/-- The 13 processor flags, DEC bits 0 to 12 of the left half of FLPC, in that order (R60). -/
structure Flags where
  /-- AOV, DEC bit 0. -/
  aov : Bool
  /-- CRY0, DEC bit 1. -/
  cry0 : Bool
  /-- CRY1, DEC bit 2. -/
  cry1 : Bool
  /-- FOV, DEC bit 3. -/
  fov : Bool
  /-- FPD, DEC bit 4. -/
  fpd : Bool
  /-- USER, DEC bit 5. -/
  user : Bool
  /-- UIO, DEC bit 6; in executive mode PCU (R66). -/
  uio : Bool
  /-- PUBLIC, DEC bit 7. -/
  pub : Bool
  /-- AFI, DEC bit 8 (R68, R75). -/
  afi : Bool
  /-- TRAP2, DEC bit 9. -/
  trap2 : Bool
  /-- TRAP1, DEC bit 10. -/
  trap1 : Bool
  /-- FXU, DEC bit 11. -/
  fxu : Bool
  /-- DCK, DEC bit 12. -/
  dck : Bool
  deriving DecidableEq, Repr

/-- Every flag 0 (R70). -/
def Flags.zero : Flags :=
  ⟨false, false, false, false, false, false, false, false, false, false, false, false, false⟩

/-- The executive base register (R80). -/
structure Ebr where
  /-- T20, DEC bit 21. -/
  t20 : Bool
  /-- PGON, DEC bit 22. -/
  pgon : Bool
  /-- EPTPG, DEC bits 25-35 under the default PA_WIDTH, its low PA_WIDTH - 9 bits under another (D2). -/
  eptPg : BitVec 13
  deriving DecidableEq, Repr

/-- The user base register (R81). -/
structure Ubr where
  /-- CURAC, the current AC block CAB. -/
  cab : BitVec 3
  /-- PRVAC, the previous AC block PAB. -/
  pab : BitVec 3
  /-- UPTPG, as EPTPG. -/
  uptPg : BitVec 13
  deriving DecidableEq, Repr

/-- The pager's control registers (R80 to R84). A physical address has PA_WIDTH bits, 22 at most (D2, log entry 38). -/
structure BaseRegs where
  ebr : Ebr
  ubr : Ubr
  /-- SPT base (R82). -/
  spb : BitVec 22
  /-- CST base (R82). -/
  csb : BitVec 22
  /-- CST mask (R82). -/
  cstm : Word
  /-- Process use register (R82). -/
  pur : Word
  /-- ITS descriptor base registers (R83). -/
  dbr1 : BitVec 22
  dbr2 : BitVec 22
  dbr3 : BitVec 22
  dbr4 : BitVec 22
  /-- Halt-status-block base (R84). -/
  hsb : BitVec 22
  deriving DecidableEq, Repr

/-- The APR system flags (R85). -/
structure Apr where
  enb : BitVec 8
  flg : BitVec 8
  lvl : BitVec 3
  deriving DecidableEq, Repr

/-- The priority-interrupt registers and the I/O request input (R87). -/
structure PiSys where
  on : Bool
  enb : BitVec 7
  act : BitVec 7
  prq : BitVec 7
  /-- `pi_ioq`, driven by the I/O subsystem. -/
  ioq : BitVec 7
  deriving DecidableEq, Repr

/-- A valid expanded page-table entry (R90). -/
structure TlbEntry where
  ppn : BitVec 13
  writable : Bool
  deriving DecidableEq, Repr

/-- A resolved TOPS-20 pointer: physical page and accumulated permissions (R93, R186). -/
structure PageRef where
  ppn : BitVec 13
  writable : Bool
  cacheable : Bool
  deriving DecidableEq, Repr

/-- The pager cache (R90) and the TOPS-20 section caches (R93). The two tables are held sparsely: pairs of virtual page
number and entry, page numbers strictly rising, an unlisted page being `None`. -/
structure PagerCache where
  tlbExec : List (Nat × TlbEntry)
  tlbUser : List (Nat × TlbEntry)
  sectExec : Option PageRef
  sectUser : Option PageRef
  deriving DecidableEq, Repr

/-- The empty pager cache. -/
def PagerCache.empty : PagerCache := ⟨[], [], none, none⟩

/-- The named stop conditions (R1200). -/
inductive StopName where
  | halt | ibkpt | illeg | illint | zervec | pagint | ind | xct | trpnxm | ioerr
  deriving DecidableEq, Repr

/-- The model's own record of how the last step ended, the host's view of the abort channel (R1200, R1293). -/
inductive Report where
  /-- It completed. -/
  | ok
  /-- It took the page-fail sequence (R1203, R1205). -/
  | pageFail
  /-- It was abandoned for re-entry (R1204). -/
  | reenter
  /-- It stopped with this name (R1282). -/
  | stop (n : StopName)
  deriving DecidableEq, Repr

/-- Which coarse state of the loop supplied the word in execution (R1260). -/
inductive Phase where
  /-- Ordinary fetch. -/
  | fetch
  /-- The arithmetic-trap sequence (R1240), which marks an MUUO as a trap MUUO (R1232). -/
  | trap
  /-- A forced execute (R1223), performed in executive mode. -/
  | forced
  deriving DecidableEq, Repr

/-- A word that XCT and its like have read and the machine has still to execute, with its PXCT selection bits (R686,
R687) and whether its page fail is suppressed (R453). -/
structure Pending where
  word : Word
  pxct : BitVec 4
  inhibit : Bool
  deriving DecidableEq, Repr

/-- One external action at step 1 of the loop (R50, R1270, R1275, R1290). -/
inductive AgentEvent where
  /-- The clock advances TIMEBASE by this many counts (R1270). -/
  | tick (n : Nat)
  /-- The clock reports an elapsed interval: APR TIM, when INTERVAL is not 0 (R1270). -/
  | intervalDone
  /-- The I/O subsystem drives `pi_ioq` (R1275). -/
  | ioRequest (mask : BitVec 7)
  /-- Direct memory access by the I/O subsystem (R1275). -/
  | dma (pa : Nat) (v : Word)
  /-- The I/O subsystem reports a fatal error (R1275). -/
  | ioFatal
  /-- The host raises APR inputs PWF, BMD, ECC or CON (R1290 `apr_event`, R1103). -/
  | aprInput (pwf bmd ecc con : Bool)
  /-- `deposit_ac` (R1290). -/
  | depositAc (b : BitVec 3) (n : AcNum) (v : Word)
  /-- `deposit_phys` (R1290). -/
  | depositPhys (pa : Nat) (v : Word)
  /-- `deposit_pc` (R1290). -/
  | depositPc (v : VAddr)
  /-- `deposit_flags`, the left half of a word (R1290). -/
  | depositFlags (w : Half)
  /-- `force_exec` (R1290). -/
  | forceExec (a : Nat)
  /-- `set_breakpoints` (R1280, R1290). -/
  | setBreakpoints (l : List VAddr)
  /-- The host asks to skip the breakpoint once on resume (R1280). -/
  | skipBreakpoint
  /-- `read_apr_int80`: the observed request is cleared (R1290). -/
  | clearInt80
  /-- A cached translation is lost, possible only under `TLB_MAY_EVICT` (R91, D10). -/
  | evict (user : Bool) (vpn : BitVec 9)
  /-- `reset()` by the host after power-up (R1290, R1400). -/
  | reset
  deriving DecidableEq, Repr

/-- Width of an I/O bus operation (R1140). -/
inductive IoSize where
  | word | byte
  deriving DecidableEq, Repr

/-- One operation the unit performed on the I/O bus (R1140). -/
inductive BusOp where
  | read (ioa : BitVec 22) (size : IoSize)
  | write (ioa : BitVec 22) (v : Word) (size : IoSize)
  | vector (level : Nat)
  deriving DecidableEq, Repr

/-- The external agents as the model holds them: what they will do and answer, and what the unit has asked of the bus.
Every value is a draw of an agent (93 Part 1, "any value"); log entries 7 and 8. -/
structure Environment where
  /-- External actions, one list consumed at each execution of step 1. -/
  agenda : List (List AgentEvent)
  /-- One entry consumed at each checkpoint inside an instruction (R50, R1261): whether the next entry of the agenda has
  come by then, so that an interrupt it requests is seen there. -/
  arrivals : List Bool
  /-- Answers to `ReadIO`, in order; `none` and an exhausted list are `NoDevice`. -/
  reads : List (Option Word)
  /-- Answers to `WriteIO`, in order; `false` and an exhausted list are `NoDevice`. -/
  writes : List Bool
  /-- Answers to `io_vector`: adapter and vector, or none. -/
  vectors : List (Option (Nat × Half))
  /-- Bus operations performed, newest first. -/
  log : List BusOp
  /-- The I/O subsystem has reported a fatal error not yet turned into a stop. -/
  fatal : Bool
  deriving DecidableEq, Repr

/-- No external action, no device. -/
def Environment.quiet : Environment := ⟨[], [], [], [], [], [], false⟩

/-- The state of the unit: every item of 10_state.md, the host-interface items of 60_exceptions.md section 10, and the
model's own fields, which stand last. -/
structure State where
  /-- Configuration, fixed for a run (R10, R1400). -/
  cfg : Config
  /-- `ACB[b][n]` at index `16 b + n` (R52). -/
  acb : Vector Word 128
  /-- Program counter (R56). -/
  pc : VAddr
  /-- Address of the instruction in execution (R97). -/
  ipc : VAddr
  flags : Flags
  /-- The 1-proceed request (R75). -/
  its1pr : Bool
  /-- The 1-proceed latch of the instruction in progress (R75). -/
  its2pr : Bool
  base : BaseRegs
  apr : Apr
  /-- TIMEBASE (R86). -/
  timeBase : BitVec 72
  /-- INTERVAL (R86). -/
  interval : Word
  pi : PiSys
  cache : PagerCache
  /-- The page-fail status word (R92). -/
  pagerWord : Word
  /-- `pi_cycle` (R94). -/
  piCycle : Bool
  /-- `ind_count` (R95). -/
  indCount : Nat
  /-- `xct_count` (R95). -/
  xctCount : Nat
  /-- `forced_exec`, the physical address of a word to execute (R96, R1223). -/
  forcedExec : Option Nat
  /-- Physical memory (R99): address and word pairs, addresses strictly rising and below MEMSIZE; an unlisted address
  holds no value (log entry 3). -/
  mem : List (Nat × Word)
  /-- Instruction breakpoints (R1280). -/
  breakpoints : List VAddr
  /-- Skip the next breakpoint once (R1280). -/
  bkptSkip : Bool
  /-- MODEL: how the last step ended. -/
  report : Report
  /-- MODEL: PXCT selection bits of the instruction in execution (R687); 0 outside an XCT. -/
  pxct : BitVec 4
  /-- MODEL: the page fail of the instruction in execution is suppressed, under ITS_XCTRI_INHIBIT (R453, log entry 40). -/
  inhibit : Bool
  /-- MODEL: a word XCT or its like has read and not yet executed (log entry 9). -/
  pending : Option Pending
  /-- MODEL: where the word in execution came from. -/
  phase : Phase
  /-- MODEL: the external agents. -/
  env : Environment
  deriving DecidableEq, Repr

/-- Faults of the model. -/
inductive Fault where
  /-- Raised by a read of a physical memory word that nothing has written since power-up, as R99 and 93 Part 1 ask ("a
  read is a fault of the model"). Safe: the hardware goes on with some value; the model says nothing about it. -/
  | unwritten (pa : Nat)
  deriving DecidableEq, Repr

/-- Refusals of the model. -/
inductive Refusal where
  /-- Raised by `exec` for an instruction whose meaning is not written yet. Safe: nothing is claimed of it. -/
  | notModelled (mnemonic : String)
  deriving DecidableEq, Repr

/-- The machine right after the first reset (R100, R1400). Values the spec does not state: the accumulators (log entry
1), the configuration's MEMSIZE and START_PC (log entry 2) and TIMEBASE (log entry 4). -/
def State.reset : State where
  cfg := Config.default
  acb := Vector.replicate 128 0
  pc := Config.default.startPc
  ipc := Config.default.startPc
  flags := Flags.zero
  its1pr := false
  its2pr := false
  base :=
    { ebr := ⟨false, false, 0⟩, ubr := ⟨0, 0, 0⟩, spb := 0, csb := 0, cstm := 0, pur := 0,
      dbr1 := 0, dbr2 := 0, dbr3 := 0, dbr4 := 0, hsb := Config.default.hsbReset }
  apr := ⟨0, 0, 0⟩
  timeBase := 0
  interval := 0
  pi := ⟨false, 0, 0, 0, 0⟩
  cache := PagerCache.empty
  pagerWord := 0
  piCycle := false
  indCount := 0
  xctCount := 0
  forcedExec := none
  mem := []
  breakpoints := []
  bkptSkip := false
  report := .ok
  pxct := 0
  inhibit := false
  pending := none
  phase := .fetch
  env := Environment.quiet

end Sys2Proof.Machine
end

