-- ==== Sys2Proof/Machine/Flags.lean ====
section
/-! DEFINITION. The flags word, the flag computations of the arithmetic families, and the new-flags function
(10_state.md section 4, 44_move_arith.md rules R600 to R603, 60_exceptions.md rule R1250). -/

namespace Sys2Proof.Machine

open Sys2Proof

/-- `FLAGS18`: the flags in DEC bits 0-12 of a left half, DEC bits 13-17 zero (R59, R60). -/
def Flags.toHalf (f : Flags) : Half :=
  BitVec.ofBool f.aov ++ BitVec.ofBool f.cry0 ++ BitVec.ofBool f.cry1 ++ BitVec.ofBool f.fov ++
    BitVec.ofBool f.fpd ++ BitVec.ofBool f.user ++ BitVec.ofBool f.uio ++ BitVec.ofBool f.pub ++
    BitVec.ofBool f.afi ++ BitVec.ofBool f.trap2 ++ BitVec.ofBool f.trap1 ++ BitVec.ofBool f.fxu ++
    BitVec.ofBool f.dck ++ (0 : BitVec 5)

/-- The flags named by a left half (R60); DEC bits 13-17 name none. -/
def Flags.ofHalf (h : Half) : Flags where
  aov := h.getLsbD 17
  cry0 := h.getLsbD 16
  cry1 := h.getLsbD 15
  fov := h.getLsbD 14
  fpd := h.getLsbD 13
  user := h.getLsbD 12
  uio := h.getLsbD 11
  pub := h.getLsbD 10
  afi := h.getLsbD 9
  trap2 := h.getLsbD 8
  trap1 := h.getLsbD 7
  fxu := h.getLsbD 6
  dck := h.getLsbD 5

/-- Bitwise or of two flag sets: `set(F...)` of R16. -/
def Flags.union (f g : Flags) : Flags where
  aov := f.aov || g.aov
  cry0 := f.cry0 || g.cry0
  cry1 := f.cry1 || g.cry1
  fov := f.fov || g.fov
  fpd := f.fpd || g.fpd
  user := f.user || g.user
  uio := f.uio || g.uio
  pub := f.pub || g.pub
  afi := f.afi || g.afi
  trap2 := f.trap2 || g.trap2
  trap1 := f.trap1 || g.trap1
  fxu := f.fxu || g.fxu
  dck := f.dck || g.dck

/-- `clr(CALLCLR)`: FPD, AFI, TRAP1 and TRAP2 cleared (R71). -/
def Flags.callClr (f : Flags) : Flags :=
  { f with fpd := false, afi := false, trap1 := false, trap2 := false }

/-- The flags of a carry pair: CRY0 if C0, CRY1 if C1, AOV and TRAP1 if they differ (R600). -/
def carryFlags (c0 c1 : Bool) : Flags :=
  { Flags.zero with cry0 := c0, cry1 := c1, aov := c0 != c1, trap1 := c0 != c1 }

/-- `set(AOV, TRAP1)` (R61). -/
def overflowFlags : Flags := { Flags.zero with aov := true, trap1 := true }

/-- `set(AOV, TRAP1, DCK)`: an integer division not performed (R601). -/
def noDivideFlags : Flags := { Flags.zero with aov := true, trap1 := true, dck := true }

/-- `set(AOV, FOV, DCK, TRAP1)`: a floating division not performed (R502). -/
def floatNoDivideFlags : Flags :=
  { Flags.zero with aov := true, fov := true, dck := true, trap1 := true }

/-- `set(AOV, FOV, TRAP1)`: floating overflow (R502). -/
def floatOverflowFlags : Flags := { Flags.zero with aov := true, fov := true, trap1 := true }

/-- `set(AOV, FOV, FXU, TRAP1)`: floating underflow (R502). -/
def floatUnderflowFlags : Flags :=
  { Flags.zero with aov := true, fov := true, fxu := true, trap1 := true }

/-- `set(TRAP2)`: pushdown overflow (R689). -/
def pushdownFlags : Flags := { Flags.zero with trap2 := true }

/-- A result word with the flags it sets. -/
structure WordFlags where
  word : Word
  flags : Flags
  deriving DecidableEq, Repr

/-- A result pair with the flags it sets. -/
structure PairFlags where
  hi : Word
  lo : Word
  flags : Flags
  deriving DecidableEq, Repr

/-- `add36(a, b, carry_in)`: the sum, C0 and C1 by their carry definitions, and the flags they set (R600). -/
def add36 (a b : Word) (cin : Bool) : WordFlags :=
  let t := a.toNat + b.toNat + cin.toNat
  let u := a.toNat % 2 ^ 35 + b.toNat % 2 ^ 35 + cin.toNat
  { word := BitVec.ofNat 36 t, flags := carryFlags (2 ^ 36 ≤ t) (2 ^ 35 ≤ u) }

/-- `a - b` is `add36(a, not b, 1)` (R600). -/
def sub36 (a b : Word) : WordFlags := add36 a (~~~b) true

/-- Negation with `negflags(x)` (R602). -/
def neg36 (x : Word) : WordFlags where
  word := -x
  flags :=
    if x = 0 then carryFlags true true
    else if x = signWord then carryFlags false true
    else Flags.zero

/-- Magnitude with `magflags(x)` (R602). -/
def mag36 (x : Word) : WordFlags where
  word := if negative x then -x else x
  flags := if x = signWord then carryFlags false true else Flags.zero

/-- `set_newflags(w, isJRST)` (R1250). The guard is on flags.USER itself, in a forced execute too (R65). -/
def setNewflags (w : Half) (isJrst : Bool) (s : State) : State :=
  let nf := Flags.ofHalf w
  let divert := s.cfg.its && nf.afi
  let guarded := isJrst && s.flags.user
  { s with
    its1pr := s.its1pr || divert
    flags :=
      { nf with
        afi := nf.afi && !divert
        user := nf.user || guarded
        uio := nf.uio && !(guarded && !s.flags.uio) } }

end Sys2Proof.Machine
end

