-- ==== Sys2Proof/Machine/Ops.lean ====
section
/-! DEFINITION. The named operations over the state: the abort channel, accumulators, physical memory, the pager, the
virtual access layer, the priority-interrupt system, the I/O bus, and the trap sequences (20_memory.md, 60_exceptions.md).
-/

namespace Sys2Proof.Machine

open Sys2Proof

/-! ### The abort channel (R1200) -/

/-- How an instruction can leave through the abort channel (R1200), or fault in the model (R99). -/
inductive Abort where
  /-- `PageFail`; the status word is already in `pagerWord`. -/
  | pageFail
  /-- `Reenter`. -/
  | reenter
  /-- `Stop(name)`. -/
  | stop (n : StopName)
  /-- A fault of the model. -/
  | fault (f : Fault)
  deriving DecidableEq, Repr

/-- An operation on the machine that may abort. An abort keeps the state reached so far (R1207). -/
abbrev M := EStateM Abort State

/-- The outcome of one instruction or step. -/
abbrev Out := Host.Outcome State Fault Refusal

/-- The current state. -/
def getS : M State := fun s => .ok s s

/-- Change the state. -/
def modS (f : State → State) : M Unit := fun s => .ok () (f s)

/-- Leave through the abort channel. -/
def raise {α : Type} (a : Abort) : M α := fun s => .error a s

/-- `act` when the condition holds, else nothing. -/
def onlyIf (c : Bool) (act : M Unit) : M Unit := if c then act else pure ()

/-! ### Accumulators (R52 to R54) -/

/-- Index of `ACB[b][n]`. -/
def acIndex (b : BitVec 3) (n : AcNum) : Fin 128 := (b ++ n).toFin

/-- `ACB[b][n]` (R52). -/
def State.acOf (s : State) (b : BitVec 3) (n : AcNum) : Word := s.acb.get (acIndex b n)

/-- `ACB[b][n] <- v` (R52). -/
def State.setAcOf (s : State) (b : BitVec 3) (n : AcNum) (v : Word) : State :=
  { s with acb := s.acb.set (acIndex b n).val v (acIndex b n).isLt }

/-- `AC[n]`, in the current block (R53). -/
def State.ac (s : State) (n : AcNum) : Word := s.acOf s.base.ubr.cab n

/-- `AC[n] <- v` (R53). -/
def State.setAc (s : State) (n : AcNum) (v : Word) : State := s.setAcOf s.base.ubr.cab n v

/-- Read `AC[n]`. -/
def getAc (n : AcNum) : M Word := fun s => .ok (s.ac n) s

/-- Write `AC[n]`. -/
def putAc (n : AcNum) (v : Word) : M Unit := modS fun s => s.setAc n v

/-! ### Program counter and flags (R16, R56, R59) -/

/-- `pc <- v`. -/
def State.setPc (s : State) (v : VAddr) : State := { s with pc := v }

/-- `pc <- v`. -/
def jump (v : VAddr) : M Unit := modS fun s => s.setPc v

/-- `skip` (R16). -/
def skipNext : M Unit := modS fun s => s.setPc (s.pc + 1)

/-- `skip` when the condition holds. -/
def skipIf (c : Bool) : M Unit := onlyIf c skipNext

/-- `set(F...)` on the state. -/
def State.orFlags (s : State) (f : Flags) : State := { s with flags := s.flags.union f }

/-- `set(F...)`. -/
def setFlags (f : Flags) : M Unit := modS fun s => s.orFlags f

/-- `FLPC = XWD(FLAGS18, PC)` (R59). -/
def State.flpc (s : State) : Word := xwd s.flags.toHalf s.pc

/-- The mode in force: user when flags.USER is set, but executive in a forced execute (R1223). -/
def State.inUser (s : State) : Bool := s.flags.user && s.phase != .forced

/-! ### Sparse tables: lists of key and value, keys strictly rising -/

/-- The value listed for a key. -/
def tblGet {α : Type} : List (Nat × α) → Nat → Option α
  | [], _ => none
  | (k, v) :: t, a => if a = k then some v else tblGet t a

/-- Set the value of a key, keeping the keys rising. -/
def tblSet {α : Type} : List (Nat × α) → Nat → α → List (Nat × α)
  | [], a, v => [(a, v)]
  | (k, w) :: t, a, v =>
    if a < k then (a, v) :: (k, w) :: t
    else if a = k then (a, v) :: t
    else (k, w) :: tblSet t a v

/-- Remove a key. -/
def tblDrop {α : Type} : List (Nat × α) → Nat → List (Nat × α)
  | [], _ => []
  | (k, w) :: t, a => if a = k then tblDrop t a else (k, w) :: tblDrop t a

/-- Keys strictly rising from a bound on. -/
def risingFrom {α : Type} : Nat → List (Nat × α) → Bool
  | _, [] => true
  | b, (k, _) :: t => decide (b ≤ k) && risingFrom (k + 1) t

/-- Every key below a bound. -/
def keysBelow {α : Type} : Nat → List (Nat × α) → Bool
  | _, [] => true
  | b, (k, _) :: t => decide (k < b) && keysBelow b t

/-- The canonical form of memory: addresses strictly rising and existing (R99). -/
def Memory.wf (memSize : Nat) (m : List (Nat × Word)) : Bool := risingFrom 0 m && keysBelow memSize m

/-! ### The priority-interrupt system (60_exceptions.md section 2) -/

/-- `lvbit(n)` (R1211). -/
def lvbit (n : Nat) : BitVec 7 := if n = 0 then 0 else 0o100 >>> (n - 1)

/-- `lowest(m)`: the lowest-numbered level set, 8 when none (R1211). -/
def lowest (m : BitVec 7) : Nat :=
  if m.getLsbD 6 then 1 else if m.getLsbD 5 then 2 else if m.getLsbD 4 then 3
  else if m.getLsbD 3 then 4 else if m.getLsbD 2 then 5 else if m.getLsbD 1 then 6
  else if m.getLsbD 0 then 7 else 8

/-- `apr_irq` (R1103). -/
def Apr.irq (a : Apr) : Bool := (a.flg &&& a.enb) != 0

/-- `pi_aprq` (R1212). -/
def State.piAprq (s : State) : BitVec 7 :=
  if s.apr.lvl != 0 && s.apr.irq then lvbit s.apr.lvl.toNat else 0

/-- `pi_pending` as `evaluate()` derives it (R1213). Being derived on every use, it is up to date after every change of
an input. -/
def State.piPending (s : State) : Nat :=
  if s.pi.on then
    let lv := lowest ((s.piAprq ||| s.pi.ioq ||| s.pi.prq) &&& s.pi.enb)
    if lv = 8 ∨ lowest s.pi.act ≤ lv then 0 else lv
  else 0

/-- `dismiss()` (R1214). -/
def dismissSt (s : State) : State :=
  if s.pi.act = 0 then s
  else { s with pi := { s.pi with act := s.pi.act &&& ~~~(lvbit (lowest s.pi.act)) } }

/-- `dismiss()`. -/
def dismiss : M Unit := modS dismissSt

/-! ### Physical memory (R99, R166, R169) -/

/-- The mask of an APR flag at a position of `APR_FLAG_BITS` (R1103). -/
def aprMask (b : BitVec 3) : BitVec 8 := 1 <<< b.toNat

/-- APR NXM (R1103) set by a reference to non-existent memory (R169). -/
def State.signalNxm (s : State) : State :=
  { s with apr := { s.apr with flg := s.apr.flg ||| aprMask s.cfg.aprBits.nxm } }

/-- A physical address of PA_WIDTH bits (R150, D2). -/
def State.physAddr (s : State) (n : Nat) : BitVec 22 := BitVec.ofNat 22 (n % 2 ^ s.cfg.paWidth)

/-- A physical page number of PA_WIDTH - 9 bits (D2). -/
def State.pageNo (s : State) (n : Nat) : BitVec 13 := BitVec.ofNat 13 (n % 2 ^ (s.cfg.paWidth - 9))

/-- `M[pa] <- v`. -/
def State.setMem (s : State) (pa : Nat) (v : Word) : State := { s with mem := tblSet s.mem pa v }

/-- A physical read up to the report of non-existent memory: `none` is the case that raises, paging being on (R166,
R169). With paging off a non-existent word reads 0 (D15). -/
def physRead (pa : Nat) : M (Option Word) := fun s =>
  if pa < s.cfg.memSize then
    match tblGet s.mem pa with
    | some w => .ok (some w) s
    | none => .error (.fault (.unwritten pa)) s
  else .ok (if s.base.ebr.pgon then none else some 0) s.signalNxm

/-- A physical write up to the report of non-existent memory: `false` is the case that raises (R166, R169). -/
def physWrite (pa : Nat) (v : Word) : M Bool := fun s =>
  if pa < s.cfg.memSize then .ok true (s.setMem pa v)
  else .ok (!s.base.ebr.pgon) s.signalNxm

/-- The U bit, DEC bit 0 of a page-fail word (R200, R201). -/
def pfwU (user : Bool) : Word := if user then signWord else 0

/-- `PFW_NXM(pa)` (R200). -/
def pfwNxm (user : Bool) (pa : Nat) : Word := 0o370000000000 ||| pfwU user ||| BitVec.ofNat 36 pa

/-- `PFW_IO(ioa)` (R1149). -/
def pfwIo (user : Bool) (ioa : BitVec 22) : Word :=
  0o370000000000 ||| 0o000100000000 ||| pfwU user ||| ioa.setWidth 36

/-- The soft page-fail word of the DEC disciplines and the MAP success word, by fields (R200). -/
def pfw (user a w sm c p wr : Bool) (addr : Nat) : Word :=
  pfwU user ||| (if a then 0o100000000000 else 0) ||| (if w then 0o040000000000 else 0) |||
    (if sm then 0o020000000000 else 0) ||| (if c then 0o010000000000 else 0) |||
    (if p then 0o000200000000 else 0) ||| (if wr then 0o000040000000 else 0) |||
    BitVec.ofNat 36 addr

/-- The word of an event in the layout of R200 and R1149. The success word of MAP has no bit but U, A and W set (log entry
18). -/
def pfwStandard : PfwEvent → Word
  | .soft user a w sm c p wr va => pfw user a w sm c p wr va.toNat
  | .mapped user w pa => pfw user true w false false false false pa
  | .nxm user pa => pfwNxm user pa
  | .io user ioa => pfwIo user ioa

/-- The word of an event in the layout in force, `PFW_LAYOUT` (R200, D58). -/
def State.pfwWord (s : State) (ev : PfwEvent) : Word :=
  match s.cfg.pfwLayout with
  | .standard => pfwStandard ev
  | .other k => Config.pfwOther k ev

/-- `PFW_ITS` in the layout of R201. -/
def pfwIts (user : Bool) (acc : BitVec 2) (wr : Bool) (va : VAddr) : Word :=
  pfwU user ||| (acc.setWidth 36 <<< 28) ||| (if wr then 0o000010000000 else 0) ||| va.setWidth 36

/-- `PFW_ITS` in the layout in force, `PFW_ITS_LAYOUT` (R201, D58). -/
def State.pfwItsWord (s : State) (user : Bool) (acc : BitVec 2) (wr : Bool) (va : VAddr) : Word :=
  match s.cfg.pfwItsLayout with
  | .standard => pfwIts user acc wr va
  | .other k => Config.pfwItsOther k user acc wr va

/-- `pager_word <- w`. -/
def setPagerWord (w : Word) : M Unit := modS fun s => { s with pagerWord := w }

/-- `raise PageFail(pfw)` (R1200). -/
def raisePageFail {α : Type} (w : Word) : M α := do
  setPagerWord w
  raise .pageFail

/-- `pager_word <- PFW(event)` (R200). -/
def notePfw (ev : PfwEvent) : M Unit := fun s => setPagerWord (s.pfwWord ev) s

/-- `raise PageFail(PFW(event))` (R200, R1200). -/
def failWith {α : Type} (ev : PfwEvent) : M α := fun s => raisePageFail (s.pfwWord ev) s

/-- `ReadP(pa)` on behalf of a space, which the failure word reports (R166, R169). -/
def readP (user : Bool) (pa : Nat) : M Word := do
  match ← physRead pa with
  | some w => pure w
  | none => failWith (.nxm user pa)

/-- `WriteP(pa, v)` (R166, R169). -/
def writeP (user : Bool) (pa : Nat) (v : Word) : M Unit := do
  if ← physWrite pa v then pure () else failWith (.nxm user pa)

/-- ReadP of a trap or interrupt sequence (R1206). -/
def seqRead (pa : Nat) : M Word := do
  match ← physRead pa with
  | some w => pure w
  | none => raise (.stop .trpnxm)

/-- WriteP of a trap or interrupt sequence (R1206). -/
def seqWrite (pa : Nat) (v : Word) : M Unit := do
  if ← physWrite pa v then pure () else raise (.stop .trpnxm)

/-! ### The external agents, step 1 of the loop (R1260, R1270, R1275, R1290) -/

/-- `reset()` after power-up (R1400): accumulators, memory, TIMEBASE, the I/O request input, the breakpoints and the
configuration stay. -/
def State.laterReset (s : State) : State :=
  { State.reset with
    cfg := s.cfg
    acb := s.acb
    pc := s.cfg.startPc
    ipc := s.cfg.startPc
    base := { State.reset.base with hsb := s.cfg.hsbReset }
    timeBase := s.timeBase
    pi := { State.reset.pi with ioq := s.pi.ioq }
    mem := s.mem
    breakpoints := s.breakpoints
    bkptSkip := s.bkptSkip
    env := s.env }

/-- APR flags or-ed into `apr_flg`. -/
def State.raiseApr (s : State) (mask : BitVec 8) : State := { s with apr := { s.apr with flg := s.apr.flg ||| mask } }

/-- The APR inputs of the host as register bits (R1103). -/
def aprInputMask (b : AprBits) (pwf bmd ecc con : Bool) : BitVec 8 :=
  (if pwf then aprMask b.pwf else 0) ||| (if bmd then aprMask b.bmd else 0) ||| (if ecc then aprMask b.ecc else 0) |||
    (if con then aprMask b.con else 0)

/-- A write of memory by the host or a device: refused where memory does not exist (R1290). -/
def State.poke (s : State) (pa : Nat) (v : Word) : State := if pa < s.cfg.memSize then s.setMem pa v else s

/-- One cached translation lost (R91). -/
def State.evictEntry (s : State) (user : Bool) (vpn : Nat) : State :=
  { s with cache :=
      if user then { s.cache with tlbUser := tblDrop s.cache.tlbUser vpn }
      else { s.cache with tlbExec := tblDrop s.cache.tlbExec vpn } }

/-- `deposit_flags`: no guard (R1290); under ITS AFI is never held in the flags register (R68, R75; log entry 28). -/
def State.depositFlags (s : State) (w : Half) : State :=
  let f := Flags.ofHalf w
  { s with flags := { f with afi := f.afi && !s.cfg.its } }

/-- What one external action does (R1270, R1275, R1290). A tick adds modulo 2^72, by any number (log entry 32). -/
def applyEvent (s : State) : AgentEvent → State
  | .tick n => { s with timeBase := s.timeBase + BitVec.ofNat 72 n }
  | .intervalDone => if s.interval = 0 then s else s.raiseApr (aprMask s.cfg.aprBits.tim)
  | .ioRequest mask => { s with pi := { s.pi with ioq := mask } }
  | .dma pa v => s.poke pa v
  | .ioFatal => { s with env := { s.env with fatal := true } }
  | .aprInput pwf bmd ecc con => s.raiseApr (aprInputMask s.cfg.aprBits pwf bmd ecc con)
  | .depositAc b n v => s.setAcOf b n v
  | .depositPhys pa v => s.poke pa v
  | .depositPc v => s.setPc v
  | .depositFlags w => s.depositFlags w
  | .forceExec a => { s with forcedExec := some a }
  | .setBreakpoints l => { s with breakpoints := l }
  | .skipBreakpoint => { s with bkptSkip := true }
  | .clearInt80 => { s with apr := { s.apr with flg := s.apr.flg &&& ~~~(aprMask s.cfg.aprBits.int80) } }
  | .evict user vpn => if s.cfg.tlbMayEvict then s.evictEntry user vpn.toNat else s
  | .reset => s.laterReset

/-- Step 1: the actions of one entry of the agenda, in order. -/
def agents (s : State) : State :=
  (s.env.agenda.headD []).foldl applyEvent { s with env := { s.env with agenda := s.env.agenda.drop 1 } }

/-- At a checkpoint: the next entry of the agenda has come, and requests an interrupt (R50, R1261). -/
def State.arrival (s : State) : Bool := s.env.arrivals.headD false && (agents s).piPending != 0

/-- A checkpoint is passed: the word on arrivals there is used up. -/
def State.passCheckpoint (s : State) : State := { s with env := { s.env with arrivals := s.env.arrivals.drop 1 } }

/-! ### The pager (20_memory.md section 4) -/

/-- Translation modes (R170). `map` serves CONSOLE too, whose caller discards the state (R172, R1291). -/
inductive AccMode where
  | read | write | map
  deriving DecidableEq, Repr

/-- READ and WRITE fills write the cache and do the write-backs (R172). -/
def AccMode.commits (m : AccMode) : Bool := m != .map

/-- The table of a space (R90). -/
def PagerCache.table (c : PagerCache) (user : Bool) : List (Nat × TlbEntry) :=
  if user then c.tlbUser else c.tlbExec

/-- Cache an entry. -/
def State.setTlb (s : State) (user : Bool) (vpn : Nat) (e : TlbEntry) : State :=
  { s with cache :=
      if user then { s.cache with tlbUser := tblSet s.cache.tlbUser vpn e }
      else { s.cache with tlbExec := tblSet s.cache.tlbExec vpn e } }

/-- `invalidate_all()` (R174). -/
def State.invalidateAll (s : State) : State := { s with cache := PagerCache.empty }

/-- Both entries of one DEC page set to None. -/
def State.dropPage (s : State) (vpn : Nat) : State :=
  { s with cache :=
      { s.cache with tlbExec := tblDrop s.cache.tlbExec vpn, tlbUser := tblDrop s.cache.tlbUser vpn } }

/-- `invalidate(vpn)`: under ITS both DEC slots of the ITS page (R174, D18). -/
def State.invalidate (s : State) (vpn : Nat) : State :=
  if s.cfg.its then (s.dropPage (vpn / 2 * 2)).dropPage (vpn / 2 * 2 + 1) else s.dropPage vpn

/-- EPT physical address (R80). -/
def State.ept (s : State) : Nat := s.base.ebr.eptPg.toNat * 0o1000

/-- UPT physical address (R81). -/
def State.upt (s : State) : Nat := s.base.ubr.uptPg.toNat * 0o1000

/-- A 9-bit DEC virtual page number (R170). -/
def vpnOf (va : VAddr) : Nat := va.toNat / 0o1000

/-- Offset in a DEC page (R170). -/
def offOf (va : VAddr) : Nat := va.toNat % 0o1000

/-- Word address of the TOPS-10 pair holding a page's entry (R180). -/
def State.t10Pair (s : State) (user : Bool) (vpn : Nat) : Nat :=
  if user then s.upt + vpn / 2
  else if vpn < 0o340 then s.ept + 0o600 + vpn / 2
  else if vpn < 0o400 then s.upt + 0o400 + (vpn - 0o340) / 2
  else s.ept + 0o200 + (vpn - 0o400) / 2

/-- The halfword of a pair for an even or odd page (R180, R190). -/
def pairHalf (w : Word) (page : Nat) : Half := if page % 2 = 0 then lh w else rh w

/-- TOPS-10 fill (R181, R182). -/
def fillT10 (user : Bool) (mode : AccMode) (va : VAddr) : M TlbEntry := do
  let s ← getS
  let w ← readP user (s.t10Pair user (vpnOf va))
  let pte := pairHalf w (vpnOf va)
  let a := pte.getLsbD 17
  let wr := pte.getLsbD 15
  notePfw (.soft user a wr (pte.getLsbD 14) (pte.getLsbD 13) (pte.getLsbD 16) (mode = .write) va)
  if !a || (mode = .write && !wr) then raise .pageFail
  else do
    let entry : TlbEntry := ⟨s.pageNo pte.toNat, wr⟩
    onlyIf mode.commits (modS fun s => s.setTlb user (vpnOf va) entry)
    pure entry

/-- `ind_count` incremented by one indirect step of the instruction in progress (R95): only the start of an instruction
resets it. -/
def countIndirect : M Unit := modS fun s => { s with indCount := s.indCount + 1 }

/-- The indirection limit at the `n`-th step of a calculation or pointer chain: `Stop(IND)` when `n > IND_MAX`, 0 being no
limit (R312, D24; log entry 30). -/
def indLimit (n : Nat) : M Unit := fun s =>
  if s.cfg.indMax ≠ 0 ∧ s.cfg.indMax < n then .error (.stop .ind) s else .ok () s

/-- A checkpoint: `Reenter` when an interrupt is pending (R312, R1204), be it one that has just come; what has come is
performed at the step 1 that follows the re-entry. In the interrupt sequence no `Reenter` arises (R1202). -/
def reenterIfPending : M Unit := fun s =>
  if s.piCycle then .ok () s
  else if s.piPending ≠ 0 ∨ s.arrival = true then .error .reenter s.passCheckpoint else .ok () s.passCheckpoint

/-- The indirection check of the `n`-th pointer step of a TOPS-20 chain (R173): in READ and WRITE it counts and checks as
an effective-address indirection does; in MAP it answers whether the chain may go on (D17). -/
def pointerCheck (mode : AccMode) (n : Nat) : M Bool := do
  if mode.commits then do
    countIndirect
    indLimit n
    reenterIfPending
    pure true
  else do
    let s ← getS
    pure (decide (n ≤ if s.cfg.indMax = 0 then 2 ^ 18 else s.cfg.indMax))

/-- SPT entry `index` (R185). SPB + index is not wrapped at PA_WIDTH bits: beyond MEMSIZE it is non-existent (log entry
41). -/
def readSpt (user : Bool) (ptr : Word) : M Word := do
  let s ← getS
  readP user (s.base.spb.toNat + (rh ptr).toNat)

/-- The storage-medium field STM of an immediate pointer or an SPT entry (R185). -/
def stmOf (w : Word) : BitVec 6 := w.extractLsb' 18 6

/-- The PPN field of an immediate pointer or an SPT entry (R185). -/
def State.ppnOf (s : State) (w : Word) : BitVec 13 := s.pageNo w.toNat

/-- The age field of a CST entry, DEC bits 0-5 (R187). -/
def cstAge (cst : Word) : BitVec 6 := cst.extractLsb' 30 6

/-- The physical address of a page's CST entry, not wrapped at PA_WIDTH bits (R187, log entry 41). -/
def State.cstAddr (s : State) (ppn : BitVec 13) : Nat := s.base.csb.toNat + ppn.toNat

/-- `new` of R187: a CST entry aged, its modified bit set for a write. -/
def State.agedCst (s : State) (cst : Word) (dirty : Bool) : Word :=
  ((cst &&& s.base.cstm) ||| s.base.pur) ||| (if dirty then 1 else 0)

/-- A fill in this mode writes CST entries back (R172, D19). -/
def State.writesCst (s : State) (mode : AccMode) : Bool := mode.commits && (mode = .write || !s.cfg.t20CstWriteOnly)

/-- Under `T20_CST_SCOPE` with the tables (R187, D19): the CST step of a page that holds a page table, which is that of a
data page without the modified bit (log entry 39). `false` when its age is 0. -/
def tableAge (user : Bool) (mode : AccMode) (ppn : BitVec 13) : M Bool := do
  let s ← getS
  if s.cfg.t20CstTables then do
    let cst ← readP user (s.cstAddr ppn)
    if cstAge cst = 0 then pure false
    else do
      onlyIf (s.writesCst mode) (writeP user (s.cstAddr ppn) (s.agedCst cst false))
      pure true
  else pure true

/-- `resolve(ptr, accW, accC)` (R186); `n` counts the indirect steps. The fuel exceeds every chain that ends (log entry
10); its end is an endless chain, left through re-entry. -/
def resolve (user : Bool) (mode : AccMode) : Nat → Nat → Word → Bool → Bool → M (Option PageRef)
  | 0, _, _, _, _ => raise .reenter
  | fuel + 1, n, ptr, accW, accC => do
    let s ← getS
    let w := accW && ptr.getLsbD 31
    let c := accC && ptr.getLsbD 29
    let ty := (ptr.extractLsb' 33 3).toNat
    if ty = 1 then
      pure (if stmOf ptr = 0 then some ⟨s.ppnOf ptr, w, c⟩ else none)
    else if ty = 2 then do
      let t ← readSpt user ptr
      pure (if stmOf t = 0 then some ⟨s.ppnOf t, w, c⟩ else none)
    else if ty = 3 then do
      let t ← readSpt user ptr
      if stmOf t ≠ 0 then pure none
      else if ← pointerCheck mode (n + 1) then do
        if ← tableAge user mode (s.ppnOf t) then do
          let next ← readP user ((s.ppnOf t).toNat * 0o1000 + (ptr.extractLsb' 18 9).toNat)
          resolve user mode fuel (n + 1) next w c
        else pure none
      else pure none
    else pure none

/-- Fuel of `resolve`: beyond the limit of a chain in every mode, and beyond the 2^22 words a chain can visit, each again
after every CST entry a table of the chain has rewritten (R173, R186, log entry 10). -/
def State.resolveFuel (s : State) : Nat := 2 ^ 36 + s.cfg.indMax

/-- The cached section result of a space (R93). -/
def PagerCache.sect (c : PagerCache) (user : Bool) : Option PageRef :=
  if user then c.sectUser else c.sectExec

/-- Cache a section result (R93). -/
def State.setSect (s : State) (user : Bool) (r : PageRef) : State :=
  { s with cache :=
      if user then { s.cache with sectUser := some r } else { s.cache with sectExec := some r } }

/-- `pager_word <- PFW(space, mode, va, A = 0)` and fail (R187). The fields the rule does not name, W, M, C and P, are 0
(log entry 42). -/
def failAbsent {α : Type} (user : Bool) (mode : AccMode) (va : VAddr) : M α :=
  failWith (.soft user false false false false false (mode = .write) va)

/-- First phase of the TOPS-20 fill: the section pointer (R187). -/
def sectionRef (user : Bool) (mode : AccMode) (va : VAddr) : M PageRef := do
  let s ← getS
  match s.cache.sect user with
  | some r => pure r
  | none => do
    let ptr ← readP user ((if user then s.upt else s.ept) + 0o540)
    match ← resolve user mode s.resolveFuel 0 ptr true true with
    | some r => do
      onlyIf mode.commits (modS fun s => s.setSect user r)
      pure r
    | none => failAbsent user mode va

/-- The page pointer of a TOPS-20 page, in the page table the section pointer names (R187). -/
def pageRef (user : Bool) (mode : AccMode) (va : VAddr) (sect : PageRef) : M (Option PageRef) := do
  let s ← getS
  if ← tableAge user mode sect.ppn then do
    let ptr ← readP user (sect.ppn.toNat * 0o1000 + vpnOf va)
    resolve user mode s.resolveFuel 0 ptr sect.writable sect.cacheable
  else pure none

/-- TOPS-20 fill (R187). P, which the rule does not name, is 0 in the status word (log entry 42). -/
def fillT20 (user : Bool) (mode : AccMode) (va : VAddr) : M TlbEntry := do
  let sect ← sectionRef user mode va
  match ← pageRef user mode va sect with
  | none => failAbsent user mode va
  | some pg => do
    let s ← getS
    let cst ← readP user (s.cstAddr pg.ppn)
    if cstAge cst = 0 then failAbsent user mode va
    else if mode = .write && !pg.writable then
      failWith (.soft user true false (cst.getLsbD 0) pg.cacheable false true va)
    else do
      let new := s.agedCst cst (mode = .write)
      onlyIf (s.writesCst mode) (writeP user (s.cstAddr pg.ppn) new)
      notePfw (.soft user true pg.writable (new.getLsbD 0) pg.cacheable false (mode = .write) va)
      let entry : TlbEntry := ⟨pg.ppn, pg.writable && new.getLsbD 0⟩
      onlyIf mode.commits (modS fun s => s.setTlb user (vpnOf va) entry)
      pure entry

/-- The ITS page-table base of a space and half (R83, R190). -/
def State.itsDbr (s : State) (user : Bool) (va : VAddr) : Nat :=
  if user then (if va.getLsbD 17 then s.base.dbr2 else s.base.dbr1).toNat
  else (if va.getLsbD 17 then s.base.dbr3 else s.base.dbr4).toNat

/-- A pair word with the age bit of one halfword cleared (R191, R192): DEC bit 2 of the halfword. -/
def clearAge (w : Word) (page : Nat) : Word :=
  w &&& ~~~(if page % 2 = 0 then xwd 0o100000 0 else xwd 0 0o100000)

/-- ITS fill (R190 to R192). DBR + offset is not wrapped at PA_WIDTH bits (log entry 41). -/
def fillIts (user : Bool) (mode : AccMode) (va : VAddr) : M TlbEntry := do
  let s ← getS
  let ip := va.toNat / 0o2000
  let addr := s.itsDbr user va + ip % 0o200 / 2
  let w ← readP user addr
  let pte := pairHalf w ip
  let acc := pte.extractLsb' 16 2
  let wr := s.cfg.itsWritable.getLsbD acc.toNat
  setPagerWord (s.pfwItsWord user acc (mode = .write) va)
  if acc = 0 || (mode = .write && !wr) then raise .pageFail
  else do
    let base : BitVec 13 := s.pageNo (2 * pte.toNat)
    onlyIf mode.commits do
      writeP user addr (clearAge w ip)
      modS fun s => (s.setTlb user (2 * ip) ⟨base, wr⟩).setTlb user (2 * ip + 1) ⟨base ||| 1, wr⟩
    pure ⟨if va.getLsbD 9 then base ||| 1 else base, wr⟩

/-- The fill of the discipline in force (R171): the entry of the page that holds `va`. -/
def fill (user : Bool) (mode : AccMode) (va : VAddr) : M TlbEntry := fun s =>
  if s.cfg.its then fillIts user mode va s
  else if s.base.ebr.t20 then fillT20 user mode va s
  else fillT10 user mode va s

/-- A page and offset as a physical address. -/
def physOf (ppn : BitVec 13) (va : VAddr) : Nat := ppn.toNat * 0o1000 + offOf va

/-- The entry that maps an address, paging being on: the cached one, unless the reference is a write and it is not
writable, else what a fill gives (R170). -/
def entryFor (user : Bool) (mode : AccMode) (va : VAddr) : M TlbEntry := fun s =>
  match tblGet (s.cache.table user) (vpnOf va) with
  | some e => if mode != .write || e.writable then .ok e s else fill user mode va s
  | none => fill user mode va s

/-- `translate(va, ctx, mode)` for an address outside the accumulators (R170). Every failure raises `PageFail`; MAP and
CONSOLE callers catch it. -/
def translate (user : Bool) (mode : AccMode) (va : VAddr) : M Nat := fun s =>
  if s.base.ebr.pgon then (do
    let e ← entryFor user mode va
    pure (physOf e.ppn va)) s
  else .ok va.toNat s

/-! ### The virtual access layer (20_memory.md sections 2 and 3) -/

/-- Access contexts (R155); `PHYS` is `readP` and `writeP`. -/
inductive Ctx where
  | cur | prev | execv
  deriving DecidableEq, Repr

/-- Whether a context is the user space (R155). -/
def State.space (s : State) : Ctx → Bool
  | .cur => s.inUser
  | .prev => if s.inUser then true else s.flags.uio
  | .execv => false

/-- The AC block of a context (R155). -/
def State.block (s : State) : Ctx → BitVec 3
  | .cur => s.base.ubr.cab
  | .prev => if s.inUser then s.base.ubr.cab else s.base.ubr.pab
  | .execv => s.base.ubr.cab

/-- An address that names an accumulator (R160). -/
def isAc (va : VAddr) : Bool := decide (va.toNat < 0o20)

/-- The accumulator an address below 0o20 names (R160). -/
def acOfAddr (va : VAddr) : AcNum := va.setWidth 4

/-- A virtual read translated in the given mode (R161, R162). -/
def readAs (mode : AccMode) (c : Ctx) (va : VAddr) : M Word := fun s =>
  if isAc va then .ok (s.acOf (s.block c) (acOfAddr va)) s
  else (do
    let pa ← translate (s.space c) mode va
    readP (s.space c) pa) s

/-- `Read(va, ctx)` (R161). -/
def vread (c : Ctx) (va : VAddr) : M Word := readAs .read c va

/-- `ReadM(va, ctx)` (R162). -/
def vreadM (c : Ctx) (va : VAddr) : M Word := readAs .write c va

/-- `Write(va, v, ctx)` (R163). -/
def vwrite (c : Ctx) (va : VAddr) (v : Word) : M Unit := fun s =>
  if isAc va then .ok () (s.setAcOf (s.block c) (acOfAddr va) v)
  else (do
    let pa ← translate (s.space c) .write va
    writeP (s.space c) pa v) s

/-- `AccViol(va, ctx, mode)` (R167, D14): whether the translation would page-fail; a probe that would leaves the state
as it was. -/
def accViol (c : Ctx) (va : VAddr) (mode : AccMode) : M Bool := fun s =>
  if isAc va then .ok false s
  else match translate (s.space c) mode va s with
    | .ok _ t => .ok false t
    | .error .pageFail _ => .ok true s
    | .error a t => .error a t

/-! ### The I/O bus (49_io.md section 7) -/

/-- `NoDevice` (R1149, D41). -/
def noDevice {α : Type} (ioa : BitVec 22) : M α := do
  let s ← getS
  failWith (.io s.flags.user ioa)

/-- `ReadIO(ioa, size)` (R1140): the next answer of the I/O subsystem; a byte is its low 8 bits. -/
def readIo (ioa : BitVec 22) (size : IoSize) : M Word := do
  let s ← getS
  modS fun s => { s with env := { s.env with
    reads := s.env.reads.drop 1, log := .read ioa size :: s.env.log } }
  match s.env.reads with
  | some v :: _ => pure (if size = .byte then (v.extractLsb' 0 8).setWidth 36 else v)
  | _ => noDevice ioa

/-- `WriteIO(ioa, v, size)` (R1140). -/
def writeIo (ioa : BitVec 22) (v : Word) (size : IoSize) : M Unit := do
  let s ← getS
  modS fun s => { s with env := { s.env with
    writes := s.env.writes.drop 1, log := .write ioa v size :: s.env.log } }
  match s.env.writes with
  | true :: _ => pure ()
  | _ => noDevice ioa

/-- `io_vector(level)` (R1140, R1221). -/
def ioVector (level : Nat) : M (Option (Nat × Half)) := fun s =>
  .ok (s.env.vectors.headD none)
    { s with env := { s.env with vectors := s.env.vectors.drop 1, log := .vector level :: s.env.log } }

/-! ### Taking a trap and returning from one (60_exceptions.md sections 1, 4 and 7) -/

/-- The word RDUBR reads (R1114). -/
def State.ubrWord (s : State) : Word :=
  0o500000000000 ||| (s.base.ubr.cab.setWidth 36 <<< 27) ||| (s.base.ubr.pab.setWidth 36 <<< 24) |||
    s.base.ubr.uptPg.setWidth 36

/-- The flags a trap saves: with the 1-proceed bit merged in while the latch is set (R1246). -/
def State.savedFlags (s : State) : Half :=
  ({ s.flags with afi := s.flags.afi || s.its2pr } : Flags).toHalf

/-- Enter a trap handler through its new-flags,,PC cell, the end the page-fail and MUUO sequences share (R1203, R1230,
R1257): PCU set when the old mode was user, no JRST guard, the 1-proceed latch spent (R1246). -/
def enterHandler (cell : Nat) : M Unit := do
  let s ← getS
  let n ← seqRead cell
  let pcu : Half := if s.flags.user then 0o004000 else 0
  modS fun t =>
    (setNewflags (lh n ||| pcu) false { t with its2pr := false }).setPc (rh n)

/-- The TOPS-20 trap formats are in force (R1203, R1231). -/
def State.t20Format (s : State) : Bool := s.base.ebr.t20 && !s.cfg.its

/-- The words of a save area stored in their cells, in their order (R1203, R1231). -/
def saveAll (base : Nat) : List (Nat × Word) → M Unit
  | [] => pure ()
  | (off, w) :: rest => do
    seqWrite (base + off) w
    saveAll base rest

/-- The cells and format of a page fail under the discipline in force (R1203, R1205). -/
def State.pfCells (s : State) : PfCells :=
  if s.t20Format then s.cfg.pfT20 else if s.cfg.its then s.cfg.pfIts else s.cfg.pfT10

/-- A word a page fail saves, from the old flags, the PC and the status word (R1203). -/
def pfItemWord (flags : Half) (pc : VAddr) (status : Word) : PfItem → Word
  | .status => status
  | .flpc => xwd flags pc
  | .flags => xwd flags 0
  | .pc => xwd 0 pc
  | .other k => Config.pfSaveOther k flags pc status

/-- Page-fail sequence (R1203, R1205). -/
def pageFailSeq : M Unit := do
  modS fun s => s.setPc s.ipc
  let s ← getS
  saveAll s.upt (s.pfCells.saves.map fun c => (c.1, pfItemWord s.savedFlags s.pc s.pagerWord c.2))
  enterHandler (s.upt + s.pfCells.entry)

/-- The 13 bits of opcode and AC as DEC bits 0-12 of a left half (R1231). -/
def opacHalf (op : BitVec 9) (ac : AcNum) : Half := op ++ ac ++ (0 : BitVec 5)

/-- MUUO new-PC cell (R1232). -/
def State.muuoCell (s : State) : Nat :=
  let t : BitVec 3 := BitVec.ofBool s.flags.user ++ BitVec.ofBool s.flags.pub ++ BitVec.ofBool (s.phase == .trap)
  s.upt + s.cfg.muuoNew.get t.toFin

/-- A word an MUUO saves, from its opcode, AC and E, the old flags, the PC and the context word (R1231). -/
def muuoItemWord (op : BitVec 9) (ac : AcNum) (e : VAddr) (flags : Half) (pc : VAddr) (ctxw : Word) : MuuoItem → Word
  | .opcodeE => xwd (opacHalf op ac) e
  | .flpc => xwd flags pc
  | .context => ctxw
  | .flagsOpcode => xwd flags (opacHalf op ac)
  | .pc => xwd 0 pc
  | .e => xwd 0 e
  | .other k => Config.muuoSaveOther k op ac e flags pc ctxw

/-- The cells and format of an MUUO's save area (R1231). -/
def State.muuoCells (s : State) : List (Nat × MuuoItem) := if s.t20Format then s.cfg.muuoT20 else s.cfg.muuoT10

/-- MUUO sequence, "goto MUUO" (R1230, R1231). -/
def muuoSeq (op : BitVec 9) (ac : AcNum) (e : VAddr) : M Unit := do
  let s ← getS
  saveAll s.upt (s.muuoCells.map fun c => (c.1, muuoItemWord op ac e s.savedFlags s.pc s.ubrWord c.2))
  enterHandler s.muuoCell

/-- Return from a trap or interrupt: the flags restored under the JRST guard (R1250) and the PC loaded. -/
def restoreFlpc (flags : Half) (pc : VAddr) : M Unit :=
  modS fun s => (setNewflags flags true s).setPc pc

/-- How a stop leaves the state (R1282): `pc = IPC`, but for HALT, which has set its own. -/
def stopState (n : StopName) (s : State) : State :=
  { s with pc := if n = .halt then s.pc else s.ipc, report := .stop n }

/-- What the loop makes of an instruction's abort (R1201, R1203, R1204, R1282). A stop is a next state that reports it:
the host may call `step` again (R1411). A suppressed page fail (R453) only ends the instruction (log entry 40). A
`Reenter` raised in a trap instruction or a forced word does just what R1204 writes, `pc <- IPC`: the trap flags stay clear
and `forced_exec` empty, so the program goes on at IPC and that word is not run again (log entry 50). -/
def abortOutcome (a : Abort) (s : State) : Out :=
  match a with
  | .fault f => .fault f
  | .reenter => .next { s with pc := s.ipc, report := .reenter }
  | .stop n => .next (stopState n s)
  | .pageFail =>
    if s.inhibit then .next s
    else
      match pageFailSeq s with
      | .ok _ t => .next { t with report := .pageFail }
      | .error (.fault f) _ => .fault f
      | .error (.stop n) t => .next (stopState n t)
      | .error _ t => .next { t with pc := t.ipc, report := .reenter }

/-- Run a meaning: its effect, or what its abort leads to. -/
def finish (m : M Unit) (s : State) : Out :=
  match m s with
  | .ok _ t => .next t
  | .error a t => abortOutcome a t

end Sys2Proof.Machine
end

