-- ==== Sys2Proof/Machine/Operands.lean ====
section
/-! DEFINITION. Operand contexts, the effective-address calculation, and the operand forms the instruction families
share (30_encoding.md sections 2 and 3, 45_shift_jump.md rule R687, 41_byte_double.md rules R460 and R461). -/

namespace Sys2Proof.Machine

open Sys2Proof

/-! ### The contexts an instruction's references use (R156, R687) -/

/-- `ctx_ea`: PXCT bit 0o10. -/
def State.ctxEa (s : State) : Ctx := if s.pxct.getLsbD 3 then .prev else .cur

/-- `ctx_data`: PXCT bit 0o4. -/
def State.ctxData (s : State) : Ctx := if s.pxct.getLsbD 2 then .prev else .cur

/-- `ctx_bpea`: PXCT bit 0o2. -/
def State.ctxBpea (s : State) : Ctx := if s.pxct.getLsbD 1 then .prev else .cur

/-- `ctx_bstk`: PXCT bit 0o1. -/
def State.ctxBstk (s : State) : Ctx := if s.pxct.getLsbD 0 then .prev else .cur

/-- `Read(E, ctx_ea)`, the operand word of XCT (R686). -/
def rdEa (e : VAddr) : M Word := fun s => vread s.ctxEa e s

/-- `Read(E, ctx_data)`. -/
def rdE (e : VAddr) : M Word := fun s => vread s.ctxData e s

/-- `ReadM(E, ctx_data)`. -/
def rdmE (e : VAddr) : M Word := fun s => vreadM s.ctxData e s

/-- `Write(E, v, ctx_data)`. -/
def wrE (e : VAddr) (v : Word) : M Unit := fun s => vwrite s.ctxData e v s

/-- `Read` of a stack word, byte or BLT source. -/
def rdStk (e : VAddr) : M Word := fun s => vread s.ctxBstk e s

/-- `ReadM` of a byte. -/
def rdmStk (e : VAddr) : M Word := fun s => vreadM s.ctxBstk e s

/-- `Write` of a stack word or byte. -/
def wrStk (e : VAddr) (v : Word) : M Unit := fun s => vwrite s.ctxBstk e v s

/-! ### The effective address (R310 to R312) -/

/-- What the effective-address loop ends with: E, the last indirect word if any, and the index field of the last word,
which JRSTF and JEN look at (R676). -/
structure EaResult where
  addr : VAddr
  last : Option Word
  idx : BitVec 4
  deriving DecidableEq, Repr

/-- Y plus the right half of the index register, modulo 2^18 (R310). -/
def State.indexed (s : State) (c : Ctx) (m : EaField) : VAddr :=
  if m.idx = 0 then m.y else m.y + rh (s.acOf (s.block c) m.idx)

/-- The checks of the `n`-th indirect step of a calculation (R312): the limit and the test for an interrupt both go by
`n`, the count of R310; `ind_count`, the count of the whole instruction (R95), takes the step in (log entry 30). -/
def indirectChecks (n : Nat) : M Unit := do
  countIndirect
  indLimit n
  if 2 ≤ n then reenterIfPending else pure ()

/-- The loop of R310, `n` the indirections this calculation has taken. The fuel exceeds every chain that ends (log entry
10); its end is an endless chain, left through re-entry. -/
def eaLoop (c : Ctx) : Nat → Nat → Option Word → EaField → M EaResult
  | 0, _, _, _ => raise .reenter
  | fuel + 1, n, last, m => do
    let s ← getS
    let e := s.indexed c m
    if m.ind then do
      indirectChecks (n + 1)
      let w ← vread c e
      eaLoop c fuel (n + 1) (some w) (eaField w)
    else pure ⟨e, last, m.idx⟩

/-- Fuel of the effective-address loop: beyond every limit of a chain (R312, log entry 10). -/
def State.eaFuel (s : State) : Nat := 2 ^ 36 + s.cfg.indMax

/-- The effective-address calculation in a context, its own indirections counted from 0 (R310). `ind_count` goes on from
what the instruction in progress has reached, be it for a byte pointer, E1 or an executed word (R95, log entry 30). -/
def eaIn (c : Ctx) (m : EaField) : M EaResult := do
  let s ← getS
  eaLoop c s.eaFuel 0 none m

/-- `E = ea(inst, ctx_ea)` with what JRSTF needs of the last word. -/
def eaFull (m : EaField) : M EaResult := fun s => eaIn s.ctxEa m s

/-- `E = ea(inst, ctx_ea)` (R310). -/
def ea (m : EaField) : M VAddr := do
  let r ← eaFull m
  pure r.addr

/-- The I/O address of the DEC bus forms and of IORD and IOWR (R1148); `e` is the ordinary E, which another `IOEA_MODE`
may look at (D42). -/
def ioea (m : EaField) (e : VAddr) : M (BitVec 22) := do
  let s ← getS
  let x := if m.idx = 0 then 0 else s.ac m.idx
  match s.cfg.ioeaMode with
  | .other k => pure (Config.ioeaOther k m.y m.ind x e)
  | .standard => do
    let a := m.y.setWidth 22 + x.setWidth 22
    if m.ind then do
      let w ← vread s.ctxEa (a.setWidth 18)
      pure (w.setWidth 22)
    else pure a

/-! ### Byte pointers (R304, R460, R461) -/

/-- P, the number of bits to the right of the byte. -/
def bpP (bp : Word) : Nat := (bp.extractLsb' 30 6).toNat

/-- S, the size of the byte. -/
def bpS (bp : Word) : Nat := (bp.extractLsb' 24 6).toNat

/-- A byte pointer with another P and Y. -/
def bpWith (bp : Word) (p : BitVec 6) (y : BitVec 18) : Word := p ++ bp.extractLsb' 18 12 ++ y

/-- `incr(bp)` (R461). -/
def bpIncr (bp : Word) : Word :=
  if bpS bp ≤ bpP bp then bpWith bp (BitVec.ofNat 6 (bpP bp - bpS bp)) (rh bp)
  else bpWith bp (BitVec.ofInt 6 (36 - (bpS bp : Int))) (rh bp + 1)

/-- `2^S - 1` as a word. -/
def sizeMask (n : Nat) : Word := BitVec.ofNat 36 (2 ^ n - 1)

/-- `mask(P, S)` (R460). -/
def bpMask (p n : Nat) : Word := BitVec.ofNat 36 ((2 ^ n - 1) * 2 ^ p)

/-- `byte(w)`: 0 when P is 36 or more (R460). -/
def bpByte (p n : Nat) (w : Word) : Word := if p < 36 then (w >>> p) &&& sizeMask n else 0

/-- A word with a byte deposited (R470). -/
def bpDeposit (p n : Nat) (w v : Word) : Word :=
  (w &&& ~~~(bpMask p n)) ||| ((v <<< p) &&& bpMask p n)

/-- `BA(bp)`: the byte's address, in the byte-address context (R460, R687). -/
def bpAddr (bp : Word) : M VAddr := do
  let s ← getS
  let r ← eaIn s.ctxBpea (eaField bp)
  pure r.addr

/-- Load the byte a pointer points at (R469). -/
def loadByte (bp : Word) : M Word := do
  let a ← bpAddr bp
  let w ← rdStk a
  pure (bpByte (bpP bp) (bpS bp) w)

/-- Deposit a byte where a pointer points (R471). -/
def depositByte (bp v : Word) : M Unit := do
  let a ← bpAddr bp
  let w ← rdmStk a
  wrStk a (bpDeposit (bpP bp) (bpS bp) w v)

/-! ### Operand forms without flags (R320, R801, R901) -/

/-- `AC[ac] <- f(AC[ac])`, E computed and not used. -/
def acOnly (f : Word → Word) (ac : AcNum) (m : EaField) : M Unit := do
  let _ ← ea m
  let a ← getAc ac
  putAc ac (f a)

/-- `AC[ac] <- f(AC[ac], 0,,E)`. -/
def acFromImm (f : Word → Word → Word) (ac : AcNum) (m : EaField) : M Unit := do
  let e ← ea m
  let a ← getAc ac
  putAc ac (f a (immR e))

/-- `AC[ac] <- f(AC[ac], Read(E))`. -/
def acFromMem (f : Word → Word → Word) (ac : AcNum) (m : EaField) : M Unit := do
  let e ← ea m
  let w ← rdE e
  let a ← getAc ac
  putAc ac (f a w)

/-- `Write(E, f(AC[ac]))`. -/
def memFromAc (f : Word → Word) (ac : AcNum) (m : EaField) : M Unit := do
  let e ← ea m
  let a ← getAc ac
  wrE e (f a)

/-- `r <- f(AC[ac]); Write(E, r); AC[ac] <- r`. -/
def bothFromAc (f : Word → Word) (ac : AcNum) (m : EaField) : M Unit := do
  let e ← ea m
  let a ← getAc ac
  wrE e (f a)
  putAc ac (f a)

/-- `w <- ReadM(E); Write(E, f(AC[ac], w))`. -/
def memRmw (f : Word → Word → Word) (ac : AcNum) (m : EaField) : M Unit := do
  let e ← ea m
  let w ← rdmE e
  let a ← getAc ac
  wrE e (f a w)

/-- `w <- ReadM(E); r <- f(AC[ac], w); Write(E, r); AC[ac] <- r`. -/
def bothRmw (f : Word → Word → Word) (ac : AcNum) (m : EaField) : M Unit := do
  let e ← ea m
  let w ← rdmE e
  let a ← getAc ac
  wrE e (f a w)
  putAc ac (f a w)

/-- `w <- ReadM(E); r <- f(w); Write(E, r); if ac != 0: AC[ac] <- r`. -/
def selfRmw (f : Word → Word) (ac : AcNum) (m : EaField) : M Unit := do
  let e ← ea m
  let w ← rdmE e
  wrE e (f w)
  onlyIf (ac != 0) (putAc ac (f w))

/-! ### Operand forms with flags: the flags are set after the last write (R603) -/

/-- `AC[ac] <- f(AC[ac], 0,,E)` or `E,,0`, with flags. -/
def acFromImmF (imm : VAddr → Word) (f : Word → Word → WordFlags) (ac : AcNum) (m : EaField) : M Unit := do
  let e ← ea m
  let a ← getAc ac
  putAc ac (f a (imm e)).word
  setFlags (f a (imm e)).flags

/-- `AC[ac] <- f(AC[ac], Read(E))` with flags. -/
def acFromMemF (f : Word → Word → WordFlags) (ac : AcNum) (m : EaField) : M Unit := do
  let e ← ea m
  let w ← rdE e
  let a ← getAc ac
  putAc ac (f a w).word
  setFlags (f a w).flags

/-- `Write(E, f(AC[ac]))` with flags. -/
def memFromAcF (f : Word → WordFlags) (ac : AcNum) (m : EaField) : M Unit := do
  let e ← ea m
  let a ← getAc ac
  wrE e (f a).word
  setFlags (f a).flags

/-- `w <- ReadM(E); Write(E, f(AC[ac], w))` with flags. -/
def memRmwF (f : Word → Word → WordFlags) (ac : AcNum) (m : EaField) : M Unit := do
  let e ← ea m
  let w ← rdmE e
  let a ← getAc ac
  wrE e (f a w).word
  setFlags (f a w).flags

/-- `w <- ReadM(E); r <- f(AC[ac], w); Write(E, r); AC[ac] <- r` with flags. -/
def bothRmwF (f : Word → Word → WordFlags) (ac : AcNum) (m : EaField) : M Unit := do
  let e ← ea m
  let w ← rdmE e
  let a ← getAc ac
  wrE e (f a w).word
  putAc ac (f a w).word
  setFlags (f a w).flags

/-- `w <- ReadM(E); r <- f(w); Write(E, r); if ac != 0: AC[ac] <- r` with flags. -/
def selfRmwF (f : Word → WordFlags) (ac : AcNum) (m : EaField) : M Unit := do
  let e ← ea m
  let w ← rdmE e
  wrE e (f w).word
  onlyIf (ac != 0) (putAc ac (f w).word)
  setFlags (f w).flags

/-! ### Double words and consecutive words (R152, R451) -/

/-- The words at E and E+1, high first. -/
def rdE2 (e : VAddr) : M (Word × Word) := do
  let hi ← rdE e
  let lo ← rdE (e + 1)
  pure (hi, lo)

/-- Write the words at E and E+1 in that order. -/
def wrE2 (e : VAddr) (hi lo : Word) : M Unit := do
  wrE e hi
  wrE (e + 1) lo

/-- `AC[ac] <- hi; AC[ac+1] <- lo` (R14). -/
def putAc2 (ac : AcNum) (hi lo : Word) : M Unit := do
  putAc ac hi
  putAc (ac + 1) lo

/-- `D(hi, lo)` (R451). -/
def dval (hi lo : Word) : Int := signed hi * 2 ^ 35 + (lo.toNat % 2 ^ 35 : Nat)

/-- High word of a double-word value (R451). -/
def dhi (v : Int) : Word := wordOfInt (v / 2 ^ 35)

/-- The 35 low bits of a double-word value, `lo[35]` being 0 (R451). -/
def dlo (v : Int) : Word := wordOfInt (v % 2 ^ 35)

/-- A low word with the sign bit given (R451). -/
def withSign (sign : Bool) (w : Word) : Word := if sign then w ||| signWord else w &&& maxPos

end Sys2Proof.Machine
end

