-- ==== Sys2Proof/Machine/Boolean.lean ====
section
/-! DEFINITION. Boolean instructions, 0o400-0o477 (47_boolean.md): the function of each is the row of R800, its form R801.
SETZ, SETA, SETCA and SETO read no memory operand. -/

namespace Sys2Proof.Machine

open Sys2Proof

/-- SETZ (R802). -/
def execSetz (ac : AcNum) (m : EaField) (s : State) : Out := finish (acOnly (fun _ => 0) ac m) s

/-- SETZI (R803). -/
def execSetzi (ac : AcNum) (m : EaField) (s : State) : Out := finish (acOnly (fun _ => 0) ac m) s

/-- SETZM (R804). -/
def execSetzm (ac : AcNum) (m : EaField) (s : State) : Out := finish (memFromAc (fun _ => 0) ac m) s

/-- SETZB (R805). -/
def execSetzb (ac : AcNum) (m : EaField) (s : State) : Out := finish (bothFromAc (fun _ => 0) ac m) s

/-- AND (R806). -/
def execAnd (ac : AcNum) (m : EaField) (s : State) : Out := finish (acFromMem (fun a w => a &&& w) ac m) s

/-- ANDI (R807). -/
def execAndi (ac : AcNum) (m : EaField) (s : State) : Out := finish (acFromImm (fun a w => a &&& w) ac m) s

/-- ANDM (R808). -/
def execAndm (ac : AcNum) (m : EaField) (s : State) : Out := finish (memRmw (fun a w => a &&& w) ac m) s

/-- ANDB (R809). -/
def execAndb (ac : AcNum) (m : EaField) (s : State) : Out := finish (bothRmw (fun a w => a &&& w) ac m) s

/-- ANDCA (R810). -/
def execAndca (ac : AcNum) (m : EaField) (s : State) : Out := finish (acFromMem (fun a w => ~~~a &&& w) ac m) s

/-- ANDCAI (R811). -/
def execAndcai (ac : AcNum) (m : EaField) (s : State) : Out := finish (acFromImm (fun a w => ~~~a &&& w) ac m) s

/-- ANDCAM (R812). -/
def execAndcam (ac : AcNum) (m : EaField) (s : State) : Out := finish (memRmw (fun a w => ~~~a &&& w) ac m) s

/-- ANDCAB (R813). -/
def execAndcab (ac : AcNum) (m : EaField) (s : State) : Out := finish (bothRmw (fun a w => ~~~a &&& w) ac m) s

/-- SETM (R814). -/
def execSetm (ac : AcNum) (m : EaField) (s : State) : Out := finish (acFromMem (fun _ w => w) ac m) s

/-- SETMI (R815). -/
def execSetmi (ac : AcNum) (m : EaField) (s : State) : Out := finish (acFromImm (fun _ w => w) ac m) s

/-- SETMM (R816). -/
def execSetmm (ac : AcNum) (m : EaField) (s : State) : Out := finish (memRmw (fun _ w => w) ac m) s

/-- SETMB (R817). -/
def execSetmb (ac : AcNum) (m : EaField) (s : State) : Out := finish (bothRmw (fun _ w => w) ac m) s

/-- ANDCM (R818). -/
def execAndcm (ac : AcNum) (m : EaField) (s : State) : Out := finish (acFromMem (fun a w => a &&& ~~~w) ac m) s

/-- ANDCMI (R819). -/
def execAndcmi (ac : AcNum) (m : EaField) (s : State) : Out := finish (acFromImm (fun a w => a &&& ~~~w) ac m) s

/-- ANDCMM (R820). -/
def execAndcmm (ac : AcNum) (m : EaField) (s : State) : Out := finish (memRmw (fun a w => a &&& ~~~w) ac m) s

/-- ANDCMB (R821). -/
def execAndcmb (ac : AcNum) (m : EaField) (s : State) : Out := finish (bothRmw (fun a w => a &&& ~~~w) ac m) s

/-- SETA (R822). -/
def execSeta (ac : AcNum) (m : EaField) (s : State) : Out := finish (acOnly (fun a => a) ac m) s

/-- SETAI (R823). -/
def execSetai (ac : AcNum) (m : EaField) (s : State) : Out := finish (acOnly (fun a => a) ac m) s

/-- SETAM (R824). -/
def execSetam (ac : AcNum) (m : EaField) (s : State) : Out := finish (memFromAc (fun a => a) ac m) s

/-- SETAB (R825). -/
def execSetab (ac : AcNum) (m : EaField) (s : State) : Out := finish (bothFromAc (fun a => a) ac m) s

/-- XOR (R826). -/
def execXor (ac : AcNum) (m : EaField) (s : State) : Out := finish (acFromMem (fun a w => a ^^^ w) ac m) s

/-- XORI (R827). -/
def execXori (ac : AcNum) (m : EaField) (s : State) : Out := finish (acFromImm (fun a w => a ^^^ w) ac m) s

/-- XORM (R828). -/
def execXorm (ac : AcNum) (m : EaField) (s : State) : Out := finish (memRmw (fun a w => a ^^^ w) ac m) s

/-- XORB (R829). -/
def execXorb (ac : AcNum) (m : EaField) (s : State) : Out := finish (bothRmw (fun a w => a ^^^ w) ac m) s

/-- IOR (R830). -/
def execIor (ac : AcNum) (m : EaField) (s : State) : Out := finish (acFromMem (fun a w => a ||| w) ac m) s

/-- IORI (R831). -/
def execIori (ac : AcNum) (m : EaField) (s : State) : Out := finish (acFromImm (fun a w => a ||| w) ac m) s

/-- IORM (R832). -/
def execIorm (ac : AcNum) (m : EaField) (s : State) : Out := finish (memRmw (fun a w => a ||| w) ac m) s

/-- IORB (R833). -/
def execIorb (ac : AcNum) (m : EaField) (s : State) : Out := finish (bothRmw (fun a w => a ||| w) ac m) s

/-- ANDCB (R834). -/
def execAndcb (ac : AcNum) (m : EaField) (s : State) : Out := finish (acFromMem (fun a w => ~~~a &&& ~~~w) ac m) s

/-- ANDCBI (R835). -/
def execAndcbi (ac : AcNum) (m : EaField) (s : State) : Out := finish (acFromImm (fun a w => ~~~a &&& ~~~w) ac m) s

/-- ANDCBM (R836). -/
def execAndcbm (ac : AcNum) (m : EaField) (s : State) : Out := finish (memRmw (fun a w => ~~~a &&& ~~~w) ac m) s

/-- ANDCBB (R837). -/
def execAndcbb (ac : AcNum) (m : EaField) (s : State) : Out := finish (bothRmw (fun a w => ~~~a &&& ~~~w) ac m) s

/-- EQV (R838). -/
def execEqv (ac : AcNum) (m : EaField) (s : State) : Out := finish (acFromMem (fun a w => ~~~(a ^^^ w)) ac m) s

/-- EQVI (R839). -/
def execEqvi (ac : AcNum) (m : EaField) (s : State) : Out := finish (acFromImm (fun a w => ~~~(a ^^^ w)) ac m) s

/-- EQVM (R840). -/
def execEqvm (ac : AcNum) (m : EaField) (s : State) : Out := finish (memRmw (fun a w => ~~~(a ^^^ w)) ac m) s

/-- EQVB (R841). -/
def execEqvb (ac : AcNum) (m : EaField) (s : State) : Out := finish (bothRmw (fun a w => ~~~(a ^^^ w)) ac m) s

/-- SETCA (R842). -/
def execSetca (ac : AcNum) (m : EaField) (s : State) : Out := finish (acOnly (fun a => ~~~a) ac m) s

/-- SETCAI (R843). -/
def execSetcai (ac : AcNum) (m : EaField) (s : State) : Out := finish (acOnly (fun a => ~~~a) ac m) s

/-- SETCAM (R844). -/
def execSetcam (ac : AcNum) (m : EaField) (s : State) : Out := finish (memFromAc (fun a => ~~~a) ac m) s

/-- SETCAB (R845). -/
def execSetcab (ac : AcNum) (m : EaField) (s : State) : Out := finish (bothFromAc (fun a => ~~~a) ac m) s

/-- ORCA (R846). -/
def execOrca (ac : AcNum) (m : EaField) (s : State) : Out := finish (acFromMem (fun a w => ~~~a ||| w) ac m) s

/-- ORCAI (R847). -/
def execOrcai (ac : AcNum) (m : EaField) (s : State) : Out := finish (acFromImm (fun a w => ~~~a ||| w) ac m) s

/-- ORCAM (R848). -/
def execOrcam (ac : AcNum) (m : EaField) (s : State) : Out := finish (memRmw (fun a w => ~~~a ||| w) ac m) s

/-- ORCAB (R849). -/
def execOrcab (ac : AcNum) (m : EaField) (s : State) : Out := finish (bothRmw (fun a w => ~~~a ||| w) ac m) s

/-- SETCM (R850). -/
def execSetcm (ac : AcNum) (m : EaField) (s : State) : Out := finish (acFromMem (fun _ w => ~~~w) ac m) s

/-- SETCMI (R851). -/
def execSetcmi (ac : AcNum) (m : EaField) (s : State) : Out := finish (acFromImm (fun _ w => ~~~w) ac m) s

/-- SETCMM (R852). -/
def execSetcmm (ac : AcNum) (m : EaField) (s : State) : Out := finish (memRmw (fun _ w => ~~~w) ac m) s

/-- SETCMB (R853). -/
def execSetcmb (ac : AcNum) (m : EaField) (s : State) : Out := finish (bothRmw (fun _ w => ~~~w) ac m) s

/-- ORCM (R854). -/
def execOrcm (ac : AcNum) (m : EaField) (s : State) : Out := finish (acFromMem (fun a w => a ||| ~~~w) ac m) s

/-- ORCMI (R855). -/
def execOrcmi (ac : AcNum) (m : EaField) (s : State) : Out := finish (acFromImm (fun a w => a ||| ~~~w) ac m) s

/-- ORCMM (R856). -/
def execOrcmm (ac : AcNum) (m : EaField) (s : State) : Out := finish (memRmw (fun a w => a ||| ~~~w) ac m) s

/-- ORCMB (R857). -/
def execOrcmb (ac : AcNum) (m : EaField) (s : State) : Out := finish (bothRmw (fun a w => a ||| ~~~w) ac m) s

/-- ORCB (R858). -/
def execOrcb (ac : AcNum) (m : EaField) (s : State) : Out := finish (acFromMem (fun a w => ~~~a ||| ~~~w) ac m) s

/-- ORCBI (R859). -/
def execOrcbi (ac : AcNum) (m : EaField) (s : State) : Out := finish (acFromImm (fun a w => ~~~a ||| ~~~w) ac m) s

/-- ORCBM (R860). -/
def execOrcbm (ac : AcNum) (m : EaField) (s : State) : Out := finish (memRmw (fun a w => ~~~a ||| ~~~w) ac m) s

/-- ORCBB (R861). -/
def execOrcbb (ac : AcNum) (m : EaField) (s : State) : Out := finish (bothRmw (fun a w => ~~~a ||| ~~~w) ac m) s

/-- SETO (R862). -/
def execSeto (ac : AcNum) (m : EaField) (s : State) : Out := finish (acOnly (fun _ => ones) ac m) s

/-- SETOI (R863). -/
def execSetoi (ac : AcNum) (m : EaField) (s : State) : Out := finish (acOnly (fun _ => ones) ac m) s

/-- SETOM (R864). -/
def execSetom (ac : AcNum) (m : EaField) (s : State) : Out := finish (memFromAc (fun _ => ones) ac m) s

/-- SETOB (R865). -/
def execSetob (ac : AcNum) (m : EaField) (s : State) : Out := finish (bothFromAc (fun _ => ones) ac m) s

end Sys2Proof.Machine
end

