-- ==== Sys2Proof/Machine/ByteDouble.lean ====
section
/-! DEFINITION. Double-word integer, stack-pointer and byte instructions (41_byte_double.md sections 3 to 7). -/

namespace Sys2Proof.Machine

open Sys2Proof

/-! ### Double-word integers (R456 to R459, R463) -/

/-- The sum of two double words and a carry into the low word, with the flags of the high-word addition; the low sign
copies the result's, or is 0, as `DLOW_SIGN` has it (R451, R456, R457). -/
def addDouble (c : Config) (ah al bh bl : Word) (cin : Bool) : PairFlags :=
  let low := al.toNat % 2 ^ 35 + bl.toNat % 2 ^ 35 + cin.toNat
  let r := add36 ah bh (2 ^ 35 ≤ low)
  { hi := r.word, lo := withSign (c.dlowArith && negative r.word) (BitVec.ofNat 36 low), flags := r.flags }

/-- DADD (R456). -/
def dadd (c : Config) (ah al bh bl : Word) : PairFlags := addDouble c ah al bh bl false

/-- DSUB (R457). -/
def dsub (c : Config) (ah al bh bl : Word) : PairFlags := addDouble c ah al (~~~bh) (~~~bl) true

/-- The negative of a double word with the flags of R463; the low sign is 0, or copies the result's (R451). -/
def dneg (c : Config) (hi lo : Word) : PairFlags :=
  let v := dval hi lo
  { hi := dhi (-v), lo := withSign (c.dlowNeg && negative (dhi (-v))) (dlo (-v)),
    flags := if v = 0 then carryFlags true true else if v = -2 ^ 70 then carryFlags false true else Flags.zero }

/-- Four result words with the flags they set. -/
structure QuadFlags where
  w0 : Word
  w1 : Word
  w2 : Word
  w3 : Word
  flags : Flags
  deriving DecidableEq, Repr

/-- DMUL (R458). -/
def dmul (c : Config) (ah al bh bl : Word) : QuadFlags :=
  let a := dval ah al
  let b := dval bh bl
  if a = -2 ^ 70 ∧ b = -2 ^ 70 then
    let lo := withSign c.dlowArith 0
    ⟨signWord, lo, lo, lo, overflowFlags⟩
  else
    let p := a * b
    let neg := c.dlowArith && decide (p < 0)
    ⟨wordOfInt (p / 2 ^ 105), withSign neg (wordOfInt (p / 2 ^ 70)), withSign neg (wordOfInt (p / 2 ^ 35)),
      withSign neg (wordOfInt p), Flags.zero⟩

/-- The quadruple-word dividend of DDIV (R459). -/
def qval (w0 w1 w2 w3 : Word) : Int :=
  signed w0 * 2 ^ 105 + (w1.toNat % 2 ^ 35 : Nat) * 2 ^ 70 + (w2.toNat % 2 ^ 35 : Nat) * 2 ^ 35 +
    (w3.toNat % 2 ^ 35 : Nat)

/-- DDIV, `none` for no divide; each result's low sign is its own sign (R459), or 0 (R451). -/
def ddiv (c : Config) (w0 w1 w2 w3 bh bl : Word) : Option (Word × Word × Word × Word) :=
  let n := qval w0 w1 w2 w3
  let b := dval bh bl
  if b.natAbs * 2 ^ 70 ≤ n.natAbs then none
  else
    let q := n.tdiv b
    let r := n - q * b
    some (dhi q, withSign (c.dlowArith && decide (q < 0)) (dlo q), dhi r,
      withSign (c.dlowArith && decide (r < 0)) (dlo r))

/-- DADD and DSUB. -/
def doubleOp (f : Config → Word → Word → Word → Word → PairFlags) (ac : AcNum) (m : EaField) : M Unit := do
  let e ← ea m
  let b ← rdE2 e
  let a0 ← getAc ac
  let a1 ← getAc (ac + 1)
  let s ← getS
  let r := f s.cfg a0 a1 b.1 b.2
  putAc2 ac r.hi r.lo
  setFlags r.flags

/-- DMUL (R458). -/
def dmulOp (ac : AcNum) (m : EaField) : M Unit := do
  let e ← ea m
  let b ← rdE2 e
  let a0 ← getAc ac
  let a1 ← getAc (ac + 1)
  let s ← getS
  let r := dmul s.cfg a0 a1 b.1 b.2
  putAc2 ac r.w0 r.w1
  putAc2 (ac + 2) r.w2 r.w3
  setFlags r.flags

/-- DDIV (R459). -/
def ddivOp (ac : AcNum) (m : EaField) : M Unit := do
  let e ← ea m
  let b ← rdE2 e
  let w0 ← getAc ac
  let w1 ← getAc (ac + 1)
  let w2 ← getAc (ac + 2)
  let w3 ← getAc (ac + 3)
  let s ← getS
  match ddiv s.cfg w0 w1 w2 w3 b.1 b.2 with
  | none => setFlags noDivideFlags
  | some (qh, ql, rh, rl) => do
    putAc2 ac qh ql
    putAc2 (ac + 2) rh rl

/-- DMOVE (R462): both reads before the first write. -/
def dmoveOp (ac : AcNum) (m : EaField) : M Unit := do
  let e ← ea m
  let b ← rdE2 e
  putAc2 ac b.1 b.2

/-- DMOVN (R463). -/
def dmovnOp (ac : AcNum) (m : EaField) : M Unit := do
  let e ← ea m
  let b ← rdE2 e
  let s ← getS
  let r := dneg s.cfg b.1 b.2
  putAc2 ac r.hi r.lo
  setFlags r.flags

/-- DMOVEM (R464): both accumulators read before the first write. -/
def dmovemOp (ac : AcNum) (m : EaField) : M Unit := do
  let e ← ea m
  let hi ← getAc ac
  let lo ← getAc (ac + 1)
  wrE2 e hi lo

/-- DMOVNM (R465). -/
def dmovnmOp (ac : AcNum) (m : EaField) : M Unit := do
  let e ← ea m
  let hi ← getAc ac
  let lo ← getAc (ac + 1)
  let s ← getS
  let r := dneg s.cfg hi lo
  wrE2 e r.hi r.lo
  setFlags r.flags

/-! ### ADJSP (R455) -/

/-- The adjusted pointer, the halves apart, with TRAP2 on a sign change of the left half in the direction of the
adjustment (R455). -/
def adjsp (old : Word) (e : VAddr) : WordFlags :=
  let newL := lh old + e
  let trap :=
    (!e.getLsbD 17 && (lh old).getLsbD 17 && !newL.getLsbD 17) ||
      (e.getLsbD 17 && !(lh old).getLsbD 17 && newL.getLsbD 17)
  { word := xwd newL (rh old + e), flags := if trap then pushdownFlags else Flags.zero }

/-- ADJSP (R455). -/
def adjspOp (ac : AcNum) (m : EaField) : M Unit := do
  let e ← ea m
  let a ← getAc ac
  putAc ac (adjsp a e).word
  setFlags (adjsp a e).flags

/-! ### Byte instructions (R466 to R471) -/

/-- IBP (R466). -/
def ibpOp (m : EaField) : M Unit := do
  let e ← ea m
  let bp ← rdmE e
  wrE e (bpIncr bp)

/-- The adjusted byte pointer of ADJBP, `none` when a word holds no byte (R467). Divisions truncate toward zero. -/
def adjbp (bp : Word) (count : Int) : Option Word :=
  let p : Int := bpP bp
  let n : Int := bpS bp
  if n = 0 then some bp
  else
    let left := (36 - p).tdiv n
    let bywrd := left + p.tdiv n
    if bywrd = 0 then none
    else
      let newby := left + count
      let wdadj := newby.tdiv bywrd
      let byadj := newby.tmod bywrd
      let byadj' := if byadj ≤ 0 then byadj + bywrd else byadj
      let wdadj' := if byadj ≤ 0 then wdadj - 1 else wdadj
      let p' := (36 - byadj' * n) - (36 - p).tmod n
      some (bpWith bp (BitVec.ofInt 6 p') (rh bp + BitVec.ofInt 18 wdadj'))

/-- ADJBP (R467). -/
def adjbpOp (ac : AcNum) (m : EaField) : M Unit := do
  let e ← ea m
  let bp ← rdE e
  let a ← getAc ac
  match adjbp bp (signed a) with
  | none => setFlags noDivideFlags
  | some r => putAc ac r

/-- `FPD <- v` (R64). -/
def putFpd (v : Bool) : M Unit := modS fun s => { s with flags := { s.flags with fpd := v } }

/-- The increment part of ILDB and IDPB, done once however often the instruction restarts (R468). -/
def incrPart (e : VAddr) : M Unit := do
  let s ← getS
  if s.flags.fpd then pure ()
  else do
    let bp ← rdmE e
    wrE e (bpIncr bp)
    putFpd true

/-- ILDB (R468). -/
def ildbOp (ac : AcNum) (m : EaField) : M Unit := do
  let e ← ea m
  incrPart e
  let bp ← rdE e
  let b ← loadByte bp
  putAc ac b
  putFpd false

/-- LDB (R469). -/
def ldbOp (ac : AcNum) (m : EaField) : M Unit := do
  let e ← ea m
  let bp ← rdE e
  let b ← loadByte bp
  putAc ac b

/-- IDPB (R470). -/
def idpbOp (ac : AcNum) (m : EaField) : M Unit := do
  let e ← ea m
  incrPart e
  let bp ← rdE e
  let a ← getAc ac
  depositByte bp a
  putFpd false

/-- DPB (R471). -/
def dpbOp (ac : AcNum) (m : EaField) : M Unit := do
  let e ← ea m
  let bp ← rdE e
  let a ← getAc ac
  depositByte bp a

/-! ### The instructions -/

/-- ADJSP (R455). -/
def execAdjsp (ac : AcNum) (m : EaField) (s : State) : Out := finish (adjspOp ac m) s

/-- DADD (R456). -/
def execDadd (ac : AcNum) (m : EaField) (s : State) : Out := finish (doubleOp dadd ac m) s

/-- DSUB (R457). -/
def execDsub (ac : AcNum) (m : EaField) (s : State) : Out := finish (doubleOp dsub ac m) s

/-- DMUL (R458). -/
def execDmul (ac : AcNum) (m : EaField) (s : State) : Out := finish (dmulOp ac m) s

/-- DDIV (R459). -/
def execDdiv (ac : AcNum) (m : EaField) (s : State) : Out := finish (ddivOp ac m) s

/-- DMOVE (R462). -/
def execDmove (ac : AcNum) (m : EaField) (s : State) : Out := finish (dmoveOp ac m) s

/-- DMOVN (R463). -/
def execDmovn (ac : AcNum) (m : EaField) (s : State) : Out := finish (dmovnOp ac m) s

/-- DMOVEM (R464). -/
def execDmovem (ac : AcNum) (m : EaField) (s : State) : Out := finish (dmovemOp ac m) s

/-- DMOVNM (R465). -/
def execDmovnm (ac : AcNum) (m : EaField) (s : State) : Out := finish (dmovnmOp ac m) s

/-- IBP (R466). -/
def execIbp (m : EaField) (s : State) : Out := finish (ibpOp m) s

/-- ADJBP (R467). -/
def execAdjbp (ac : AcNum) (m : EaField) (s : State) : Out := finish (adjbpOp ac m) s

/-- ILDB (R468). -/
def execIldb (ac : AcNum) (m : EaField) (s : State) : Out := finish (ildbOp ac m) s

/-- LDB (R469). -/
def execLdb (ac : AcNum) (m : EaField) (s : State) : Out := finish (ldbOp ac m) s

/-- IDPB (R470). -/
def execIdpb (ac : AcNum) (m : EaField) (s : State) : Out := finish (idpbOp ac m) s

/-- DPB (R471). -/
def execDpb (ac : AcNum) (m : EaField) (s : State) : Out := finish (dpbOp ac m) s

end Sys2Proof.Machine
end

