-- ==== Sys2Proof/Machine/CompareSkip.lean ====
section
/-! DEFINITION. Compare, jump and skip instructions, 0o300-0o377 (46_compare_skip.md). -/

namespace Sys2Proof.Machine

open Sys2Proof

/-- The condition of opcode bits 2:0 (R700). -/
inductive Cond where
  | never | lt | eq | le | always | ge | ne | gt
  deriving DecidableEq, Repr

/-- `cond(c, a, b)`: a signed comparison (R700). -/
def Cond.holds (c : Cond) (a b : Word) : Bool :=
  match c with
  | .never => false
  | .lt => a.slt b
  | .eq => a == b
  | .le => a.sle b
  | .always => true
  | .ge => b.sle a
  | .ne => a != b
  | .gt => b.slt a

/-- CAI: compare AC with 0,,E and skip (R701). -/
def caiOp (c : Cond) (ac : AcNum) (m : EaField) : M Unit := do
  let e ← ea m
  let a ← getAc ac
  skipIf (c.holds a (immR e))

/-- CAM: compare AC with C(E) and skip (R701). -/
def camOp (c : Cond) (ac : AcNum) (m : EaField) : M Unit := do
  let e ← ea m
  let w ← rdE e
  let a ← getAc ac
  skipIf (c.holds a w)

/-- JUMP: compare AC with 0 and jump (R701). -/
def jumpOp (c : Cond) (ac : AcNum) (m : EaField) : M Unit := do
  let e ← ea m
  let a ← getAc ac
  onlyIf (c.holds a 0) (jump e)

/-- SKIP: compare C(E) with 0 and skip; AC is loaded when `ac` is not 0 (R701). -/
def skipOp (c : Cond) (ac : AcNum) (m : EaField) : M Unit := do
  let e ← ea m
  let w ← rdE e
  onlyIf (ac != 0) (putAc ac w)
  skipIf (c.holds w 0)

/-- AOJ and SOJ: add `step` to AC, compare the sum with 0 and jump (R701). -/
def acStepJump (step : Word) (c : Cond) (ac : AcNum) (m : EaField) : M Unit := do
  let e ← ea m
  let a ← getAc ac
  let r := add36 a step false
  putAc ac r.word
  setFlags r.flags
  onlyIf (c.holds r.word 0) (jump e)

/-- AOS and SOS: add `step` to C(E), compare the sum with 0 and skip; AC is loaded when `ac` is not 0 (R701). -/
def memStepSkip (step : Word) (c : Cond) (ac : AcNum) (m : EaField) : M Unit := do
  let e ← ea m
  let w ← rdmE e
  let r := add36 w step false
  wrE e r.word
  onlyIf (ac != 0) (putAc ac r.word)
  setFlags r.flags
  skipIf (c.holds r.word 0)

/-- CAI (R702). -/
def execCai (ac : AcNum) (m : EaField) (s : State) : Out := finish (caiOp .never ac m) s

/-- CAIL (R703). -/
def execCail (ac : AcNum) (m : EaField) (s : State) : Out := finish (caiOp .lt ac m) s

/-- CAIE (R704). -/
def execCaie (ac : AcNum) (m : EaField) (s : State) : Out := finish (caiOp .eq ac m) s

/-- CAILE (R705). -/
def execCaile (ac : AcNum) (m : EaField) (s : State) : Out := finish (caiOp .le ac m) s

/-- CAIA (R706). -/
def execCaia (ac : AcNum) (m : EaField) (s : State) : Out := finish (caiOp .always ac m) s

/-- CAIGE (R707). -/
def execCaige (ac : AcNum) (m : EaField) (s : State) : Out := finish (caiOp .ge ac m) s

/-- CAIN (R708). -/
def execCain (ac : AcNum) (m : EaField) (s : State) : Out := finish (caiOp .ne ac m) s

/-- CAIG (R709). -/
def execCaig (ac : AcNum) (m : EaField) (s : State) : Out := finish (caiOp .gt ac m) s

/-- CAM (R710). -/
def execCam (ac : AcNum) (m : EaField) (s : State) : Out := finish (camOp .never ac m) s

/-- CAML (R711). -/
def execCaml (ac : AcNum) (m : EaField) (s : State) : Out := finish (camOp .lt ac m) s

/-- CAME (R712). -/
def execCame (ac : AcNum) (m : EaField) (s : State) : Out := finish (camOp .eq ac m) s

/-- CAMLE (R713). -/
def execCamle (ac : AcNum) (m : EaField) (s : State) : Out := finish (camOp .le ac m) s

/-- CAMA (R714). -/
def execCama (ac : AcNum) (m : EaField) (s : State) : Out := finish (camOp .always ac m) s

/-- CAMGE (R715). -/
def execCamge (ac : AcNum) (m : EaField) (s : State) : Out := finish (camOp .ge ac m) s

/-- CAMN (R716). -/
def execCamn (ac : AcNum) (m : EaField) (s : State) : Out := finish (camOp .ne ac m) s

/-- CAMG (R717). -/
def execCamg (ac : AcNum) (m : EaField) (s : State) : Out := finish (camOp .gt ac m) s

/-- JUMP (R718). -/
def execJump (ac : AcNum) (m : EaField) (s : State) : Out := finish (jumpOp .never ac m) s

/-- JUMPL (R719). -/
def execJumpl (ac : AcNum) (m : EaField) (s : State) : Out := finish (jumpOp .lt ac m) s

/-- JUMPE (R720). -/
def execJumpe (ac : AcNum) (m : EaField) (s : State) : Out := finish (jumpOp .eq ac m) s

/-- JUMPLE (R721). -/
def execJumple (ac : AcNum) (m : EaField) (s : State) : Out := finish (jumpOp .le ac m) s

/-- JUMPA (R722). -/
def execJumpa (ac : AcNum) (m : EaField) (s : State) : Out := finish (jumpOp .always ac m) s

/-- JUMPGE (R723). -/
def execJumpge (ac : AcNum) (m : EaField) (s : State) : Out := finish (jumpOp .ge ac m) s

/-- JUMPN (R724). -/
def execJumpn (ac : AcNum) (m : EaField) (s : State) : Out := finish (jumpOp .ne ac m) s

/-- JUMPG (R725). -/
def execJumpg (ac : AcNum) (m : EaField) (s : State) : Out := finish (jumpOp .gt ac m) s

/-- SKIP (R726). -/
def execSkip (ac : AcNum) (m : EaField) (s : State) : Out := finish (skipOp .never ac m) s

/-- SKIPL (R727). -/
def execSkipl (ac : AcNum) (m : EaField) (s : State) : Out := finish (skipOp .lt ac m) s

/-- SKIPE (R728). -/
def execSkipe (ac : AcNum) (m : EaField) (s : State) : Out := finish (skipOp .eq ac m) s

/-- SKIPLE (R729). -/
def execSkiple (ac : AcNum) (m : EaField) (s : State) : Out := finish (skipOp .le ac m) s

/-- SKIPA (R730). -/
def execSkipa (ac : AcNum) (m : EaField) (s : State) : Out := finish (skipOp .always ac m) s

/-- SKIPGE (R731). -/
def execSkipge (ac : AcNum) (m : EaField) (s : State) : Out := finish (skipOp .ge ac m) s

/-- SKIPN (R732). -/
def execSkipn (ac : AcNum) (m : EaField) (s : State) : Out := finish (skipOp .ne ac m) s

/-- SKIPG (R733). -/
def execSkipg (ac : AcNum) (m : EaField) (s : State) : Out := finish (skipOp .gt ac m) s

/-- AOJ (R734). -/
def execAoj (ac : AcNum) (m : EaField) (s : State) : Out := finish (acStepJump 1 .never ac m) s

/-- AOJL (R735). -/
def execAojl (ac : AcNum) (m : EaField) (s : State) : Out := finish (acStepJump 1 .lt ac m) s

/-- AOJE (R736). -/
def execAoje (ac : AcNum) (m : EaField) (s : State) : Out := finish (acStepJump 1 .eq ac m) s

/-- AOJLE (R737). -/
def execAojle (ac : AcNum) (m : EaField) (s : State) : Out := finish (acStepJump 1 .le ac m) s

/-- AOJA (R738). -/
def execAoja (ac : AcNum) (m : EaField) (s : State) : Out := finish (acStepJump 1 .always ac m) s

/-- AOJGE (R739). -/
def execAojge (ac : AcNum) (m : EaField) (s : State) : Out := finish (acStepJump 1 .ge ac m) s

/-- AOJN (R740). -/
def execAojn (ac : AcNum) (m : EaField) (s : State) : Out := finish (acStepJump 1 .ne ac m) s

/-- AOJG (R741). -/
def execAojg (ac : AcNum) (m : EaField) (s : State) : Out := finish (acStepJump 1 .gt ac m) s

/-- AOS (R742). -/
def execAos (ac : AcNum) (m : EaField) (s : State) : Out := finish (memStepSkip 1 .never ac m) s

/-- AOSL (R743). -/
def execAosl (ac : AcNum) (m : EaField) (s : State) : Out := finish (memStepSkip 1 .lt ac m) s

/-- AOSE (R744). -/
def execAose (ac : AcNum) (m : EaField) (s : State) : Out := finish (memStepSkip 1 .eq ac m) s

/-- AOSLE (R745). -/
def execAosle (ac : AcNum) (m : EaField) (s : State) : Out := finish (memStepSkip 1 .le ac m) s

/-- AOSA (R746). -/
def execAosa (ac : AcNum) (m : EaField) (s : State) : Out := finish (memStepSkip 1 .always ac m) s

/-- AOSGE (R747). -/
def execAosge (ac : AcNum) (m : EaField) (s : State) : Out := finish (memStepSkip 1 .ge ac m) s

/-- AOSN (R748). -/
def execAosn (ac : AcNum) (m : EaField) (s : State) : Out := finish (memStepSkip 1 .ne ac m) s

/-- AOSG (R749). -/
def execAosg (ac : AcNum) (m : EaField) (s : State) : Out := finish (memStepSkip 1 .gt ac m) s

/-- SOJ (R750). -/
def execSoj (ac : AcNum) (m : EaField) (s : State) : Out := finish (acStepJump ones .never ac m) s

/-- SOJL (R751). -/
def execSojl (ac : AcNum) (m : EaField) (s : State) : Out := finish (acStepJump ones .lt ac m) s

/-- SOJE (R752). -/
def execSoje (ac : AcNum) (m : EaField) (s : State) : Out := finish (acStepJump ones .eq ac m) s

/-- SOJLE (R753). -/
def execSojle (ac : AcNum) (m : EaField) (s : State) : Out := finish (acStepJump ones .le ac m) s

/-- SOJA (R754). -/
def execSoja (ac : AcNum) (m : EaField) (s : State) : Out := finish (acStepJump ones .always ac m) s

/-- SOJGE (R755). -/
def execSojge (ac : AcNum) (m : EaField) (s : State) : Out := finish (acStepJump ones .ge ac m) s

/-- SOJN (R756). -/
def execSojn (ac : AcNum) (m : EaField) (s : State) : Out := finish (acStepJump ones .ne ac m) s

/-- SOJG (R757). -/
def execSojg (ac : AcNum) (m : EaField) (s : State) : Out := finish (acStepJump ones .gt ac m) s

/-- SOS (R758). -/
def execSos (ac : AcNum) (m : EaField) (s : State) : Out := finish (memStepSkip ones .never ac m) s

/-- SOSL (R759). -/
def execSosl (ac : AcNum) (m : EaField) (s : State) : Out := finish (memStepSkip ones .lt ac m) s

/-- SOSE (R760). -/
def execSose (ac : AcNum) (m : EaField) (s : State) : Out := finish (memStepSkip ones .eq ac m) s

/-- SOSLE (R761). -/
def execSosle (ac : AcNum) (m : EaField) (s : State) : Out := finish (memStepSkip ones .le ac m) s

/-- SOSA (R762). -/
def execSosa (ac : AcNum) (m : EaField) (s : State) : Out := finish (memStepSkip ones .always ac m) s

/-- SOSGE (R763). -/
def execSosge (ac : AcNum) (m : EaField) (s : State) : Out := finish (memStepSkip ones .ge ac m) s

/-- SOSN (R764). -/
def execSosn (ac : AcNum) (m : EaField) (s : State) : Out := finish (memStepSkip ones .ne ac m) s

/-- SOSG (R765). -/
def execSosg (ac : AcNum) (m : EaField) (s : State) : Out := finish (memStepSkip ones .gt ac m) s

end Sys2Proof.Machine
end

