-- ==== Sys2Proof/Machine/Extend.lean ====
section
/-! DEFINITION. EXTEND and its sub-operations (43_extend.md). -/

namespace Sys2Proof.Machine

open Sys2Proof

/-! ### Lengths, flags and bytes (R551; the choices are log entries 21 to 25) -/

/-- S, DEC bit 0 of a length accumulator. -/
def sBit : Word := 0o400000000000

/-- N, DEC bit 1 of a length accumulator. -/
def nBit : Word := 0o200000000000

/-- M, DEC bit 2 of a length accumulator. -/
def mBit : Word := 0o100000000000

/-- Whether a flag bit is set. -/
def hasBit (bit w : Word) : Bool := w &&& bit != 0

/-- A word with a flag bit as given. -/
def withBit (bit : Word) (v : Bool) (w : Word) : Word := if v then w ||| bit else w &&& ~~~bit

/-- The length, DEC bits 9-35. -/
def strLen (w : Word) : Nat := (w.extractLsb' 0 27).toNat

/-- A length accumulator with another length, its other bits preserved. -/
def withLen (w : Word) (n : Nat) : Word := w.extractLsb' 27 9 ++ BitVec.ofNat 27 n

/-- `sext_18(E1)`. -/
def sextE (e : VAddr) : Word := e.signExtend 36

/-- An incremented pointer and the byte at it. -/
structure PtrByte where
  bp : Word
  byte : Word
  deriving DecidableEq, Repr

/-- The next byte through the pointer in `AC[n]`, as by ILDB; the pointer is put back by the caller. -/
def nextByte (n : AcNum) : M PtrByte := do
  let bp ← getAc n
  let b ← loadByte (bpIncr bp)
  pure ⟨bpIncr bp, b⟩

/-- Store a byte through the pointer in `AC[n]`, as by IDPB; answers the incremented pointer. -/
def storeNext (n : AcNum) (v : Word) : M Word := do
  let bp ← getAc n
  depositByte (bpIncr bp) v
  pure (bpIncr bp)

/-- Before every byte but the first: FPD is set (R64) and a pending interrupt leaves through re-entry (R551). -/
def strPoint (first : Bool) : M Unit :=
  if first then pure ()
  else do
    putFpd true
    reenterIfPending

/-- The end of a string instruction: FPD cleared (R64), the skip if it ended normally (R551). -/
def strEnd (skips : Bool) : M Unit := do
  putFpd false
  skipIf skips

/-- A translation-table entry (R551): the halfword's control code and low 12 bits. -/
structure TableEntry where
  code : BitVec 3
  val : BitVec 12
  deriving DecidableEq, Repr

/-- The table entry of a byte value in the table at `e1` (R551). -/
def tableEntry (e1 : VAddr) (b : Word) : M TableEntry := do
  let w ← rdE (e1 + (b >>> 1).setWidth 18)
  let h := if b.getLsbD 0 then rh w else lh w
  pure ⟨h.extractLsb' 15 3, h.extractLsb' 0 12⟩

/-- Codes 1 and 5 end the instruction (R551). -/
def TableEntry.aborts (t : TableEntry) : Bool := t.code == 1 || t.code == 5

/-- Codes 0, 4, 6 and 7 store whatever S is (R551). -/
def TableEntry.stores (t : TableEntry) : Bool := t.code == 0 || t.code == 4 || t.code == 6 || t.code == 7

/-- The control code's effect on a length accumulator's flags (R551): `neg` is the flag codes 2, 3, 6 and 7 act on. -/
def TableEntry.act (t : TableEntry) (neg : Word) (w : Word) : Word :=
  let w1 := if t.code == 2 || t.code == 6 then withBit neg false w
    else if t.code == 3 || t.code == 7 then withBit neg true w else w
  if t.code == 4 || t.code == 6 || t.code == 7 then withBit sBit true w1 else w1

/-! ### Another EXTEND_DETAIL (D36, log entry 37) -/

/-- The words of AC to AC+5, the accumulators of every sub-operation (R550). -/
def getSix (ac : AcNum) : M (List Word) := fun s => .ok ((List.range 6).map fun i => s.ac (ac + BitVec.ofNat 4 i)) s

/-- Write words to AC on, six at most. -/
def putSix (ac : AcNum) : Nat → List Word → M Unit
  | 0, _ => pure ()
  | _, [] => pure ()
  | n + 1, w :: t => do
    putAc ac w
    putSix (ac + 1) n t

/-- A sub-operation under another `EXTEND_DETAIL`: its acts one after another, with what the spec fixes for every setting.
Progress is kept in the accumulators, a page fail or an interrupt restarts the instruction from them, and FPD marks it
(R64). The fuel is log entry 10. -/
def otherLoop (k : Nat) (sub : BitVec 9) (ac : AcNum) (e0 e1 : VAddr) : Nat → List Word → M Unit
  | 0, _ => raise .reenter
  | fuel + 1, seen => do
    let acs ← getSix ac
    let s ← getS
    match Config.extendOther k sub e0 e1 s.flags.fpd acs seen with
    | .read va => do
      let w ← rdE va
      otherLoop k sub ac e0 e1 fuel (w :: seen)
    | .write va v => do
      wrE va v
      otherLoop k sub ac e0 e1 fuel (0 :: seen)
    | .load bp => do
      let b ← loadByte bp
      otherLoop k sub ac e0 e1 fuel (b :: seen)
    | .deposit bp v => do
      depositByte bp v
      otherLoop k sub ac e0 e1 fuel (0 :: seen)
    | .progress l => do
      putSix ac 6 l
      strPoint false
      otherLoop k sub ac e0 e1 fuel []
    | .done l skips overflow => do
      putSix ac 6 l
      onlyIf overflow (setFlags overflowFlags)
      strEnd skips

/-- An EXTEND sub-operation with its E1 (R550): the "(detail)" rules, or another setting of `EXTEND_DETAIL`. -/
def extSub (sub : BitVec 9) (ac : AcNum) (e0 : VAddr) (m : EaField) (detail : VAddr → M Unit) : M Unit := do
  let r ← eaIn .cur m
  let s ← getS
  match s.cfg.extendDetail with
  | .standard => detail r.addr
  | .other k => otherLoop k sub ac e0 r.addr (2 ^ 20) []

/-! ### String compare (R552) -/

/-- The condition of R700 applied to string 1 versus string 2. -/
def Cond.ofOrder (c : Cond) (o : Ordering) : Bool :=
  match c with
  | .never => false
  | .lt => o == .lt
  | .eq => o == .eq
  | .le => o != .gt
  | .always => true
  | .ge => o != .lt
  | .ne => o != .eq
  | .gt => o == .gt

/-- The next byte of a string with bytes left, else its fill truncated to the pointer's size (R552). -/
def byteOrFill (more : Bool) (n : AcNum) (fill : Word) : M PtrByte :=
  if more then nextByte n
  else do
    let bp ← getAc n
    pure ⟨bp, fill &&& sizeMask (bpS bp)⟩

/-- The loop of R552: both lengths counted down before the compare. The fuel is both lengths. A turn loads b1 and b2, and
the test of R551 comes once before the two, not between them: DESIGN CHOICE, log entry 21. -/
def cmpsLoop (f1 f2 : Word) (ac : AcNum) : Nat → Bool → M Ordering
  | 0, _ => pure .eq
  | fuel + 1, first => do
    let a ← getAc ac
    let b ← getAc (ac + 3)
    if strLen a = 0 ∧ strLen b = 0 then pure .eq
    else do
      strPoint first
      let x ← byteOrFill (strLen a != 0) (ac + 1) f1
      let y ← byteOrFill (strLen b != 0) (ac + 4) f2
      putAc2 ac (withLen a (strLen a - 1)) x.bp
      putAc2 (ac + 3) (withLen b (strLen b - 1)) y.bp
      if x.byte = y.byte then cmpsLoop f1 f2 ac fuel false
      else pure (compare x.byte.toNat y.byte.toNat)

/-- CMPS (R552). -/
def cmpsOp (c : Cond) (ac : AcNum) (e0 : VAddr) : M Unit := do
  let f1 ← rdE (e0 + 1)
  let f2 ← rdE (e0 + 2)
  let a ← getAc ac
  let b ← getAc (ac + 3)
  let o ← cmpsLoop f1 f2 ac (strLen a + strLen b) true
  strEnd (c.ofOrder o)

/-! ### String move (R564 to R567) -/

/-- What a source byte becomes: the first length accumulator with the flags its control code leaves, the value, whether
it is stored, whether the instruction ends at it, and whether it stays counted in the length when it is too big to store. -/
structure Moved where
  len : Word
  val : Word
  stores : Bool
  ends : Bool
  stays : Bool
  deriving DecidableEq, Repr

/-- An offset added modulo 2^36 (R564). -/
def byOffset (off : Word) (a b : Word) : M Moved := pure ⟨a, b + off, true, false, false⟩

/-- A byte moved as it is (R566). A non-skip end leaves L1 counting the bytes not moved, a byte too big for the destination
among them. -/
def asIs (a b : Word) : M Moved := pure ⟨a, b, true, false, true⟩

/-- A translated byte (R565): codes 2 and 3 store only while S is set. -/
def byTable (e1 : VAddr) (a b : Word) : M Moved := do
  let t ← tableEntry e1 b
  let a' := t.act mBit a
  pure ⟨a', t.val.setWidth 36, t.stores || hasBit sBit a', t.aborts, false⟩

/-- The value does not fit the destination's byte size (R564). -/
def tooBig (bp v : Word) : Bool := decide (2 ^ bpS bp ≤ v.toNat)

/-- Store the fill `C(E0+1)` as the next destination byte. The fill word is read at each byte that needs it and not at all
when none does (R564, log entry 21). -/
def fillNext (e0 : VAddr) (ac : AcNum) (b : Word) : M Unit := do
  let f ← rdE (e0 + 1)
  let bp ← storeNext (ac + 4) f
  putAc2 (ac + 3) (withLen b (strLen b - 1)) bp

/-- Move one source byte; `false` when the instruction ends at it: a value too big for the destination ends it (R564), the
pointer at the byte and the length counting it where R566 has it so (log entry 22). -/
def moveNext (tr : Word → Word → M Moved) (ac : AcNum) (a b : Word) : M Bool := do
  let x ← nextByte (ac + 1)
  let r ← tr a x.byte
  let dst ← getAc (ac + 4)
  if r.ends then do
    putAc2 ac (withLen a (strLen a - 1)) x.bp
    pure false
  else if !r.stores then do
    putAc2 ac (withLen r.len (strLen a - 1)) x.bp
    pure true
  else if tooBig dst r.val then do
    putAc2 ac (withLen r.len (if r.stays then strLen a else strLen a - 1)) x.bp
    pure false
  else do
    let bp ← storeNext (ac + 4) r.val
    putAc2 ac (withLen r.len (strLen a - 1)) x.bp
    putAc2 (ac + 3) (withLen b (strLen b - 1)) bp
    pure true

/-- The loop of R564 to R567, `false` when it ended at a byte. `pad l1 l2`: the next destination byte is a fill. The
fuel is both lengths. -/
def movsLoop (tr : Word → Word → M Moved) (pad : Nat → Nat → Bool) (ac : AcNum) (e0 : VAddr) : Nat → Bool → M Bool
  | 0, _ => pure true
  | fuel + 1, first => do
    let a ← getAc ac
    let b ← getAc (ac + 3)
    if strLen b = 0 then pure true
    else do
      strPoint first
      if pad (strLen a) (strLen b) then do
        fillNext e0 ac b
        movsLoop tr pad ac e0 fuel false
      else if ← moveNext tr ac a b then movsLoop tr pad ac e0 fuel false
      else pure false

/-- MOVSO, MOVST and MOVSLJ: skip when the whole source was moved (R564 to R566). -/
def movsOp (tr : Word → Word → M Moved) (ac : AcNum) (e0 : VAddr) : M Unit := do
  let a ← getAc ac
  let b ← getAc (ac + 3)
  let whole ← movsLoop tr (fun l1 _ => l1 == 0) ac e0 (strLen a + strLen b) true
  let a' ← getAc ac
  strEnd (whole && strLen a' == 0)

/-- MOVSRJ (R567): a longer source loses its first bytes, a shorter one is preceded by the fill. It always skips: after a
byte too big for the destination, which ends it as it ends MOVSLJ, too. The surplus is skipped over in one act, with no
test for an interrupt between its bytes and one before the first byte moved after them (log entry 43). -/
def movsrjOp (ac : AcNum) (e0 : VAddr) : M Unit := do
  let a ← getAc ac
  let b ← getAc (ac + 3)
  let bp ← getAc (ac + 1)
  let surplus := strLen a - strLen b
  onlyIf (surplus != 0) (putAc2 ac (withLen a (strLen b)) (bpIncr^[surplus] bp))
  let _ ← movsLoop asIs (fun l1 l2 => l1 < l2) ac e0 (strLen a + strLen b) (surplus == 0)
  strEnd true

/-! ### Decimal to binary (R560, R561) -/

/-- A digit, or the end of the instruction at the byte; `len` is the first length accumulator with the flags the byte
leaves. -/
structure Digit where
  len : Word
  val : Word
  ends : Bool
  deriving DecidableEq, Repr

/-- The digit of a byte by offset (R560). -/
def digitByOffset (off : Word) (a b : Word) : M Digit := pure ⟨a, b + off, decide (9 < (b + off).toNat)⟩

/-- The digit of a byte by table (R561): the codes act on N in the place of M, and every digit joins the number, whatever
its code. At a digit above 9 the instruction ends at the byte, and the flag effect of its code is discarded with it (log
entry 23). -/
def digitByTable (e1 : VAddr) (a b : Word) : M Digit := do
  let t ← tableEntry e1 b
  let d := (t.val.extractLsb' 0 4).setWidth 36
  pure ⟨t.act nBit a, d, t.aborts || decide (9 < d.toNat)⟩

/-- Put a double-word value in the result pair; AOV and TRAP1 when it exceeds 70 bits and a sign (R560), set at the byte
that exceeds (log entry 44). Bit 35 of the low word of a negative result is a free value (log entry 20). -/
def putResult (ac : AcNum) (v : Int) : M Unit := do
  let hi := dhi v
  let lo := dlo v
  putAc2 (ac + 3) hi (withSign (negative hi && Config.cvtLowSign hi lo) lo)
  onlyIf (decide (v < -2 ^ 70 ∨ 2 ^ 70 ≤ v)) (setFlags overflowFlags)

/-- The loop of R560, `false` when it ended at a byte, whose length then still counts it. The fuel is the length. -/
def cvtdbLoop (dg : Word → Word → M Digit) (ac : AcNum) : Nat → Bool → M Bool
  | 0, _ => pure true
  | fuel + 1, first => do
    let a ← getAc ac
    if strLen a = 0 then pure true
    else do
      strPoint first
      let x ← nextByte (ac + 1)
      let d ← dg a x.byte
      if d.ends then do
        putAc (ac + 1) x.bp
        pure false
      else do
        let hi ← getAc (ac + 3)
        let lo ← getAc (ac + 4)
        putAc2 ac (withBit sBit true (withLen d.len (strLen a - 1))) x.bp
        putResult ac (dval hi lo * 10 + d.val.toNat)
        cvtdbLoop dg ac fuel false

/-- CVTDBO and CVTDBT (R560, R561). -/
def cvtdbOp (dg : Word → Word → M Digit) (ac : AcNum) : M Unit := do
  let a ← getAc ac
  let whole ← cvtdbLoop dg ac (strLen a) true
  if whole then do
    let a' ← getAc ac
    let hi ← getAc (ac + 3)
    let lo ← getAc (ac + 4)
    onlyIf (hasBit nBit a') (putResult ac (-dval hi lo))
    strEnd true
  else strEnd false

/-! ### Binary to decimal (R562, R563) -/

/-- The decimal digits of a magnitude, most significant first, at least one. -/
def decimals (n : Nat) : List Nat := go 22 n []
where
  /-- The digits of a number before the digits already found; 22 reach every magnitude of R451. -/
  go : Nat → Nat → List Nat → List Nat
  | 0, _, ds => ds
  | k + 1, n, ds => if n < 10 then n :: ds else go k (n / 10) (n % 10 :: ds)

/-- The number the digits write. -/
def digitsVal (ds : List Nat) : Nat := ds.foldl (fun n d => 10 * n + d) 0

/-- The magnitude that stands for the digits still to store (log entry 24): their number with S set, when the length left
tells how many they are; without S a 1 precedes them. -/
def digitsLeft (signif : Bool) (ds : List Nat) : Nat := (if signif then 0 else 10 ^ ds.length) + digitsVal ds

/-- Store digits at the next destination bytes; after every byte the length, the pointer and the number are what is left
(R551, R1207), after the last one the number is 0 (R562). -/
def storeDigits (dg : Nat → M Word) (ac : AcNum) (signif neg : Bool) : List Nat → Bool → M Unit
  | [], _ => putAc2 ac 0 0
  | d :: t, first => do
    strPoint first
    let v ← dg d
    let bp ← storeNext (ac + 4) v
    let len ← getAc (ac + 3)
    putAc2 (ac + 3) (withLen len (strLen len - 1)) bp
    let left : Int := digitsLeft signif t
    putAc2 ac (dhi (if neg then -left else left)) (dlo (if neg then -left else left))
    storeDigits dg ac signif neg t false

/-- The digits a conversion has to store: those of the magnitude, without the leading 1 that a restart finds where S is
clear; with S set, leading zeros to the length (R562, log entry 24). -/
def digitsToStore (restart signif : Bool) (room n : Nat) : List Nat :=
  if signif then List.replicate (room - (decimals n).length) 0 ++ decimals n
  else (decimals n).drop (if restart then 1 else 0)

/-- CVTBDO and CVTBDT (R562, R563). -/
def cvtbdOp (dg : Nat → M Word) (ac : AcNum) : M Unit := do
  let hi ← getAc ac
  let lo ← getAc (ac + 1)
  let len ← getAc (ac + 3)
  let s ← getS
  let v := dval hi lo
  putAc (ac + 3) (if v < 0 then withBit nBit true len else len)
  let signif := hasBit sBit len
  let ds := digitsToStore s.flags.fpd signif (strLen len) v.natAbs
  if strLen len < ds.length then strEnd false
  else do
    storeDigits dg ac signif (decide (v < 0)) ds true
    strEnd true

/-- A digit by offset (R562). -/
def decByOffset (off : Word) (d : Nat) : M Word := pure (BitVec.ofNat 36 d + off)

/-- A digit by table: the low 12 bits of `C(E1 + d)` (R563). -/
def decByTable (e1 : VAddr) (d : Nat) : M Word := do
  let w ← rdE (e1 + BitVec.ofNat 18 d)
  pure ((w.extractLsb' 0 12).setWidth 36)

/-! ### EDIT (R556) -/

/-- The pattern byte the pointer in AC names (R556). -/
def patByte (a w : Word) : BitVec 9 := w.extractLsb' (27 - 9 * (a.extractLsb' 30 2).toNat) 9

/-- The pattern pointer moved over `n` bytes (R556). -/
def patNext (a : Word) (n : Nat) : Word :=
  let t : BitVec 20 := (rh a ++ a.extractLsb' 30 2) + BitVec.ofNat 20 n
  a.extractLsb' 32 4 ++ t.extractLsb' 0 2 ++ a.extractLsb' 18 12 ++ t.extractLsb' 2 18

/-- Store a byte at the next destination byte and move the pointer. -/
def editStore (ac : AcNum) (v : Word) : M Unit := do
  let bp ← storeNext (ac + 4) v
  putAc (ac + 4) bp

/-- Store the byte at an address unless the word there is 0: the fill of SELECT at E0+1 and the float character at E0+2. -/
def editUnlessZero (ac : AcNum) (e : VAddr) : M Unit := do
  let f ← rdE e
  onlyIf (f != 0) (editStore ac f)

/-- SELECT (R556): the accumulators move only when every access has succeeded. `false` when the table ends EDIT. -/
def editSelect (ac : AcNum) (e0 e1 : VAddr) (a : Word) : M Bool := do
  let x ← nextByte (ac + 1)
  let t ← tableEntry e1 x.byte
  if t.aborts then do
    putAc2 ac (patNext a 1) x.bp
    pure false
  else do
    let a' := t.act mBit a
    if hasBit sBit a' then editStore ac (t.val.setWidth 36) else editUnlessZero ac (e0 + 1)
    putAc2 ac (patNext a' 1) x.bp
    pure true

/-- SIGST (R556). -/
def editSigst (ac : AcNum) (e0 : VAddr) (a : Word) : M Unit := do
  let mark ← getAc (ac + 3)
  let dst ← getAc (ac + 4)
  onlyIf (!hasBit sBit a) do
    wrE (rh mark) dst
    editUnlessZero ac (e0 + 2)
  putAc ac (patNext (withBit sBit true a) 1)

/-- EXCHMD (R556). -/
def editExchmd (ac : AcNum) (a : Word) : M Unit := do
  let mark ← getAc (ac + 3)
  let dst ← getAc (ac + 4)
  putAc2 (ac + 3) dst mark
  putAc ac (patNext a 1)

/-- The pattern operations but STOP and SELECT: their effect (R556). -/
def editPlain (ac : AcNum) (e0 : VAddr) (a : Word) (p : BitVec 9) : M Unit :=
  let n := (p.extractLsb' 0 6).toNat
  let skipBytes (c : Bool) : M Unit := putAc ac (patNext a (if c then n + 2 else 1))
  if p = 2 then editSigst ac e0 a
  else if p = 3 then putAc ac (patNext (withBit sBit false (withBit nBit false (withBit mBit false a))) 1)
  else if p = 4 then editExchmd ac a
  else if p.extractLsb' 6 3 = 1 then do
    let c ← rdE (e0 + (if hasBit sBit a then BitVec.ofNat 18 (n + 2) else 1))
    editStore ac c
    putAc ac (patNext a 1)
  else if p.extractLsb' 6 3 = 5 then skipBytes (hasBit mBit a)
  else if p.extractLsb' 6 3 = 6 then skipBytes (hasBit nBit a)
  else if p.extractLsb' 6 3 = 7 then skipBytes true
  else putAc ac (patNext a 1)

/-- The loop of EDIT, `false` when the table ended it. The fuel is every pattern byte of the address space; a pattern
that has none to stop at is left through re-entry (log entry 10). -/
def editLoop (ac : AcNum) (e0 e1 : VAddr) : Nat → Bool → M Bool
  | 0, _ => raise .reenter
  | fuel + 1, first => do
    strPoint first
    let a ← getAc ac
    let w ← rdE (rh a)
    let p := patByte a w
    if p = 0 then do
      putAc ac (patNext a 1)
      pure true
    else if p = 1 then do
      if ← editSelect ac e0 e1 a then editLoop ac e0 e1 fuel false else pure false
    else do
      editPlain ac e0 a p
      editLoop ac e0 e1 fuel false

/-- EDIT (R556). -/
def editOp (ac : AcNum) (e0 e1 : VAddr) : M Unit := do
  let r ← editLoop ac e0 e1 (2 ^ 20) true
  strEnd r

/-! ### The sub-operations and EXTEND (R550) -/

/-- The sub-operation CMPSL. -/
def cmpslSub (ac : AcNum) (e0 : VAddr) (m : EaField) : M Unit :=
  extSub 0o1 ac e0 m fun _ => cmpsOp .lt ac e0

/-- The sub-operation CMPSE. -/
def cmpseSub (ac : AcNum) (e0 : VAddr) (m : EaField) : M Unit :=
  extSub 0o2 ac e0 m fun _ => cmpsOp .eq ac e0

/-- The sub-operation CMPSLE. -/
def cmpsleSub (ac : AcNum) (e0 : VAddr) (m : EaField) : M Unit :=
  extSub 0o3 ac e0 m fun _ => cmpsOp .le ac e0

/-- The sub-operation EDIT. -/
def editSub (ac : AcNum) (e0 : VAddr) (m : EaField) : M Unit :=
  extSub 0o4 ac e0 m (editOp ac e0)

/-- The sub-operation CMPSGE. -/
def cmpsgeSub (ac : AcNum) (e0 : VAddr) (m : EaField) : M Unit :=
  extSub 0o5 ac e0 m fun _ => cmpsOp .ge ac e0

/-- The sub-operation CMPSN. -/
def cmpsnSub (ac : AcNum) (e0 : VAddr) (m : EaField) : M Unit :=
  extSub 0o6 ac e0 m fun _ => cmpsOp .ne ac e0

/-- The sub-operation CMPSG. -/
def cmpsgSub (ac : AcNum) (e0 : VAddr) (m : EaField) : M Unit :=
  extSub 0o7 ac e0 m fun _ => cmpsOp .gt ac e0

/-- The sub-operation CVTDBO. -/
def cvtdboSub (ac : AcNum) (e0 : VAddr) (m : EaField) : M Unit :=
  extSub 0o10 ac e0 m fun e1 => cvtdbOp (digitByOffset (sextE e1)) ac

/-- The sub-operation CVTDBT. -/
def cvtdbtSub (ac : AcNum) (e0 : VAddr) (m : EaField) : M Unit :=
  extSub 0o11 ac e0 m fun e1 => cvtdbOp (digitByTable e1) ac

/-- The sub-operation CVTBDO. -/
def cvtbdoSub (ac : AcNum) (e0 : VAddr) (m : EaField) : M Unit :=
  extSub 0o12 ac e0 m fun e1 => cvtbdOp (decByOffset (sextE e1)) ac

/-- The sub-operation CVTBDT. -/
def cvtbdtSub (ac : AcNum) (e0 : VAddr) (m : EaField) : M Unit :=
  extSub 0o13 ac e0 m fun e1 => cvtbdOp (decByTable e1) ac

/-- The sub-operation MOVSO. -/
def movsoSub (ac : AcNum) (e0 : VAddr) (m : EaField) : M Unit :=
  extSub 0o14 ac e0 m fun e1 => movsOp (byOffset (sextE e1)) ac e0

/-- The sub-operation MOVST. -/
def movstSub (ac : AcNum) (e0 : VAddr) (m : EaField) : M Unit :=
  extSub 0o15 ac e0 m fun e1 => movsOp (byTable e1) ac e0

/-- The sub-operation MOVSLJ. -/
def movsljSub (ac : AcNum) (e0 : VAddr) (m : EaField) : M Unit :=
  extSub 0o16 ac e0 m fun _ => movsOp asIs ac e0

/-- The sub-operation MOVSRJ. -/
def movsrjSub (ac : AcNum) (e0 : VAddr) (m : EaField) : M Unit :=
  extSub 0o17 ac e0 m fun _ => movsrjOp ac e0

/-- The dispatch of R550 on the extended instruction word: an undefined sub-opcode is the MUUO of the EXTEND (R568). -/
def extendBody (ac : AcNum) (e0 : VAddr) (x : Word) : M Unit :=
  let m := eaField x
  match (x.extractLsb' 27 9).toNat with
  | 1 => cmpslSub ac e0 m
  | 2 => cmpseSub ac e0 m
  | 3 => cmpsleSub ac e0 m
  | 4 => editSub ac e0 m
  | 5 => cmpsgeSub ac e0 m
  | 6 => cmpsnSub ac e0 m
  | 7 => cmpsgSub ac e0 m
  | 8 => cvtdboSub ac e0 m
  | 9 => cvtdbtSub ac e0 m
  | 10 => cvtbdoSub ac e0 m
  | 11 => cvtbdtSub ac e0 m
  | 12 => movsoSub ac e0 m
  | 13 => movstSub ac e0 m
  | 14 => movsljSub ac e0 m
  | 15 => movsrjSub ac e0 m
  | _ => muuoSeq 0o123 ac e0

/-- EXTEND (R550). -/
def extendOp (ac : AcNum) (m : EaField) : M Unit := do
  let e0 ← ea m
  let x ← vread .cur e0
  extendBody ac e0 x

/-- CMPSL (R553). -/
def execCmpsl (ac : AcNum) (e0 : VAddr) (m : EaField) (s : State) : Out := finish (cmpslSub ac e0 m) s

/-- CMPSE (R554). -/
def execCmpse (ac : AcNum) (e0 : VAddr) (m : EaField) (s : State) : Out := finish (cmpseSub ac e0 m) s

/-- CMPSLE (R555). -/
def execCmpsle (ac : AcNum) (e0 : VAddr) (m : EaField) (s : State) : Out := finish (cmpsleSub ac e0 m) s

/-- EDIT (R556). -/
def execEdit (ac : AcNum) (e0 : VAddr) (m : EaField) (s : State) : Out := finish (editSub ac e0 m) s

/-- CMPSGE (R557). -/
def execCmpsge (ac : AcNum) (e0 : VAddr) (m : EaField) (s : State) : Out := finish (cmpsgeSub ac e0 m) s

/-- CMPSN (R558). -/
def execCmpsn (ac : AcNum) (e0 : VAddr) (m : EaField) (s : State) : Out := finish (cmpsnSub ac e0 m) s

/-- CMPSG (R559). -/
def execCmpsg (ac : AcNum) (e0 : VAddr) (m : EaField) (s : State) : Out := finish (cmpsgSub ac e0 m) s

/-- CVTDBO (R560). -/
def execCvtdbo (ac : AcNum) (e0 : VAddr) (m : EaField) (s : State) : Out := finish (cvtdboSub ac e0 m) s

/-- CVTDBT (R561). -/
def execCvtdbt (ac : AcNum) (e0 : VAddr) (m : EaField) (s : State) : Out := finish (cvtdbtSub ac e0 m) s

/-- CVTBDO (R562). -/
def execCvtbdo (ac : AcNum) (e0 : VAddr) (m : EaField) (s : State) : Out := finish (cvtbdoSub ac e0 m) s

/-- CVTBDT (R563). -/
def execCvtbdt (ac : AcNum) (e0 : VAddr) (m : EaField) (s : State) : Out := finish (cvtbdtSub ac e0 m) s

/-- MOVSO (R564). -/
def execMovso (ac : AcNum) (e0 : VAddr) (m : EaField) (s : State) : Out := finish (movsoSub ac e0 m) s

/-- MOVST (R565). -/
def execMovst (ac : AcNum) (e0 : VAddr) (m : EaField) (s : State) : Out := finish (movstSub ac e0 m) s

/-- MOVSLJ (R566). -/
def execMovslj (ac : AcNum) (e0 : VAddr) (m : EaField) (s : State) : Out := finish (movsljSub ac e0 m) s

/-- MOVSRJ (R567). -/
def execMovsrj (ac : AcNum) (e0 : VAddr) (m : EaField) (s : State) : Out := finish (movsrjSub ac e0 m) s

/-- EXTEND (R550). -/
def execExtend (ac : AcNum) (m : EaField) (s : State) : Out := finish (extendOp ac m) s

end Sys2Proof.Machine
end

