-- ==== Sys2Proof/Machine/FloatNum.lean ====
section
/-! DEFINITION. The standard setting of the numeric field `FPU`: formats, result encoding and operations (42_float.md rules R500
to R504, R509 to R512). -/

namespace Sys2Proof.Machine

open Sys2Proof

/-- The exact rational `num / den * 2^exp`. -/
structure Scaled where
  num : Int
  den : Nat
  exp : Int
  deriving DecidableEq, Repr

/-- The excess-128 exponent, ones' complement when the word is negative (R500). -/
def expField (w : Word) : Nat :=
  let e := w.extractLsb' 27 8
  (if negative w then ~~~e else e).toNat

/-- `value(w)` (R500). -/
def fval (w : Word) : Scaled where
  num := (BitVec.ofBool (negative w) ++ w.extractLsb' 0 27 : BitVec 28).toInt
  den := 1
  exp := (expField w : Int) - 128 - 27

/-- `value(hi, lo)` (R501). -/
def dfval (hi lo : Word) : Scaled where
  num := (BitVec.ofBool (negative hi) ++ hi.extractLsb' 0 27 ++ lo.extractLsb' 0 35 : BitVec 63).toInt
  den := 1
  exp := (expField hi : Int) - 128 - 62

/-- An integer as a rational. -/
def Scaled.ofInt (v : Int) : Scaled := ⟨v, 1, 0⟩

/-- The same number with numerator and denominator scaled so that the power of two is 0. -/
def Scaled.flat (x : Scaled) : Int × Nat :=
  if 0 ≤ x.exp then (x.num * 2 ^ x.exp.toNat, x.den) else (x.num, x.den * 2 ^ (-x.exp).toNat)

/-- `floor(x)`. -/
def Scaled.floor (x : Scaled) : Int := x.flat.1 / (x.flat.2 : Int)

/-- `floor(x + 1/2)`. -/
def Scaled.roundHalfUp (x : Scaled) : Int := (2 * x.flat.1 + (x.flat.2 : Int)) / (2 * (x.flat.2 : Int))

/-- `trunc(x)`. -/
def Scaled.trunc (x : Scaled) : Int := x.flat.1.tdiv (x.flat.2 : Int)

/-- Exact sum. -/
def Scaled.add (x y : Scaled) : Scaled :=
  let e := min x.exp y.exp
  ⟨x.num * 2 ^ (x.exp - e).toNat * y.den + y.num * 2 ^ (y.exp - e).toNat * x.den, x.den * y.den, e⟩

/-- Exact difference. -/
def Scaled.sub (x y : Scaled) : Scaled := x.add { y with num := -y.num }

/-- Exact product. -/
def Scaled.mul (x y : Scaled) : Scaled := ⟨x.num * y.num, x.den * y.den, x.exp + y.exp⟩

/-- Exact quotient, the divisor not being 0. -/
def Scaled.div (x y : Scaled) : Scaled :=
  ⟨(if y.num < 0 then -x.num else x.num) * y.den, x.den * y.num.natAbs, x.exp - y.exp⟩

/-- A result of `enc` before it is stored: fraction, exponent and flags. -/
structure Encoded where
  frac : Int
  exp : Int
  flags : Flags
  deriving DecidableEq, Repr

/-- The power `k` for which the magnitude of `x 2^(k - x.exp)` lies in `[2^(fbits-1), 2^fbits)` (R502). -/
def normShift (x : Scaled) (fbits : Nat) : Int :=
  let k : Int := (fbits : Int) - 1 - (x.num.natAbs.log2 : Int) + (x.den.log2 : Int)
  let y : Scaled := ⟨x.num.natAbs, x.den, k⟩
  let bound : Scaled := ⟨2 ^ (fbits - 1), 1, 0⟩
  if y.flat.1 < bound.num * y.flat.2 then k + 1 else k

/-- `enc(x, rnd, fbits)` (R502): normalise, truncate or round, renormalise a carry, and set the range flags. -/
def enc (x : Scaled) (rnd : Bool) (fbits : Nat) : Encoded :=
  if x.num = 0 then ⟨0, 0, Flags.zero⟩
  else
    let k := normShift x fbits
    let y : Scaled := ⟨x.num, x.den, k⟩
    let e := x.exp - k + 128 + fbits
    let f := if rnd then y.roundHalfUp else y.floor
    let carried := f = 2 ^ fbits ∨ f = -2 ^ fbits
    let f' := if f = 2 ^ fbits then 2 ^ (fbits - 1) else if f = -2 ^ fbits then -2 ^ (fbits - 1) else f
    let e' := if carried then e + 1 else e
    ⟨f', e', if 255 < e' then floatOverflowFlags else if e' < 0 then floatUnderflowFlags else Flags.zero⟩

/-- The sign and exponent fields of a stored result, the exponent modulo 256 (R500, R502). -/
def signExp (r : Encoded) : BitVec 9 :=
  let e := BitVec.ofInt 8 r.exp
  if r.frac < 0 then (1 : BitVec 1) ++ ~~~e else (0 : BitVec 1) ++ e

/-- Store in the single format (R500, R502). -/
def packSingle (r : Encoded) : WordFlags where
  word := if r.frac = 0 then 0 else signExp r ++ BitVec.ofInt 27 r.frac
  flags := r.flags

/-- Store in the double format (R501, R502). -/
def packDouble (r : Encoded) : PairFlags where
  hi := if r.frac = 0 then 0 else signExp r ++ (BitVec.ofInt 62 r.frac).extractLsb' 35 27
  lo := if r.frac = 0 then 0 else (BitVec.ofInt 35 r.frac).setWidth 36
  flags := r.flags

/-- `fp(op, a, b, rnd)` for addition, subtraction and multiplication (R503). -/
def fp (op : Scaled → Scaled → Scaled) (rnd : Bool) (a b : Word) : WordFlags :=
  packSingle (enc (op (fval a) (fval b)) rnd 27)

/-- `fp(FDV, a, b, rnd)`, `none` when the divisor has value 0, a no divide (R502, R503). -/
def fdiv (rnd : Bool) (a b : Word) : Option WordFlags :=
  if (fval b).num = 0 then none else some (fp Scaled.div rnd a b)

/-- `dfp(op, (a0,a1), (b0,b1))` (R503). -/
def dfp (op : Scaled → Scaled → Scaled) (rnd : Bool) (a b : Word × Word) : PairFlags :=
  packDouble (enc (op (dfval a.1 a.2) (dfval b.1 b.2)) rnd 62)

/-- `dfp(/, a, b)`, `none` when the divisor has value 0 (R502, R508). -/
def dfdiv (rnd : Bool) (a b : Word × Word) : Option PairFlags :=
  if (dfval b.1 b.2).num = 0 then none else some (dfp Scaled.div rnd a b)

/-- A fixed-point result, `none` when it lies outside 36 bits (R509). -/
def fixResult (n : Int) : Option Word :=
  if -2 ^ 35 ≤ n ∧ n ≤ 2 ^ 35 - 1 then some (wordOfInt n) else none

/-- FIX (R509). -/
def fixNum (w : Word) : Option Word := fixResult (fval w).trunc

/-- FIXR (R510). -/
def fixrNum (w : Word) : Option Word := fixResult (fval w).roundHalfUp

/-- FLTR (R511). -/
def fltrNum (w : Word) : WordFlags := packSingle (enc (Scaled.ofInt (signed w)) true 27)

/-- The scale of FSC: `E[7:0] - (E[17] ? 256 : 0)` (R512); bit 8 of E is not in it (vector V147). -/
def fscScale (e : VAddr) : Int := ((e.toNat % 256 : Nat) : Int) - (if e.getLsbD 17 then 256 else 0)

/-- FSC (R512). -/
def fscNum (a : Word) (e : VAddr) : WordFlags :=
  let x := fval a
  packSingle (enc { x with exp := x.exp + fscScale e } false 27)

end Sys2Proof.Machine
end

