-- ==== Sys2Proof/Machine/Float.lean ====
section
/-! DEFINITION. Floating-point instructions (42_float.md sections 2 to 4). -/

namespace Sys2Proof.Machine

open Sys2Proof

/-! ### The numeric field in force (R504, D35) -/

/-- The exact operation on values (R503). -/
def exactOp : FloatOp → Scaled → Scaled → Scaled
  | .add => Scaled.add
  | .sub => Scaled.sub
  | .mul => Scaled.mul
  | .div => Scaled.div

/-- The flags an answer of another numeric field sets: none, or those of overflow or of underflow together (R61, R63,
R502). -/
def answerFlags (r : FpuAnswer) : Flags :=
  match r.range with
  | .fits => Flags.zero
  | .overflow => floatOverflowFlags
  | .underflow => floatUnderflowFlags

/-- `fp(op, a, b, rnd)` (R503), `none` for a no divide, which only a division can be. -/
def floatNum (c : Config) (op : FloatOp) (rnd : Bool) (a b : Word) : Option WordFlags :=
  match c.fpu with
  | .standard => if op = .div then fdiv rnd a b else some (fp (exactOp op) rnd a b)
  | .other k =>
    let r := Config.fpuOther k (.single op) rnd (a, 0) (b, 0)
    if op = .div ∧ r.refused = true then none else some ⟨r.hi, answerFlags r⟩

/-- `dfp(op, (a0,a1), (b0,b1))` with `DFP_ROUND` (R503, R508), `none` for a no divide. -/
def dfloatNum (c : Config) (op : FloatOp) (a b : Word × Word) : Option PairFlags :=
  match c.fpu with
  | .standard => if op = .div then dfdiv c.dfpRound a b else some (dfp (exactOp op) c.dfpRound a b)
  | .other k =>
    let r := Config.fpuOther k (.double op) c.dfpRound a b
    if op = .div ∧ r.refused = true then none else some ⟨r.hi, r.lo, answerFlags r⟩

/-- FIX and, `rounded`, FIXR (R509, R510), `none` when the integer lies outside 36 bits. -/
def fixedNum (c : Config) (rounded : Bool) (w : Word) : Option Word :=
  match c.fpu with
  | .standard => if rounded then fixrNum w else fixNum w
  | .other k =>
    let r := Config.fpuOther k (if rounded then .fixr else .fix) rounded (w, 0) (0, 0)
    if r.refused then none else some r.hi

/-- FLTR (R511). -/
def floatedNum (c : Config) (w : Word) : WordFlags :=
  match c.fpu with
  | .standard => fltrNum w
  | .other k =>
    let r := Config.fpuOther k .fltr true (w, 0) (0, 0)
    ⟨r.hi, answerFlags r⟩

/-- FSC by E (R512). -/
def scaledNum (c : Config) (a : Word) (e : VAddr) : WordFlags :=
  match c.fpu with
  | .standard => fscNum a e
  | .other k =>
    let r := Config.fpuOther k .fsc false (a, 0) (immR e, 0)
    ⟨r.hi, answerFlags r⟩

/-! ### Operand forms, the same for every numeric field (R504) -/

/-- A single-precision operation in a form that stores in memory, in AC, or both; a no divide writes nothing (R502, R513
to R540). -/
def floatOp (op : FloatOp) (rnd : Bool) (operand : VAddr → M Word) (toMem toAc : Bool) (ac : AcNum) (m : EaField) :
    M Unit := do
  let e ← ea m
  let b ← operand e
  let a ← getAc ac
  let s ← getS
  match floatNum s.cfg op rnd a b with
  | none => setFlags floatNoDivideFlags
  | some r => do
    onlyIf toMem (wrE e r.word)
    onlyIf toAc (putAc ac r.word)
    setFlags r.flags

/-- The immediate operand E,,0 of the RI forms (R500). -/
def floatImm (e : VAddr) : M Word := pure (immL e)

/-- A double-precision operation (R505 to R508). -/
def dfloatOp (op : FloatOp) (ac : AcNum) (m : EaField) : M Unit := do
  let e ← ea m
  let b ← rdE2 e
  let a0 ← getAc ac
  let a1 ← getAc (ac + 1)
  let s ← getS
  match dfloatNum s.cfg op (a0, a1) b with
  | none => setFlags floatNoDivideFlags
  | some r => do
    putAc2 ac r.hi r.lo
    setFlags r.flags

/-- FIX and FIXR: out of range leaves AC (R509, R510). -/
def fixOp (rounded : Bool) (ac : AcNum) (m : EaField) : M Unit := do
  let e ← ea m
  let w ← rdE e
  let s ← getS
  match fixedNum s.cfg rounded w with
  | none => setFlags overflowFlags
  | some r => putAc ac r

/-- FSC: E is the scale; no memory reference (R512). -/
def fscOp (ac : AcNum) (m : EaField) : M Unit := do
  let e ← ea m
  let a ← getAc ac
  let s ← getS
  putAc ac (scaledNum s.cfg a e).word
  setFlags (scaledNum s.cfg a e).flags

/-! ### The instructions -/

/-- DFAD (R505). -/
def execDfad (ac : AcNum) (m : EaField) (s : State) : Out := finish (dfloatOp .add ac m) s

/-- DFSB (R506). -/
def execDfsb (ac : AcNum) (m : EaField) (s : State) : Out := finish (dfloatOp .sub ac m) s

/-- DFMP (R507). -/
def execDfmp (ac : AcNum) (m : EaField) (s : State) : Out := finish (dfloatOp .mul ac m) s

/-- DFDV (R508). -/
def execDfdv (ac : AcNum) (m : EaField) (s : State) : Out := finish (dfloatOp .div ac m) s

/-- FIX (R509). -/
def execFix (ac : AcNum) (m : EaField) (s : State) : Out := finish (fixOp false ac m) s

/-- FIXR (R510). -/
def execFixr (ac : AcNum) (m : EaField) (s : State) : Out := finish (fixOp true ac m) s

/-- FLTR (R511). -/
def execFltr (ac : AcNum) (m : EaField) (s : State) : Out := finish (acFromMemF (fun _ w => floatedNum s.cfg w) ac m) s

/-- FSC (R512). -/
def execFsc (ac : AcNum) (m : EaField) (s : State) : Out := finish (fscOp ac m) s

/-- FAD (R513). -/
def execFad (ac : AcNum) (m : EaField) (s : State) : Out := finish (floatOp .add false rdE false true ac m) s

/-- FADM (R514). -/
def execFadm (ac : AcNum) (m : EaField) (s : State) : Out := finish (floatOp .add false rdmE true false ac m) s

/-- FADB (R515). -/
def execFadb (ac : AcNum) (m : EaField) (s : State) : Out := finish (floatOp .add false rdmE true true ac m) s

/-- FADR (R516). -/
def execFadr (ac : AcNum) (m : EaField) (s : State) : Out := finish (floatOp .add true rdE false true ac m) s

/-- FADRI (R517). -/
def execFadri (ac : AcNum) (m : EaField) (s : State) : Out := finish (floatOp .add true floatImm false true ac m) s

/-- FADRM (R518). -/
def execFadrm (ac : AcNum) (m : EaField) (s : State) : Out := finish (floatOp .add true rdmE true false ac m) s

/-- FADRB (R519). -/
def execFadrb (ac : AcNum) (m : EaField) (s : State) : Out := finish (floatOp .add true rdmE true true ac m) s

/-- FSB (R520). -/
def execFsb (ac : AcNum) (m : EaField) (s : State) : Out := finish (floatOp .sub false rdE false true ac m) s

/-- FSBM (R521). -/
def execFsbm (ac : AcNum) (m : EaField) (s : State) : Out := finish (floatOp .sub false rdmE true false ac m) s

/-- FSBB (R522). -/
def execFsbb (ac : AcNum) (m : EaField) (s : State) : Out := finish (floatOp .sub false rdmE true true ac m) s

/-- FSBR (R523). -/
def execFsbr (ac : AcNum) (m : EaField) (s : State) : Out := finish (floatOp .sub true rdE false true ac m) s

/-- FSBRI (R524). -/
def execFsbri (ac : AcNum) (m : EaField) (s : State) : Out := finish (floatOp .sub true floatImm false true ac m) s

/-- FSBRM (R525). -/
def execFsbrm (ac : AcNum) (m : EaField) (s : State) : Out := finish (floatOp .sub true rdmE true false ac m) s

/-- FSBRB (R526). -/
def execFsbrb (ac : AcNum) (m : EaField) (s : State) : Out := finish (floatOp .sub true rdmE true true ac m) s

/-- FMP (R527). -/
def execFmp (ac : AcNum) (m : EaField) (s : State) : Out := finish (floatOp .mul false rdE false true ac m) s

/-- FMPM (R528). -/
def execFmpm (ac : AcNum) (m : EaField) (s : State) : Out := finish (floatOp .mul false rdmE true false ac m) s

/-- FMPB (R529). -/
def execFmpb (ac : AcNum) (m : EaField) (s : State) : Out := finish (floatOp .mul false rdmE true true ac m) s

/-- FMPR (R530). -/
def execFmpr (ac : AcNum) (m : EaField) (s : State) : Out := finish (floatOp .mul true rdE false true ac m) s

/-- FMPRI (R531). -/
def execFmpri (ac : AcNum) (m : EaField) (s : State) : Out := finish (floatOp .mul true floatImm false true ac m) s

/-- FMPRM (R532). -/
def execFmprm (ac : AcNum) (m : EaField) (s : State) : Out := finish (floatOp .mul true rdmE true false ac m) s

/-- FMPRB (R533). -/
def execFmprb (ac : AcNum) (m : EaField) (s : State) : Out := finish (floatOp .mul true rdmE true true ac m) s

/-- FDV (R534). -/
def execFdv (ac : AcNum) (m : EaField) (s : State) : Out := finish (floatOp .div false rdE false true ac m) s

/-- FDVM (R535). -/
def execFdvm (ac : AcNum) (m : EaField) (s : State) : Out := finish (floatOp .div false rdmE true false ac m) s

/-- FDVB (R536). -/
def execFdvb (ac : AcNum) (m : EaField) (s : State) : Out := finish (floatOp .div false rdmE true true ac m) s

/-- FDVR (R537). -/
def execFdvr (ac : AcNum) (m : EaField) (s : State) : Out := finish (floatOp .div true rdE false true ac m) s

/-- FDVRI (R538). -/
def execFdvri (ac : AcNum) (m : EaField) (s : State) : Out := finish (floatOp .div true floatImm false true ac m) s

/-- FDVRM (R539). -/
def execFdvrm (ac : AcNum) (m : EaField) (s : State) : Out := finish (floatOp .div true rdmE true false ac m) s

/-- FDVRB (R540). -/
def execFdvrb (ac : AcNum) (m : EaField) (s : State) : Out := finish (floatOp .div true rdmE true true ac m) s

end Sys2Proof.Machine
end

