-- ==== Sys2Proof/Machine/HalfTest.lean ====
section
/-! DEFINITION. Halfword and test instructions, 0o500-0o677 (48_halfword_test.md). A memory form of the halfword group with a
fill does not read memory (R901). -/

namespace Sys2Proof.Machine

open Sys2Proof

/-! ### Halfwords (R900, R901) -/

/-- A half of a word. -/
inductive Side where
  | left | right
  deriving DecidableEq, Repr

/-- The other half. -/
def Side.other : Side → Side
  | .left => .right
  | .right => .left

/-- The half of a word. -/
def Side.of (d : Side) (w : Word) : Half :=
  match d with
  | .left => lh w
  | .right => rh w

/-- What becomes of the other half of the destination (R900). -/
inductive Fill where
  | none | zeros | ones | sign
  deriving DecidableEq, Repr

/-- The other half: the destination's own, zeros, ones, or the sign of the moved half (R900). -/
def Fill.half (f : Fill) (moved own : Half) : Half :=
  match f with
  | .none => own
  | .zeros => 0
  | .ones => 0o777777
  | .sign => if moved.getLsbD 17 then 0o777777 else 0

/-- `hw(op, s, d)`: the `src` half of `w` moved into the `dst` half of `d` (R900). -/
def hw (src dst : Side) (f : Fill) (w d : Word) : Word :=
  let h := src.of w
  match dst with
  | .left => xwd h (f.half h (rh d))
  | .right => xwd (f.half h (lh d)) h

/-! ### Tests (R980, R981) -/

/-- Where the mask comes from: 0,,E; E,,0; memory; memory with its halves swapped (R980). -/
inductive MaskSource where
  | right | left | direct | swapped
  deriving DecidableEq, Repr

/-- Modification of AC by the mask (R980). -/
inductive TestMod where
  | none | zeros | complement | ones
  deriving DecidableEq, Repr

/-- When a test skips (R980). -/
inductive TestSkip where
  | never | ifZero | always | ifNonzero
  deriving DecidableEq, Repr

/-- The mask; memory masks use Read (R981). -/
def MaskSource.get (src : MaskSource) (e : VAddr) : M Word :=
  match src with
  | .right => pure (immR e)
  | .left => pure (immL e)
  | .direct => rdE e
  | .swapped => do
    let w ← rdE e
    pure (swapHalves w)

/-- The modified accumulator (R981). -/
def TestMod.apply (md : TestMod) (a mask : Word) : Word :=
  match md with
  | .none => a
  | .zeros => a &&& ~~~mask
  | .complement => a ^^^ mask
  | .ones => a ||| mask

/-- Whether `AC and mask` makes the test skip (R981). -/
def TestSkip.holds (sk : TestSkip) (t : Word) : Bool :=
  match sk with
  | .never => false
  | .ifZero => t == 0
  | .always => true
  | .ifNonzero => t != 0

/-- A test instruction: the skip looks at AC before its modification (R981). -/
def testOp (src : MaskSource) (md : TestMod) (sk : TestSkip) (ac : AcNum) (m : EaField) : M Unit := do
  let e ← ea m
  let mask ← src.get e
  let a ← getAc ac
  putAc ac (md.apply a mask)
  skipIf (sk.holds (a &&& mask))

/-! ### The instructions -/

/-- HLL (R902). -/
def execHll (ac : AcNum) (m : EaField) (s : State) : Out :=
  finish (acFromMem (fun a w => hw .left .left .none w a) ac m) s

/-- HLLI (R903). -/
def execHlli (ac : AcNum) (m : EaField) (s : State) : Out :=
  finish (acFromImm (fun a w => hw .left .left .none w a) ac m) s

/-- HLLM (R904). -/
def execHllm (ac : AcNum) (m : EaField) (s : State) : Out :=
  finish (memRmw (fun a w => hw .left .left .none a w) ac m) s

/-- HLLS (R905). -/
def execHlls (ac : AcNum) (m : EaField) (s : State) : Out := finish (selfRmw (fun w => hw .left .left .none w w) ac m) s

/-- HRL (R906). -/
def execHrl (ac : AcNum) (m : EaField) (s : State) : Out :=
  finish (acFromMem (fun a w => hw .right .left .none w a) ac m) s

/-- HRLI (R907). -/
def execHrli (ac : AcNum) (m : EaField) (s : State) : Out :=
  finish (acFromImm (fun a w => hw .right .left .none w a) ac m) s

/-- HRLM (R908). -/
def execHrlm (ac : AcNum) (m : EaField) (s : State) : Out :=
  finish (memRmw (fun a w => hw .right .left .none a w) ac m) s

/-- HRLS (R909). -/
def execHrls (ac : AcNum) (m : EaField) (s : State) : Out :=
  finish (selfRmw (fun w => hw .right .left .none w w) ac m) s

/-- HLLZ (R910). -/
def execHllz (ac : AcNum) (m : EaField) (s : State) : Out :=
  finish (acFromMem (fun a w => hw .left .left .zeros w a) ac m) s

/-- HLLZI (R911). -/
def execHllzi (ac : AcNum) (m : EaField) (s : State) : Out :=
  finish (acFromImm (fun a w => hw .left .left .zeros w a) ac m) s

/-- HLLZM (R912). -/
def execHllzm (ac : AcNum) (m : EaField) (s : State) : Out :=
  finish (memFromAc (fun a => hw .left .left .zeros a 0) ac m) s

/-- HLLZS (R913). -/
def execHllzs (ac : AcNum) (m : EaField) (s : State) : Out :=
  finish (selfRmw (fun w => hw .left .left .zeros w w) ac m) s

/-- HRLZ (R914). -/
def execHrlz (ac : AcNum) (m : EaField) (s : State) : Out :=
  finish (acFromMem (fun a w => hw .right .left .zeros w a) ac m) s

/-- HRLZI (R915). -/
def execHrlzi (ac : AcNum) (m : EaField) (s : State) : Out :=
  finish (acFromImm (fun a w => hw .right .left .zeros w a) ac m) s

/-- HRLZM (R916). -/
def execHrlzm (ac : AcNum) (m : EaField) (s : State) : Out :=
  finish (memFromAc (fun a => hw .right .left .zeros a 0) ac m) s

/-- HRLZS (R917). -/
def execHrlzs (ac : AcNum) (m : EaField) (s : State) : Out :=
  finish (selfRmw (fun w => hw .right .left .zeros w w) ac m) s

/-- HLLO (R918). -/
def execHllo (ac : AcNum) (m : EaField) (s : State) : Out :=
  finish (acFromMem (fun a w => hw .left .left .ones w a) ac m) s

/-- HLLOI (R919). -/
def execHlloi (ac : AcNum) (m : EaField) (s : State) : Out :=
  finish (acFromImm (fun a w => hw .left .left .ones w a) ac m) s

/-- HLLOM (R920). -/
def execHllom (ac : AcNum) (m : EaField) (s : State) : Out :=
  finish (memFromAc (fun a => hw .left .left .ones a 0) ac m) s

/-- HLLOS (R921). -/
def execHllos (ac : AcNum) (m : EaField) (s : State) : Out :=
  finish (selfRmw (fun w => hw .left .left .ones w w) ac m) s

/-- HRLO (R922). -/
def execHrlo (ac : AcNum) (m : EaField) (s : State) : Out :=
  finish (acFromMem (fun a w => hw .right .left .ones w a) ac m) s

/-- HRLOI (R923). -/
def execHrloi (ac : AcNum) (m : EaField) (s : State) : Out :=
  finish (acFromImm (fun a w => hw .right .left .ones w a) ac m) s

/-- HRLOM (R924). -/
def execHrlom (ac : AcNum) (m : EaField) (s : State) : Out :=
  finish (memFromAc (fun a => hw .right .left .ones a 0) ac m) s

/-- HRLOS (R925). -/
def execHrlos (ac : AcNum) (m : EaField) (s : State) : Out :=
  finish (selfRmw (fun w => hw .right .left .ones w w) ac m) s

/-- HLLE (R926). -/
def execHlle (ac : AcNum) (m : EaField) (s : State) : Out :=
  finish (acFromMem (fun a w => hw .left .left .sign w a) ac m) s

/-- HLLEI (R927). -/
def execHllei (ac : AcNum) (m : EaField) (s : State) : Out :=
  finish (acFromImm (fun a w => hw .left .left .sign w a) ac m) s

/-- HLLEM (R928). -/
def execHllem (ac : AcNum) (m : EaField) (s : State) : Out :=
  finish (memFromAc (fun a => hw .left .left .sign a 0) ac m) s

/-- HLLES (R929). -/
def execHlles (ac : AcNum) (m : EaField) (s : State) : Out :=
  finish (selfRmw (fun w => hw .left .left .sign w w) ac m) s

/-- HRLE (R930). -/
def execHrle (ac : AcNum) (m : EaField) (s : State) : Out :=
  finish (acFromMem (fun a w => hw .right .left .sign w a) ac m) s

/-- HRLEI (R931). -/
def execHrlei (ac : AcNum) (m : EaField) (s : State) : Out :=
  finish (acFromImm (fun a w => hw .right .left .sign w a) ac m) s

/-- HRLEM (R932). -/
def execHrlem (ac : AcNum) (m : EaField) (s : State) : Out :=
  finish (memFromAc (fun a => hw .right .left .sign a 0) ac m) s

/-- HRLES (R933). -/
def execHrles (ac : AcNum) (m : EaField) (s : State) : Out :=
  finish (selfRmw (fun w => hw .right .left .sign w w) ac m) s

/-- HRR (R934). -/
def execHrr (ac : AcNum) (m : EaField) (s : State) : Out :=
  finish (acFromMem (fun a w => hw .right .right .none w a) ac m) s

/-- HRRI (R935). -/
def execHrri (ac : AcNum) (m : EaField) (s : State) : Out :=
  finish (acFromImm (fun a w => hw .right .right .none w a) ac m) s

/-- HRRM (R936). -/
def execHrrm (ac : AcNum) (m : EaField) (s : State) : Out :=
  finish (memRmw (fun a w => hw .right .right .none a w) ac m) s

/-- HRRS (R937). -/
def execHrrs (ac : AcNum) (m : EaField) (s : State) : Out :=
  finish (selfRmw (fun w => hw .right .right .none w w) ac m) s

/-- HLR (R938). -/
def execHlr (ac : AcNum) (m : EaField) (s : State) : Out :=
  finish (acFromMem (fun a w => hw .left .right .none w a) ac m) s

/-- HLRI (R939). -/
def execHlri (ac : AcNum) (m : EaField) (s : State) : Out :=
  finish (acFromImm (fun a w => hw .left .right .none w a) ac m) s

/-- HLRM (R940). -/
def execHlrm (ac : AcNum) (m : EaField) (s : State) : Out :=
  finish (memRmw (fun a w => hw .left .right .none a w) ac m) s

/-- HLRS (R941). -/
def execHlrs (ac : AcNum) (m : EaField) (s : State) : Out :=
  finish (selfRmw (fun w => hw .left .right .none w w) ac m) s

/-- HRRZ (R942). -/
def execHrrz (ac : AcNum) (m : EaField) (s : State) : Out :=
  finish (acFromMem (fun a w => hw .right .right .zeros w a) ac m) s

/-- HRRZI (R943). -/
def execHrrzi (ac : AcNum) (m : EaField) (s : State) : Out :=
  finish (acFromImm (fun a w => hw .right .right .zeros w a) ac m) s

/-- HRRZM (R944). -/
def execHrrzm (ac : AcNum) (m : EaField) (s : State) : Out :=
  finish (memFromAc (fun a => hw .right .right .zeros a 0) ac m) s

/-- HRRZS (R945). -/
def execHrrzs (ac : AcNum) (m : EaField) (s : State) : Out :=
  finish (selfRmw (fun w => hw .right .right .zeros w w) ac m) s

/-- HLRZ (R946). -/
def execHlrz (ac : AcNum) (m : EaField) (s : State) : Out :=
  finish (acFromMem (fun a w => hw .left .right .zeros w a) ac m) s

/-- HLRZI (R947). -/
def execHlrzi (ac : AcNum) (m : EaField) (s : State) : Out :=
  finish (acFromImm (fun a w => hw .left .right .zeros w a) ac m) s

/-- HLRZM (R948). -/
def execHlrzm (ac : AcNum) (m : EaField) (s : State) : Out :=
  finish (memFromAc (fun a => hw .left .right .zeros a 0) ac m) s

/-- HLRZS (R949). -/
def execHlrzs (ac : AcNum) (m : EaField) (s : State) : Out :=
  finish (selfRmw (fun w => hw .left .right .zeros w w) ac m) s

/-- HRRO (R950). -/
def execHrro (ac : AcNum) (m : EaField) (s : State) : Out :=
  finish (acFromMem (fun a w => hw .right .right .ones w a) ac m) s

/-- HRROI (R951). -/
def execHrroi (ac : AcNum) (m : EaField) (s : State) : Out :=
  finish (acFromImm (fun a w => hw .right .right .ones w a) ac m) s

/-- HRROM (R952). -/
def execHrrom (ac : AcNum) (m : EaField) (s : State) : Out :=
  finish (memFromAc (fun a => hw .right .right .ones a 0) ac m) s

/-- HRROS (R953). -/
def execHrros (ac : AcNum) (m : EaField) (s : State) : Out :=
  finish (selfRmw (fun w => hw .right .right .ones w w) ac m) s

/-- HLRO (R954). -/
def execHlro (ac : AcNum) (m : EaField) (s : State) : Out :=
  finish (acFromMem (fun a w => hw .left .right .ones w a) ac m) s

/-- HLROI (R955). -/
def execHlroi (ac : AcNum) (m : EaField) (s : State) : Out :=
  finish (acFromImm (fun a w => hw .left .right .ones w a) ac m) s

/-- HLROM (R956). -/
def execHlrom (ac : AcNum) (m : EaField) (s : State) : Out :=
  finish (memFromAc (fun a => hw .left .right .ones a 0) ac m) s

/-- HLROS (R957). -/
def execHlros (ac : AcNum) (m : EaField) (s : State) : Out :=
  finish (selfRmw (fun w => hw .left .right .ones w w) ac m) s

/-- HRRE (R958). -/
def execHrre (ac : AcNum) (m : EaField) (s : State) : Out :=
  finish (acFromMem (fun a w => hw .right .right .sign w a) ac m) s

/-- HRREI (R959). -/
def execHrrei (ac : AcNum) (m : EaField) (s : State) : Out :=
  finish (acFromImm (fun a w => hw .right .right .sign w a) ac m) s

/-- HRREM (R960). -/
def execHrrem (ac : AcNum) (m : EaField) (s : State) : Out :=
  finish (memFromAc (fun a => hw .right .right .sign a 0) ac m) s

/-- HRRES (R961). -/
def execHrres (ac : AcNum) (m : EaField) (s : State) : Out :=
  finish (selfRmw (fun w => hw .right .right .sign w w) ac m) s

/-- HLRE (R962). -/
def execHlre (ac : AcNum) (m : EaField) (s : State) : Out :=
  finish (acFromMem (fun a w => hw .left .right .sign w a) ac m) s

/-- HLREI (R963). -/
def execHlrei (ac : AcNum) (m : EaField) (s : State) : Out :=
  finish (acFromImm (fun a w => hw .left .right .sign w a) ac m) s

/-- HLREM (R964). -/
def execHlrem (ac : AcNum) (m : EaField) (s : State) : Out :=
  finish (memFromAc (fun a => hw .left .right .sign a 0) ac m) s

/-- HLRES (R965). -/
def execHlres (ac : AcNum) (m : EaField) (s : State) : Out :=
  finish (selfRmw (fun w => hw .left .right .sign w w) ac m) s

/-- TRN (R982). -/
def execTrn (ac : AcNum) (m : EaField) (s : State) : Out := finish (testOp .right .none .never ac m) s

/-- TLN (R983). -/
def execTln (ac : AcNum) (m : EaField) (s : State) : Out := finish (testOp .left .none .never ac m) s

/-- TRNE (R984). -/
def execTrne (ac : AcNum) (m : EaField) (s : State) : Out := finish (testOp .right .none .ifZero ac m) s

/-- TLNE (R985). -/
def execTlne (ac : AcNum) (m : EaField) (s : State) : Out := finish (testOp .left .none .ifZero ac m) s

/-- TRNA (R986). -/
def execTrna (ac : AcNum) (m : EaField) (s : State) : Out := finish (testOp .right .none .always ac m) s

/-- TLNA (R987). -/
def execTlna (ac : AcNum) (m : EaField) (s : State) : Out := finish (testOp .left .none .always ac m) s

/-- TRNN (R988). -/
def execTrnn (ac : AcNum) (m : EaField) (s : State) : Out := finish (testOp .right .none .ifNonzero ac m) s

/-- TLNN (R989). -/
def execTlnn (ac : AcNum) (m : EaField) (s : State) : Out := finish (testOp .left .none .ifNonzero ac m) s

/-- TDN (R990). -/
def execTdn (ac : AcNum) (m : EaField) (s : State) : Out := finish (testOp .direct .none .never ac m) s

/-- TSN (R991). -/
def execTsn (ac : AcNum) (m : EaField) (s : State) : Out := finish (testOp .swapped .none .never ac m) s

/-- TDNE (R992). -/
def execTdne (ac : AcNum) (m : EaField) (s : State) : Out := finish (testOp .direct .none .ifZero ac m) s

/-- TSNE (R993). -/
def execTsne (ac : AcNum) (m : EaField) (s : State) : Out := finish (testOp .swapped .none .ifZero ac m) s

/-- TDNA (R994). -/
def execTdna (ac : AcNum) (m : EaField) (s : State) : Out := finish (testOp .direct .none .always ac m) s

/-- TSNA (R995). -/
def execTsna (ac : AcNum) (m : EaField) (s : State) : Out := finish (testOp .swapped .none .always ac m) s

/-- TDNN (R996). -/
def execTdnn (ac : AcNum) (m : EaField) (s : State) : Out := finish (testOp .direct .none .ifNonzero ac m) s

/-- TSNN (R997). -/
def execTsnn (ac : AcNum) (m : EaField) (s : State) : Out := finish (testOp .swapped .none .ifNonzero ac m) s

/-- TRZ (R998). -/
def execTrz (ac : AcNum) (m : EaField) (s : State) : Out := finish (testOp .right .zeros .never ac m) s

/-- TLZ (R999). -/
def execTlz (ac : AcNum) (m : EaField) (s : State) : Out := finish (testOp .left .zeros .never ac m) s

/-- TRZE (R1000). -/
def execTrze (ac : AcNum) (m : EaField) (s : State) : Out := finish (testOp .right .zeros .ifZero ac m) s

/-- TLZE (R1001). -/
def execTlze (ac : AcNum) (m : EaField) (s : State) : Out := finish (testOp .left .zeros .ifZero ac m) s

/-- TRZA (R1002). -/
def execTrza (ac : AcNum) (m : EaField) (s : State) : Out := finish (testOp .right .zeros .always ac m) s

/-- TLZA (R1003). -/
def execTlza (ac : AcNum) (m : EaField) (s : State) : Out := finish (testOp .left .zeros .always ac m) s

/-- TRZN (R1004). -/
def execTrzn (ac : AcNum) (m : EaField) (s : State) : Out := finish (testOp .right .zeros .ifNonzero ac m) s

/-- TLZN (R1005). -/
def execTlzn (ac : AcNum) (m : EaField) (s : State) : Out := finish (testOp .left .zeros .ifNonzero ac m) s

/-- TDZ (R1006). -/
def execTdz (ac : AcNum) (m : EaField) (s : State) : Out := finish (testOp .direct .zeros .never ac m) s

/-- TSZ (R1007). -/
def execTsz (ac : AcNum) (m : EaField) (s : State) : Out := finish (testOp .swapped .zeros .never ac m) s

/-- TDZE (R1008). -/
def execTdze (ac : AcNum) (m : EaField) (s : State) : Out := finish (testOp .direct .zeros .ifZero ac m) s

/-- TSZE (R1009). -/
def execTsze (ac : AcNum) (m : EaField) (s : State) : Out := finish (testOp .swapped .zeros .ifZero ac m) s

/-- TDZA (R1010). -/
def execTdza (ac : AcNum) (m : EaField) (s : State) : Out := finish (testOp .direct .zeros .always ac m) s

/-- TSZA (R1011). -/
def execTsza (ac : AcNum) (m : EaField) (s : State) : Out := finish (testOp .swapped .zeros .always ac m) s

/-- TDZN (R1012). -/
def execTdzn (ac : AcNum) (m : EaField) (s : State) : Out := finish (testOp .direct .zeros .ifNonzero ac m) s

/-- TSZN (R1013). -/
def execTszn (ac : AcNum) (m : EaField) (s : State) : Out := finish (testOp .swapped .zeros .ifNonzero ac m) s

/-- TRC (R1014). -/
def execTrc (ac : AcNum) (m : EaField) (s : State) : Out := finish (testOp .right .complement .never ac m) s

/-- TLC (R1015). -/
def execTlc (ac : AcNum) (m : EaField) (s : State) : Out := finish (testOp .left .complement .never ac m) s

/-- TRCE (R1016). -/
def execTrce (ac : AcNum) (m : EaField) (s : State) : Out := finish (testOp .right .complement .ifZero ac m) s

/-- TLCE (R1017). -/
def execTlce (ac : AcNum) (m : EaField) (s : State) : Out := finish (testOp .left .complement .ifZero ac m) s

/-- TRCA (R1018). -/
def execTrca (ac : AcNum) (m : EaField) (s : State) : Out := finish (testOp .right .complement .always ac m) s

/-- TLCA (R1019). -/
def execTlca (ac : AcNum) (m : EaField) (s : State) : Out := finish (testOp .left .complement .always ac m) s

/-- TRCN (R1020). -/
def execTrcn (ac : AcNum) (m : EaField) (s : State) : Out := finish (testOp .right .complement .ifNonzero ac m) s

/-- TLCN (R1021). -/
def execTlcn (ac : AcNum) (m : EaField) (s : State) : Out := finish (testOp .left .complement .ifNonzero ac m) s

/-- TDC (R1022). -/
def execTdc (ac : AcNum) (m : EaField) (s : State) : Out := finish (testOp .direct .complement .never ac m) s

/-- TSC (R1023). -/
def execTsc (ac : AcNum) (m : EaField) (s : State) : Out := finish (testOp .swapped .complement .never ac m) s

/-- TDCE (R1024). -/
def execTdce (ac : AcNum) (m : EaField) (s : State) : Out := finish (testOp .direct .complement .ifZero ac m) s

/-- TSCE (R1025). -/
def execTsce (ac : AcNum) (m : EaField) (s : State) : Out := finish (testOp .swapped .complement .ifZero ac m) s

/-- TDCA (R1026). -/
def execTdca (ac : AcNum) (m : EaField) (s : State) : Out := finish (testOp .direct .complement .always ac m) s

/-- TSCA (R1027). -/
def execTsca (ac : AcNum) (m : EaField) (s : State) : Out := finish (testOp .swapped .complement .always ac m) s

/-- TDCN (R1028). -/
def execTdcn (ac : AcNum) (m : EaField) (s : State) : Out := finish (testOp .direct .complement .ifNonzero ac m) s

/-- TSCN (R1029). -/
def execTscn (ac : AcNum) (m : EaField) (s : State) : Out := finish (testOp .swapped .complement .ifNonzero ac m) s

/-- TRO (R1030). -/
def execTro (ac : AcNum) (m : EaField) (s : State) : Out := finish (testOp .right .ones .never ac m) s

/-- TLO (R1031). -/
def execTlo (ac : AcNum) (m : EaField) (s : State) : Out := finish (testOp .left .ones .never ac m) s

/-- TROE (R1032). -/
def execTroe (ac : AcNum) (m : EaField) (s : State) : Out := finish (testOp .right .ones .ifZero ac m) s

/-- TLOE (R1033). -/
def execTloe (ac : AcNum) (m : EaField) (s : State) : Out := finish (testOp .left .ones .ifZero ac m) s

/-- TROA (R1034). -/
def execTroa (ac : AcNum) (m : EaField) (s : State) : Out := finish (testOp .right .ones .always ac m) s

/-- TLOA (R1035). -/
def execTloa (ac : AcNum) (m : EaField) (s : State) : Out := finish (testOp .left .ones .always ac m) s

/-- TRON (R1036). -/
def execTron (ac : AcNum) (m : EaField) (s : State) : Out := finish (testOp .right .ones .ifNonzero ac m) s

/-- TLON (R1037). -/
def execTlon (ac : AcNum) (m : EaField) (s : State) : Out := finish (testOp .left .ones .ifNonzero ac m) s

/-- TDO (R1038). -/
def execTdo (ac : AcNum) (m : EaField) (s : State) : Out := finish (testOp .direct .ones .never ac m) s

/-- TSO (R1039). -/
def execTso (ac : AcNum) (m : EaField) (s : State) : Out := finish (testOp .swapped .ones .never ac m) s

/-- TDOE (R1040). -/
def execTdoe (ac : AcNum) (m : EaField) (s : State) : Out := finish (testOp .direct .ones .ifZero ac m) s

/-- TSOE (R1041). -/
def execTsoe (ac : AcNum) (m : EaField) (s : State) : Out := finish (testOp .swapped .ones .ifZero ac m) s

/-- TDOA (R1042). -/
def execTdoa (ac : AcNum) (m : EaField) (s : State) : Out := finish (testOp .direct .ones .always ac m) s

/-- TSOA (R1043). -/
def execTsoa (ac : AcNum) (m : EaField) (s : State) : Out := finish (testOp .swapped .ones .always ac m) s

/-- TDON (R1044). -/
def execTdon (ac : AcNum) (m : EaField) (s : State) : Out := finish (testOp .direct .ones .ifNonzero ac m) s

/-- TSON (R1045). -/
def execTson (ac : AcNum) (m : EaField) (s : State) : Out := finish (testOp .swapped .ones .ifNonzero ac m) s

end Sys2Proof.Machine
end

