-- ==== Sys2Proof/Machine/Uuo.lean ====
section
/-! DEFINITION. Local and monitor UUOs (40_uuo.md). -/

namespace Sys2Proof.Machine

open Sys2Proof

/-- Execute a fetched word "as by XCT" (R686): count one level, check the limit and the chaining checkpoint, and leave the
word to the loop with its PXCT selection bits (log entry 9). -/
def xctLevel : M Unit := do
  modS fun s => { s with xctCount := s.xctCount + 1 }
  let s ← getS
  if s.cfg.xctMax ≠ 0 ∧ s.cfg.xctMax < s.xctCount then raise (.stop .xct)
  else if 2 ≤ s.xctCount then reenterIfPending
  else pure ()

/-- Leave a word to be executed. -/
def leaveWord (p : Pending) : M Unit := modS fun s => { s with pending := some p }

/-- Leave a word to be executed with its PXCT selection bits. -/
def setPending (w : Word) (bits : BitVec 4) : M Unit := leaveWord ⟨w, bits, false⟩

/-- The LUUO sequence (R401, D37). -/
def luuoOp (op : BitVec 9) (ac : AcNum) (m : EaField) : M Unit := do
  let e ← ea m
  let s ← getS
  if s.cfg.its && s.inUser && s.cfg.itsUserLuuoMuuo then muuoSeq op ac e
  else do
    vwrite .cur 0o40 (xwd (opacHalf op ac) e)
    let w ← vread .cur 0o41
    xctLevel
    setPending w 0

/-- `raise Stop(ILLEG)`, leaving the state `start` of the start of the instruction (R433). -/
def stopIlleg (start : State) : M Unit := do
  modS fun _ => start
  raise (.stop .illeg)

/-- An MUUO opcode: `Stop(ILLEG)` for opcode 0 under `STOP_ON_OP0`, else the MUUO sequence (R433, R438). The stop comes
after E, whose page fails come first, and undoes what computing E changed (R433, log entry 27). -/
def muuoOp (op : BitVec 9) (ac : AcNum) (m : EaField) : M Unit := do
  let s ← getS
  let e ← ea m
  if s.cfg.stopOnOp0 && op == 0 then stopIlleg s else muuoSeq op ac e

/-- MUUO (R433 to R438). -/
def execMuuo (op : BitVec 9) (ac : AcNum) (m : EaField) (s : State) : Out := finish (muuoOp op ac m) s

/-- LUUO01 (R402). -/
def execLuuo01 (ac : AcNum) (m : EaField) (s : State) : Out := finish (luuoOp 0o001 ac m) s

/-- LUUO02 (R403). -/
def execLuuo02 (ac : AcNum) (m : EaField) (s : State) : Out := finish (luuoOp 0o002 ac m) s

/-- LUUO03 (R404). -/
def execLuuo03 (ac : AcNum) (m : EaField) (s : State) : Out := finish (luuoOp 0o003 ac m) s

/-- LUUO04 (R405). -/
def execLuuo04 (ac : AcNum) (m : EaField) (s : State) : Out := finish (luuoOp 0o004 ac m) s

/-- LUUO05 (R406). -/
def execLuuo05 (ac : AcNum) (m : EaField) (s : State) : Out := finish (luuoOp 0o005 ac m) s

/-- LUUO06 (R407). -/
def execLuuo06 (ac : AcNum) (m : EaField) (s : State) : Out := finish (luuoOp 0o006 ac m) s

/-- LUUO07 (R408). -/
def execLuuo07 (ac : AcNum) (m : EaField) (s : State) : Out := finish (luuoOp 0o007 ac m) s

/-- LUUO10 (R409). -/
def execLuuo10 (ac : AcNum) (m : EaField) (s : State) : Out := finish (luuoOp 0o010 ac m) s

/-- LUUO11 (R410). -/
def execLuuo11 (ac : AcNum) (m : EaField) (s : State) : Out := finish (luuoOp 0o011 ac m) s

/-- LUUO12 (R411). -/
def execLuuo12 (ac : AcNum) (m : EaField) (s : State) : Out := finish (luuoOp 0o012 ac m) s

/-- LUUO13 (R412). -/
def execLuuo13 (ac : AcNum) (m : EaField) (s : State) : Out := finish (luuoOp 0o013 ac m) s

/-- LUUO14 (R413). -/
def execLuuo14 (ac : AcNum) (m : EaField) (s : State) : Out := finish (luuoOp 0o014 ac m) s

/-- LUUO15 (R414). -/
def execLuuo15 (ac : AcNum) (m : EaField) (s : State) : Out := finish (luuoOp 0o015 ac m) s

/-- LUUO16 (R415). -/
def execLuuo16 (ac : AcNum) (m : EaField) (s : State) : Out := finish (luuoOp 0o016 ac m) s

/-- LUUO17 (R416). -/
def execLuuo17 (ac : AcNum) (m : EaField) (s : State) : Out := finish (luuoOp 0o017 ac m) s

/-- LUUO20 (R417). -/
def execLuuo20 (ac : AcNum) (m : EaField) (s : State) : Out := finish (luuoOp 0o020 ac m) s

/-- LUUO21 (R418). -/
def execLuuo21 (ac : AcNum) (m : EaField) (s : State) : Out := finish (luuoOp 0o021 ac m) s

/-- LUUO22 (R419). -/
def execLuuo22 (ac : AcNum) (m : EaField) (s : State) : Out := finish (luuoOp 0o022 ac m) s

/-- LUUO23 (R420). -/
def execLuuo23 (ac : AcNum) (m : EaField) (s : State) : Out := finish (luuoOp 0o023 ac m) s

/-- LUUO24 (R421). -/
def execLuuo24 (ac : AcNum) (m : EaField) (s : State) : Out := finish (luuoOp 0o024 ac m) s

/-- LUUO25 (R422). -/
def execLuuo25 (ac : AcNum) (m : EaField) (s : State) : Out := finish (luuoOp 0o025 ac m) s

/-- LUUO26 (R423). -/
def execLuuo26 (ac : AcNum) (m : EaField) (s : State) : Out := finish (luuoOp 0o026 ac m) s

/-- LUUO27 (R424). -/
def execLuuo27 (ac : AcNum) (m : EaField) (s : State) : Out := finish (luuoOp 0o027 ac m) s

/-- LUUO30 (R425). -/
def execLuuo30 (ac : AcNum) (m : EaField) (s : State) : Out := finish (luuoOp 0o030 ac m) s

/-- LUUO31 (R426). -/
def execLuuo31 (ac : AcNum) (m : EaField) (s : State) : Out := finish (luuoOp 0o031 ac m) s

/-- LUUO32 (R427). -/
def execLuuo32 (ac : AcNum) (m : EaField) (s : State) : Out := finish (luuoOp 0o032 ac m) s

/-- LUUO33 (R428). -/
def execLuuo33 (ac : AcNum) (m : EaField) (s : State) : Out := finish (luuoOp 0o033 ac m) s

/-- LUUO34 (R429). -/
def execLuuo34 (ac : AcNum) (m : EaField) (s : State) : Out := finish (luuoOp 0o034 ac m) s

/-- LUUO35 (R430). -/
def execLuuo35 (ac : AcNum) (m : EaField) (s : State) : Out := finish (luuoOp 0o035 ac m) s

/-- LUUO36 (R431). -/
def execLuuo36 (ac : AcNum) (m : EaField) (s : State) : Out := finish (luuoOp 0o036 ac m) s

/-- LUUO37 (R432). -/
def execLuuo37 (ac : AcNum) (m : EaField) (s : State) : Out := finish (luuoOp 0o037 ac m) s

end Sys2Proof.Machine
end

