-- ==== Sys2Proof/Machine/ShiftJump.lean ====
section
/-! DEFINITION. Shift, rotate, exchange, block-transfer, jump, execute, map and stack instructions
(45_shift_jump.md; XCTR and XCTRI of 41_byte_double.md). -/

namespace Sys2Proof.Machine

open Sys2Proof

/-! ### Shifts and rotates (R660 to R668) -/

/-- A shift of E: to the left by `n`, or to the right by `n` (R660). -/
structure Shift where
  left : Bool
  n : Nat
  deriving DecidableEq, Repr

/-- Direction and count of E (R660). -/
def shiftOf (e : VAddr) : Shift :=
  if e.getLsbD 17 then ⟨false, (-e).toNat % 256⟩ else ⟨true, e.toNat % 256⟩

/-- The left rotation by `k` of a rotate of a `width`-bit value (R662, R666). -/
def rotCount (width : Nat) (sh : Shift) : Nat :=
  (if sh.left then sh.n else width - sh.n % width) % width

/-- ASH (R661). -/
def ash (a : Word) (e : VAddr) : WordFlags :=
  let sh := shiftOf e
  let k := min sh.n 35
  if sh.left then
    let lost := (a &&& maxPos) >>> (35 - k)
    let same : Word := if negative a then BitVec.ofNat 36 (2 ^ k - 1) else 0
    { word := (a &&& signWord) ||| ((a <<< k) &&& maxPos),
      flags := if lost = same then Flags.zero else overflowFlags }
  else { word := a.sshiftRight k, flags := Flags.zero }

/-- ROT (R662). -/
def rot (a : Word) (e : VAddr) : Word := a.rotateLeft (rotCount 36 (shiftOf e))

/-- LSH (R663). -/
def lsh (a : Word) (e : VAddr) : Word :=
  let sh := shiftOf e
  if sh.left then a <<< sh.n else a >>> sh.n

/-- The number of leading zero bits of a nonzero word (R664). -/
def leadingZeros (a : Word) : Nat := 35 - a.toNat.log2

/-- ASHC (R665). -/
def ashc (hi lo : Word) (e : VAddr) : PairFlags :=
  let sh := shiftOf e
  let k := min sh.n 70
  let neg := negative hi
  let mag : BitVec 70 := hi.extractLsb' 0 35 ++ lo.extractLsb' 0 35
  let out : BitVec 70 :=
    if sh.left then mag <<< k
    else BitVec.ofInt 70 (((if neg then -2 ^ 70 else 0) + (mag.toNat : Int)) / 2 ^ k)
  let lost := mag.toNat / 2 ^ (70 - k)
  { hi := withSign neg ((out.extractLsb' 35 35).setWidth 36),
    lo := withSign neg ((out.extractLsb' 0 35).setWidth 36),
    flags := if sh.left && lost != (if neg then 2 ^ k - 1 else 0) then overflowFlags else Flags.zero }

/-- The two halves of a 72-bit value. -/
def split72 (x : BitVec 72) : Word × Word := (x.extractLsb' 36 36, x.extractLsb' 0 36)

/-- ROTC (R666). -/
def rotc (hi lo : Word) (e : VAddr) : Word × Word :=
  split72 ((hi ++ lo : BitVec 72).rotateLeft (rotCount 72 (shiftOf e)))

/-- LSHC (R667). -/
def lshc (hi lo : Word) (e : VAddr) : Word × Word :=
  let sh := shiftOf e
  let x : BitVec 72 := hi ++ lo
  split72 (if sh.left then x <<< sh.n else x >>> sh.n)

/-- CIRC (R668). -/
def circ (hi lo : Word) (e : VAddr) : Word × Word :=
  let x := split72 ((hi ++ lo.reverse : BitVec 72).rotateLeft (rotCount 72 (shiftOf e)))
  (x.1, x.2.reverse)

/-- A one-word shift of AC by E (R662, R663). -/
def shiftOp (f : Word → VAddr → Word) (ac : AcNum) (m : EaField) : M Unit := do
  let e ← ea m
  let a ← getAc ac
  putAc ac (f a e)

/-- ASH (R661). -/
def ashOp (ac : AcNum) (m : EaField) : M Unit := do
  let e ← ea m
  let a ← getAc ac
  putAc ac (ash a e).word
  setFlags (ash a e).flags

/-- A two-word shift of AC and AC+1 by E (R666 to R668). -/
def shift2Op (f : Word → Word → VAddr → Word × Word) (ac : AcNum) (m : EaField) : M Unit := do
  let e ← ea m
  let hi ← getAc ac
  let lo ← getAc (ac + 1)
  putAc2 ac (f hi lo e).1 (f hi lo e).2

/-- ASHC (R665). -/
def ashcOp (ac : AcNum) (m : EaField) : M Unit := do
  let e ← ea m
  let hi ← getAc ac
  let lo ← getAc (ac + 1)
  let r := ashc hi lo e
  putAc2 ac r.hi r.lo
  setFlags r.flags

/-- JFFO (R664). -/
def jffoOp (ac : AcNum) (m : EaField) : M Unit := do
  let e ← ea m
  let a ← getAc ac
  if a = 0 then putAc (ac + 1) 0
  else do
    putAc (ac + 1) (BitVec.ofNat 36 (leadingZeros a))
    jump e

/-! ### EXCH, BLT, AOBJx (R669 to R672) -/

/-- EXCH (R669): the write-checked read first. -/
def exchOp (ac : AcNum) (m : EaField) : M Unit := do
  let e ← ea m
  let w ← rdmE e
  let a ← getAc ac
  wrE e a
  putAc ac w

/-- `AC[ac] <- XWD(src, dst)`, the progress word of a block transfer. -/
def putBlt (ac : AcNum) (src : VAddr) (dst : Nat) : M Unit := putAc ac (xwd src (BitVec.ofNat 18 dst))

/-- The loop of R670 for a number of words; each word stored is `f` of the word read (R1156, R1157). -/
def bltLoop (f : Word → Word) (ac : AcNum) : Nat → Bool → VAddr → Nat → M Unit
  | 0, _, src, dst => putBlt ac src dst
  | n + 1, first, src, dst => do
    let s ← getS
    putBlt ac src dst
    if first then pure () else reenterIfPending
    let d : VAddr := BitVec.ofNat 18 dst
    if ← accViol s.ctxBstk src .read then let _ ← rdStk src
    if ← accViol s.ctxData d .write then let _ ← rdmE d
    let w ← rdStk src
    wrE d (f w)
    bltLoop f ac n false (src + 1) (dst + 1)

/-- BLT (R670), and with a conversion BLTBU and BLTUB (R1156, R1157). -/
def bltOp (f : Word → Word) (ac : AcNum) (e : VAddr) : M Unit := do
  let s ← getS
  let src := lh (s.ac ac)
  let dst := (rh (s.ac ac)).toNat
  if e.toNat < dst then
    if s.cfg.bltMinOne then bltLoop f ac 1 true src dst else pure ()
  else bltLoop f ac (e.toNat + 1 - dst) true src dst

/-- `aob(w)` (R671, D30). -/
def aob (carry : Bool) (w : Word) : Word := if carry then w + 0o000001000001 else xwd (lh w + 1) (rh w + 1)

/-- AOBJP and AOBJN: jump when the sign of the result is as asked (R671, R672). -/
def aobjOp (whenNeg : Bool) (ac : AcNum) (m : EaField) : M Unit := do
  let e ← ea m
  let s ← getS
  let r := aob s.cfg.aobCarry (s.ac ac)
  putAc ac r
  onlyIf (negative r == whenNeg) (jump e)

/-! ### JRST (R673 to R684) -/

/-- The classes of the JRST validity table (R673). -/
inductive JrstClass where
  | unrestricted | exec | uio
  deriving DecidableEq, Repr

/-- Executive mode is in force. -/
def State.mayExec (s : State) : Bool := !s.inUser

/-- The I/O privilege is held: executive mode or user I/O (R66). -/
def State.mayIo (s : State) : Bool := !s.inUser || s.flags.uio

/-- A JRST function: E first, then the gate, an MUUO when it fails, then the effect (R673). -/
def jrstOp (cls : JrstClass) (fn : AcNum) (m : EaField) (act : VAddr → M Unit) : M Unit := do
  let e ← ea m
  let s ← getS
  let ok := match cls with
    | .unrestricted => true
    | .exec => s.mayExec
    | .uio => s.mayIo
  if ok then act e else muuoSeq 0o254 fn e

/-- The flags word of JRSTF and JEN: the accumulator the last word of the effective-address calculation names, else that
word itself (R676). -/
def flagsWord (fn : AcNum) (m : EaField) (r : EaResult) : M Word := fun s =>
  .ok (if r.idx = 0 then r.last.getD (pack 0o254 fn m) else s.acOf (s.block s.ctxEa) r.idx) s

/-- PORTAL (R675). -/
def portal (e : VAddr) : M Unit := do
  modS fun s => { s with flags := { s.flags with pub := false } }
  jump e

/-- JRSTF (R676). -/
def jrstfOp (m : EaField) : M Unit := do
  let r ← eaFull m
  let w ← flagsWord 2 m r
  restoreFlpc (lh w) r.addr

/-- HALT (R677). -/
def halt (e : VAddr) : M Unit := do
  jump e
  raise (.stop .halt)

/-- XJRSTF (R678). -/
def xjrstf (e : VAddr) : M Unit := do
  let b ← rdE2 e
  restoreFlpc (lh b.1) (rh b.2)

/-- XJEN (R679): both reads before any change. -/
def xjen (e : VAddr) : M Unit := do
  let b ← rdE2 e
  dismiss
  restoreFlpc (lh b.1) (rh b.2)

/-- XPCW in a context: as an instruction the data context (R680), as an interrupt instruction executive virtual (R1222).
As an interrupt instruction under ITS, too, a 1-proceed request in its new flags goes to `its_1pr` (R1250, log entry 48). -/
def xpcwIn (rd : VAddr → M Word) (wr : VAddr → Word → M Unit) (e : VAddr) : M Unit := do
  let s ← getS
  wr e (xwd s.flags.toHalf 0)
  wr (e + 1) (xwd 0 s.pc)
  let f ← rd (e + 2)
  let p ← rd (e + 3)
  modS fun s => (setNewflags (lh f) false s).setPc (rh p)

/-- JRST 10 (R681). -/
def jrst10 (e : VAddr) : M Unit := do
  dismiss
  jump e

/-- JEN (R682). -/
def jenOp (m : EaField) : M Unit := do
  let r ← eaFull m
  let s ← getS
  if s.mayIo then do
    let w ← flagsWord 0o12 m r
    dismiss
    restoreFlpc (lh w) r.addr
  else muuoSeq 0o254 0o12 r.addr

/-- SFM (R683). -/
def sfm (e : VAddr) : M Unit := do
  let s ← getS
  wrE e (xwd s.flags.toHalf 0)

/-- XJRST (R684). -/
def xjrst (e : VAddr) : M Unit := do
  let p ← rdE e
  jump (rh p)

/-! ### JFCL, XCT, MAP (R685 to R688, R452 to R454) -/

/-- The flags JFCL selects: AOV, CRY0, CRY1, FOV (R685). -/
def jfclSel (ac : AcNum) : Flags :=
  { Flags.zero with aov := ac.getLsbD 3, cry0 := ac.getLsbD 2, cry1 := ac.getLsbD 1, fov := ac.getLsbD 0 }

/-- Any selected flag is set (R685). -/
def jfclHit (ac : AcNum) (f : Flags) : Bool :=
  (ac.getLsbD 3 && f.aov) || (ac.getLsbD 2 && f.cry0) || (ac.getLsbD 1 && f.cry1) || (ac.getLsbD 0 && f.fov)

/-- The flags with the selected ones cleared (R685). -/
def jfclClr (ac : AcNum) (f : Flags) : Flags :=
  { f with
    aov := f.aov && !(jfclSel ac).aov
    cry0 := f.cry0 && !(jfclSel ac).cry0
    cry1 := f.cry1 && !(jfclSel ac).cry1
    fov := f.fov && !(jfclSel ac).fov }

/-- JFCL (R685). -/
def jfclOp (ac : AcNum) (m : EaField) : M Unit := do
  let e ← ea m
  let s ← getS
  onlyIf (jfclHit ac s.flags) (jump e)
  modS fun s => { s with flags := jfclClr ac s.flags }

/-- XCT and PXCT (R686, R687): the operand word is read in `ctx_ea`, the previous context when a PXCT with bit 0o10 executes
this XCT (log entry 13); in user mode the selection bits are ignored. -/
def xctOp (bits : BitVec 4) (m : EaField) : M Unit := do
  let e ← ea m
  xctLevel
  let w ← rdEa e
  let s ← getS
  setPending w (if s.inUser then 0 else bits)

/-- XCTR and XCTRI (R452 to R454): an MUUO outside ITS and in user mode. `inhibits`: the page fail of the instruction
executed is suppressed under ITS_XCTRI_INHIBIT (R453, log entry 40). -/
def xctrOp (op : BitVec 9) (inhibits : Bool) (ac : AcNum) (m : EaField) : M Unit := do
  let e ← ea m
  let s ← getS
  if s.cfg.its && s.mayExec then do
    xctLevel
    let w ← vread .cur e
    leaveWord ⟨w, ac, inhibits && s.cfg.xctriInhibit⟩
  else muuoSeq op ac e

/-- The word MAP loads (R688): on success A, W and the physical address; else the status word. Never a page fail. W is the
writable bit a cache entry of the page has (D34), so 0 for a TOPS-20 page whose modified bit is 0 (log entry 18). -/
def mapWord (user : Bool) (va : VAddr) : M Word := fun s =>
  if isAc va || !s.base.ebr.pgon then .ok (s.pfwWord (.mapped user true va.toNat)) s
  else match entryFor user .map va s with
    | .ok e t => .ok (s.pfwWord (.mapped user e.writable (physOf e.ppn va))) t
    | .error .pageFail t => .ok t.pagerWord t
    | .error a t => .error a t

/-- MAP; under ITS an MUUO (R688). -/
def mapOp (ac : AcNum) (m : EaField) : M Unit := do
  let e ← ea m
  let s ← getS
  if s.cfg.its then muuoSeq 0o257 ac e
  else do
    let w ← mapWord (s.space s.ctxData) e
    putAc ac w

/-! ### Stack and subroutines (R689 to R697) -/

/-- `inc(w)` (R689). -/
def stackInc (w : Word) : Word := xwd (lh w + 1) (rh w + 1)

/-- `dec(w)` (R689). -/
def stackDec (w : Word) : Word := xwd (lh w - 1) (rh w - 1)

/-- The flags of a push to the pointer `n`, or of a pop from the pointer `n`: TRAP2 when its left half is 0 (R689). -/
def stackFlags (n : Word) : Flags := if lh n = 0 then pushdownFlags else Flags.zero

/-- `clr(CALLCLR)` (R71). -/
def clrCall : M Unit := modS fun s => { s with flags := s.flags.callClr }

/-- PUSHJ (R690). -/
def pushjOp (ac : AcNum) (m : EaField) : M Unit := do
  let e ← ea m
  let s ← getS
  let n := stackInc (s.ac ac)
  wrStk (rh n) s.flpc
  putAc ac n
  clrCall
  setFlags (stackFlags n)
  jump e

/-- PUSH (R691). -/
def pushOp (ac : AcNum) (m : EaField) : M Unit := do
  let e ← ea m
  let v ← rdE e
  let a ← getAc ac
  let n := stackInc a
  wrStk (rh n) v
  putAc ac n
  setFlags (stackFlags n)

/-- POP (R692): the store precedes the decrement, and the pointer decremented is the one the store may have written. -/
def popOp (ac : AcNum) (m : EaField) : M Unit := do
  let e ← ea m
  let a ← getAc ac
  let v ← rdStk (rh a)
  wrE e v
  let o ← getAc ac
  putAc ac (stackDec o)
  setFlags (stackFlags o)

/-- POPJ (R693). -/
def popjOp (ac : AcNum) (m : EaField) : M Unit := do
  let _ ← ea m
  let a ← getAc ac
  let v ← rdStk (rh a)
  putAc ac (stackDec a)
  setFlags (stackFlags a)
  jump (rh v)

/-- JSR (R694). -/
def jsrOp (m : EaField) : M Unit := do
  let e ← ea m
  let s ← getS
  wrE e s.flpc
  clrCall
  jump (e + 1)

/-- JSP (R695). -/
def jspOp (ac : AcNum) (m : EaField) : M Unit := do
  let e ← ea m
  let s ← getS
  putAc ac s.flpc
  clrCall
  jump e

/-- JSA (R696). -/
def jsaOp (ac : AcNum) (m : EaField) : M Unit := do
  let e ← ea m
  let a ← getAc ac
  wrE e a
  let s ← getS
  putAc ac (xwd e s.pc)
  jump (e + 1)

/-- JRA (R697). -/
def jraOp (ac : AcNum) (m : EaField) : M Unit := do
  let e ← ea m
  let a ← getAc ac
  let v ← rdE (lh a)
  putAc ac v
  jump e

/-- An instruction that first computes E. -/
def withE (m : EaField) (act : VAddr → M Unit) : M Unit := do
  let e ← ea m
  act e

/-! ### The instructions -/

/-- ASH (R661). -/
def execAsh (ac : AcNum) (m : EaField) (s : State) : Out := finish (ashOp ac m) s

/-- ROT (R662). -/
def execRot (ac : AcNum) (m : EaField) (s : State) : Out := finish (shiftOp rot ac m) s

/-- LSH (R663). -/
def execLsh (ac : AcNum) (m : EaField) (s : State) : Out := finish (shiftOp lsh ac m) s

/-- JFFO (R664). -/
def execJffo (ac : AcNum) (m : EaField) (s : State) : Out := finish (jffoOp ac m) s

/-- ASHC (R665). -/
def execAshc (ac : AcNum) (m : EaField) (s : State) : Out := finish (ashcOp ac m) s

/-- ROTC (R666). -/
def execRotc (ac : AcNum) (m : EaField) (s : State) : Out := finish (shift2Op rotc ac m) s

/-- LSHC (R667). -/
def execLshc (ac : AcNum) (m : EaField) (s : State) : Out := finish (shift2Op lshc ac m) s

/-- EXCH (R669). -/
def execExch (ac : AcNum) (m : EaField) (s : State) : Out := finish (exchOp ac m) s

/-- BLT (R670). -/
def execBlt (ac : AcNum) (m : EaField) (s : State) : Out := finish (withE m (bltOp (fun w => w) ac)) s

/-- AOBJP (R671). -/
def execAobjp (ac : AcNum) (m : EaField) (s : State) : Out := finish (aobjOp false ac m) s

/-- AOBJN (R672). -/
def execAobjn (ac : AcNum) (m : EaField) (s : State) : Out := finish (aobjOp true ac m) s

/-- JRST (R674). -/
def execJrst (m : EaField) (s : State) : Out := finish (jrstOp .unrestricted 0 m jump) s

/-- PORTAL (R675). -/
def execPortal (m : EaField) (s : State) : Out := finish (jrstOp .unrestricted 1 m portal) s

/-- JRSTF (R676). -/
def execJrstf (m : EaField) (s : State) : Out := finish (jrstfOp m) s

/-- HALT (R677). -/
def execHalt (m : EaField) (s : State) : Out := finish (jrstOp .exec 4 m halt) s

/-- XJRSTF (R678). -/
def execXjrstf (m : EaField) (s : State) : Out := finish (jrstOp .unrestricted 5 m xjrstf) s

/-- XJEN (R679). -/
def execXjen (m : EaField) (s : State) : Out := finish (jrstOp .exec 6 m xjen) s

/-- XPCW (R680). -/
def execXpcw (m : EaField) (s : State) : Out := finish (jrstOp .exec 7 m (xpcwIn rdE wrE)) s

/-- JRST10 (R681). -/
def execJrst10 (m : EaField) (s : State) : Out := finish (jrstOp .uio 0o10 m jrst10) s

/-- JEN (R682). -/
def execJen (m : EaField) (s : State) : Out := finish (jenOp m) s

/-- SFM (R683). -/
def execSfm (m : EaField) (s : State) : Out := finish (jrstOp .exec 0o14 m sfm) s

/-- JFCL (R685). -/
def execJfcl (ac : AcNum) (m : EaField) (s : State) : Out := finish (jfclOp ac m) s

/-- XCT (R686). -/
def execXct (m : EaField) (s : State) : Out := finish (xctOp 0 m) s

/-- PXCT (R687). -/
def execPxct (ac : AcNum) (m : EaField) (s : State) : Out := finish (xctOp ac m) s

/-- XCTRI (R453). -/
def execXctri (ac : AcNum) (m : EaField) (s : State) : Out := finish (xctrOp 0o102 true ac m) s

/-- XCTR (R454). -/
def execXctr (ac : AcNum) (m : EaField) (s : State) : Out := finish (xctrOp 0o103 false ac m) s

/-- MAP (R688). -/
def execMap (ac : AcNum) (m : EaField) (s : State) : Out := finish (mapOp ac m) s

/-- PUSHJ (R690). -/
def execPushj (ac : AcNum) (m : EaField) (s : State) : Out := finish (pushjOp ac m) s

/-- PUSH (R691). -/
def execPush (ac : AcNum) (m : EaField) (s : State) : Out := finish (pushOp ac m) s

/-- POP (R692). -/
def execPop (ac : AcNum) (m : EaField) (s : State) : Out := finish (popOp ac m) s

/-- POPJ (R693). -/
def execPopj (ac : AcNum) (m : EaField) (s : State) : Out := finish (popjOp ac m) s

/-- JSP (R695). -/
def execJsp (ac : AcNum) (m : EaField) (s : State) : Out := finish (jspOp ac m) s

/-- JSA (R696). -/
def execJsa (ac : AcNum) (m : EaField) (s : State) : Out := finish (jsaOp ac m) s

/-- JRA (R697). -/
def execJra (ac : AcNum) (m : EaField) (s : State) : Out := finish (jraOp ac m) s

/-- JSR (R694). The AC field is not used. -/
def execJsr (_ac : AcNum) (m : EaField) (s : State) : Out := finish (jsrOp m) s

/-- CIRC (R668); an MUUO outside ITS (R435). -/
def execCirc (ac : AcNum) (m : EaField) (s : State) : Out :=
  finish (if s.cfg.its then shift2Op circ ac m else muuoOp 0o247 ac m) s

/-- XJRST (R684); an MUUO where it does not exist (D32). -/
def execXjrst (m : EaField) (s : State) : Out :=
  finish (if s.cfg.hasXjrst then jrstOp .unrestricted 0o15 m xjrst else muuoOp 0o254 0o15 m) s

end Sys2Proof.Machine
end

