-- ==== Sys2Proof/Machine/Io.lean ====
section
/-! DEFINITION. I/O and processor-register instructions, 0o700-0o777 (49_io.md). -/

namespace Sys2Proof.Machine

open Sys2Proof

/-- An I/O-class instruction: E first, then the privilege check, an MUUO when it fails (R1100, R438). -/
def ioOp (op : BitVec 9) (ac : AcNum) (m : EaField) (act : VAddr → M Unit) : M Unit := do
  let e ← ea m
  let s ← getS
  if s.mayIo then act e else muuoSeq op ac e

/-- An I/O-class instruction that exists only under the given setting of ITS, an MUUO otherwise (R1100, R331). -/
def gatedIo (its : Bool) (op : BitVec 9) (ac : AcNum) (m : EaField) (act : VAddr → M Unit) : M Unit :=
  ioOp op ac m fun e => do
    let s ← getS
    if s.cfg.its = its then act e else muuoSeq op ac e

/-- A function that stores a register's word in C(E). -/
def storeReg (f : State → Word) (e : VAddr) : M Unit := do
  let s ← getS
  wrE e (f s)

/-- A function that loads a register from C(E). -/
def loadReg (f : Word → State → State) (e : VAddr) : M Unit := do
  let w ← rdE e
  modS (f w)

/-! ### APR (R1101 to R1106) -/

/-- `APRID` stores the parameter (R1101). -/
def aprid (s : State) : Word := s.cfg.apridWord

/-- WRAPR: sets before clears; the level is always loaded (R1102, D39). -/
def wraprApr (e : VAddr) (a : Apr) : Apr :=
  let f : BitVec 8 := e.extractLsb' 4 8
  let enb := if e.getLsbD 15 then a.enb ||| f else a.enb
  let enb := if e.getLsbD 14 then enb &&& ~~~f else enb
  let flg := if e.getLsbD 12 then a.flg ||| f else a.flg
  let flg := if e.getLsbD 13 then flg &&& ~~~f else flg
  ⟨enb, flg, e.extractLsb' 0 3⟩

/-- WRAPR (R1102). -/
def wrapr (e : VAddr) : M Unit := modS fun s => { s with apr := wraprApr e s.apr }

/-- The right half of the RDAPR word (R1104). -/
def aprStatus (s : State) : Half :=
  (s.apr.flg.setWidth 18 <<< 4) ||| (BitVec.ofBool s.apr.irq).setWidth 18 <<< 3 ||| s.apr.lvl.setWidth 18

/-- The RDAPR word (R1104). -/
def rdapr (s : State) : Word := xwd (s.apr.enb.setWidth 18 <<< 4) (aprStatus s)

/-- CONSZ: skip if no selected status bit is set (R1105, R1109). -/
def consz (status : State → Half) (e : VAddr) : M Unit := do
  let s ← getS
  skipIf ((status s &&& e) == 0)

/-- CONSO: skip if a selected status bit is set (R1106, R1110). -/
def conso (status : State → Half) (e : VAddr) : M Unit := do
  let s ← getS
  skipIf ((status s &&& e) != 0)

/-! ### PI (R1107 to R1110) -/

/-- WRPI: the actions in the order of R1107. -/
def wrpiPi (e : VAddr) (p : PiSys) : PiSys :=
  let lv : BitVec 7 := e.extractLsb' 0 7
  let p := if e.getLsbD 12 then { p with on := false, enb := 0, act := 0, prq := 0 } else p
  let prq := if e.getLsbD 11 then p.prq ||| lv else p.prq
  let prq := if e.getLsbD 13 then prq &&& ~~~lv else prq
  let enb := if e.getLsbD 10 then p.enb ||| lv else p.enb
  let enb := if e.getLsbD 9 then enb &&& ~~~lv else enb
  let on := if e.getLsbD 7 then true else p.on
  let on := if e.getLsbD 8 then false else on
  { p with on := on, enb := enb, prq := prq }

/-- WRPI (R1107). -/
def wrpi (e : VAddr) : M Unit := modS fun s => { s with pi := wrpiPi e s.pi }

/-- The right half of the RDPI word (R1108). -/
def piStatus (s : State) : Half :=
  (s.pi.act.setWidth 18 <<< 8) ||| ((BitVec.ofBool s.pi.on).setWidth 18 <<< 7) ||| s.pi.enb.setWidth 18

/-- The RDPI word (R1108). -/
def rdpi (s : State) : Word := xwd (s.pi.prq.setWidth 18) (piStatus s)

/-! ### Pager and processor registers (R1112 to R1144) -/

/-- CLRCSH: no memory cache is modelled (R1113, D23). -/
def clrcsh (_e : VAddr) : M Unit := pure ()

/-- CLRPT (R1115). -/
def clrpt (e : VAddr) : M Unit := modS fun s => s.invalidate (vpnOf e)

/-- WRUBR: SETACB loads the AC blocks, SETUBR the UPT page and empties the pager cache (R1116). -/
def wrubrSt (w : Word) (s : State) : State :=
  let s := if w.getLsbD 35 then
      { s with base := { s.base with ubr :=
        { s.base.ubr with cab := w.extractLsb' 27 3, pab := w.extractLsb' 24 3 } } }
    else s
  if w.getLsbD 33 then
    ({ s with base := { s.base with ubr :=
      { s.base.ubr with uptPg := s.pageNo w.toNat } } } : State).invalidateAll
  else s

/-- WREBR (R1118). -/
def wrebrSt (e : VAddr) (s : State) : State :=
  ({ s with base := { s.base with ebr := ⟨e.getLsbD 14, e.getLsbD 13, s.pageNo e.toNat⟩ } } : State).invalidateAll

/-- WREBR (R1118): E is the operand. -/
def wrebr (e : VAddr) : M Unit := modS (wrebrSt e)

/-- The RDEBR word: only the stored bits (R80, R1119). -/
def rdebr (s : State) : Word :=
  (BitVec.ofBool s.base.ebr.t20 ++ BitVec.ofBool s.base.ebr.pgon ++ s.base.ebr.eptPg : BitVec 15).setWidth 36

/-- The physical-address bits of a word, `[PA_WIDTH-1:0]` (D2). -/
def State.paBits (s : State) (w : Word) : BitVec 22 := s.physAddr w.toNat

/-- A change of the pager's control registers that empties the pager cache (R174, D9). -/
def setBase (f : BaseRegs → BaseRegs) (s : State) : State :=
  ({ s with base := f s.base } : State).invalidateAll

/-- RDTIM (R1128). -/
def rdtim (e : VAddr) : M Unit := do
  let s ← getS
  wrE2 e (s.timeBase.extractLsb' 36 36) (s.timeBase.extractLsb' 0 36)

/-- WRTIM (R1129): both reads first. -/
def wrtim (e : VAddr) : M Unit := do
  let b ← rdE2 e
  modS fun s => { s with timeBase := b.1 ++ b.2 }

/-- SPM (R1138, D43). -/
def spm (e : VAddr) : M Unit := do
  let s ← getS
  wrE2 e (s.base.dbr1.setWidth 36) (s.base.dbr2.setWidth 36)
  wrE2 (e + 2) 0 0

/-- LPMR (R1139, D43): all four reads before any change. -/
def lpmr (e : VAddr) : M Unit := do
  let b ← rdE2 e
  let _ ← rdE2 (e + 2)
  modS fun s => setBase (fun r => { r with dbr1 := s.paBits b.1, dbr2 := s.paBits b.2 }) s

/-! ### Previous-context moves (R1145, R1146) -/

/-- UMOVE (R1145). -/
def umove (ac : AcNum) (e : VAddr) : M Unit := do
  let w ← vread .prev e
  putAc ac w

/-- UMOVEM (R1146). -/
def umovem (ac : AcNum) (e : VAddr) : M Unit := do
  let a ← getAc ac
  vwrite .prev e a

/-! ### The I/O bus instructions (R1150 to R1176) -/

/-- Where a bus instruction addresses the bus (R1148, R1165). -/
inductive IoAddr where
  /-- `ioea(inst)`. -/
  | plain
  /-- Controller `ITS_IO_CTL_I`, register E. -/
  | formI
  /-- Controller `ITS_IO_CTL_Q`, register E. -/
  | formQ
  deriving DecidableEq, Repr

/-- The I/O address (R1148, R1165). -/
def IoAddr.get (k : IoAddr) (m : EaField) (e : VAddr) : M (BitVec 22) := fun s =>
  match k with
  | .plain => ioea m e s
  | .formI => .ok (s.cfg.ioCtlI ++ e) s
  | .formQ => .ok (s.cfg.ioCtlQ ++ e) s

/-- The bits of a word an operation of a width sees: all, or the low 8 (R1158, R1161). -/
def ioBits (size : IoSize) (w : Word) : Word := if size = .byte then w &&& 0o377 else w

/-- TIOE, TION and their byte forms: skip on the masked value (R1150, R1151, R1158, R1159). -/
def ioTest (size : IoSize) (onZero : Bool) (ac : AcNum) (m : EaField) (e : VAddr) : M Unit := do
  let a ← IoAddr.plain.get m e
  let v ← readIo a size
  let w ← getAc ac
  skipIf ((v &&& ioBits size w == 0) == onZero)

/-- RDIO, IORD and their forms (R1152, R1160, R1165 to R1167, R1171 to R1173). -/
def ioRead (k : IoAddr) (size : IoSize) (ac : AcNum) (m : EaField) (e : VAddr) : M Unit := do
  let a ← k.get m e
  let v ← readIo a size
  putAc ac v

/-- WRIO, IOWR and their forms (R1153, R1161, R1168 to R1170, R1174 to R1176). -/
def ioWrite (k : IoAddr) (size : IoSize) (ac : AcNum) (m : EaField) (e : VAddr) : M Unit := do
  let a ← k.get m e
  let w ← getAc ac
  writeIo a (ioBits size w) size

/-- BSIO, BCIO and their byte forms: one read, one write (R1154, R1155, R1162, R1163). -/
def ioModify (f : Word → Word → Word) (size : IoSize) (ac : AcNum) (m : EaField) (e : VAddr) : M Unit := do
  let a ← IoAddr.plain.get m e
  let v ← readIo a size
  let w ← getAc ac
  writeIo a (ioBits size (f v w)) size

/-- The 8 bits of a word from a place up, moved to another place. -/
def moveByte (w : Word) (src dst : Nat) : Word := (w.extractLsb' src 8).setWidth 36 <<< dst

/-- `byte_to_ub(w)` (R1156, D40). -/
def byteToUb (c : Config) (w : Word) : Word :=
  moveByte w 28 c.unibusMap.b0 ||| moveByte w 20 c.unibusMap.b1 ||| moveByte w 12 c.unibusMap.b2 |||
    moveByte w 4 c.unibusMap.b3

/-- `ub_to_byte(w)` (R1157, D40). -/
def ubToByte (c : Config) (w : Word) : Word :=
  moveByte w c.unibusMap.b0 28 ||| moveByte w c.unibusMap.b1 20 ||| moveByte w c.unibusMap.b2 12 |||
    moveByte w c.unibusMap.b3 4

/-! ### The instructions -/

/-- APRID (R1101). -/
def execAprid (m : EaField) (s : State) : Out := finish (ioOp 0o700 0o0 m (storeReg aprid)) s

/-- WRAPR (R1102). -/
def execWrapr (m : EaField) (s : State) : Out := finish (ioOp 0o700 0o4 m wrapr) s

/-- RDAPR (R1104). -/
def execRdapr (m : EaField) (s : State) : Out := finish (ioOp 0o700 0o5 m (storeReg rdapr)) s

/-- CONSZAPR (R1105). -/
def execConszapr (m : EaField) (s : State) : Out := finish (ioOp 0o700 0o6 m (consz aprStatus)) s

/-- CONSOAPR (R1106). -/
def execConsoapr (m : EaField) (s : State) : Out := finish (ioOp 0o700 0o7 m (conso aprStatus)) s

/-- WRPI (R1107). -/
def execWrpi (m : EaField) (s : State) : Out := finish (ioOp 0o700 0o14 m wrpi) s

/-- RDPI (R1108). -/
def execRdpi (m : EaField) (s : State) : Out := finish (ioOp 0o700 0o15 m (storeReg rdpi)) s

/-- CONSZPI (R1109). -/
def execConszpi (m : EaField) (s : State) : Out := finish (ioOp 0o700 0o16 m (consz piStatus)) s

/-- CONSOPI (R1110). -/
def execConsopi (m : EaField) (s : State) : Out := finish (ioOp 0o700 0o17 m (conso piStatus)) s

/-- CLRCSH (R1113). -/
def execClrcsh (m : EaField) (s : State) : Out := finish (gatedIo true 0o701 0o0 m clrcsh) s

/-- RDUBR (R1114). -/
def execRdubr (m : EaField) (s : State) : Out := finish (ioOp 0o701 0o1 m (storeReg State.ubrWord)) s

/-- CLRPT (R1115). -/
def execClrpt (m : EaField) (s : State) : Out := finish (ioOp 0o701 0o2 m clrpt) s

/-- WRUBR (R1116). -/
def execWrubr (m : EaField) (s : State) : Out := finish (ioOp 0o701 0o3 m (loadReg wrubrSt)) s

/-- WREBR (R1118). -/
def execWrebr (m : EaField) (s : State) : Out := finish (ioOp 0o701 0o4 m wrebr) s

/-- RDEBR (R1119). -/
def execRdebr (m : EaField) (s : State) : Out := finish (ioOp 0o701 0o5 m (storeReg rdebr)) s

/-- RDSPB (R1120). -/
def execRdspb (m : EaField) (s : State) : Out :=
  finish (gatedIo false 0o702 0o0 m (storeReg fun s => s.base.spb.setWidth 36)) s

/-- RDCSB (R1121). -/
def execRdcsb (m : EaField) (s : State) : Out :=
  finish (gatedIo false 0o702 0o1 m (storeReg fun s => s.base.csb.setWidth 36)) s

/-- RDPUR (R1122). -/
def execRdpur (m : EaField) (s : State) : Out := finish (gatedIo false 0o702 0o2 m (storeReg fun s => s.base.pur)) s

/-- RDCSTM (R1123). -/
def execRdcstm (m : EaField) (s : State) : Out := finish (gatedIo false 0o702 0o3 m (storeReg fun s => s.base.cstm)) s

/-- WRSPB (R1124). -/
def execWrspb (m : EaField) (s : State) : Out :=
  finish (gatedIo false 0o702 0o10 m (loadReg fun w s => setBase (fun r => { r with spb := s.paBits w }) s)) s

/-- WRCSB (R1125). -/
def execWrcsb (m : EaField) (s : State) : Out :=
  finish (gatedIo false 0o702 0o11 m (loadReg fun w s => setBase (fun r => { r with csb := s.paBits w }) s)) s

/-- WRPUR (R1126). -/
def execWrpur (m : EaField) (s : State) : Out :=
  finish (gatedIo false 0o702 0o12 m (loadReg fun w => setBase fun r => { r with pur := w })) s

/-- WRCSTM (R1127). -/
def execWrcstm (m : EaField) (s : State) : Out :=
  finish (gatedIo false 0o702 0o13 m (loadReg fun w => setBase fun r => { r with cstm := w })) s

/-- RDTIM (R1128). -/
def execRdtim (m : EaField) (s : State) : Out := finish (ioOp 0o702 0o4 m rdtim) s

/-- WRTIM (R1129). -/
def execWrtim (m : EaField) (s : State) : Out := finish (ioOp 0o702 0o14 m wrtim) s

/-- SDBR1 (R1130). -/
def execSdbr1 (m : EaField) (s : State) : Out :=
  finish (gatedIo true 0o702 0o0 m (storeReg fun s => s.base.dbr1.setWidth 36)) s

/-- SDBR2 (R1131). -/
def execSdbr2 (m : EaField) (s : State) : Out :=
  finish (gatedIo true 0o702 0o1 m (storeReg fun s => s.base.dbr2.setWidth 36)) s

/-- SDBR3 (R1132). -/
def execSdbr3 (m : EaField) (s : State) : Out :=
  finish (gatedIo true 0o702 0o2 m (storeReg fun s => s.base.dbr3.setWidth 36)) s

/-- SDBR4 (R1133). -/
def execSdbr4 (m : EaField) (s : State) : Out :=
  finish (gatedIo true 0o702 0o3 m (storeReg fun s => s.base.dbr4.setWidth 36)) s

/-- LDBR1 (R1134). -/
def execLdbr1 (m : EaField) (s : State) : Out :=
  finish (gatedIo true 0o702 0o10 m (loadReg fun w s => setBase (fun r => { r with dbr1 := s.paBits w }) s)) s

/-- LDBR2 (R1135). -/
def execLdbr2 (m : EaField) (s : State) : Out :=
  finish (gatedIo true 0o702 0o11 m (loadReg fun w s => setBase (fun r => { r with dbr2 := s.paBits w }) s)) s

/-- LDBR3 (R1136). -/
def execLdbr3 (m : EaField) (s : State) : Out :=
  finish (gatedIo true 0o702 0o12 m (loadReg fun w s => setBase (fun r => { r with dbr3 := s.paBits w }) s)) s

/-- LDBR4 (R1137). -/
def execLdbr4 (m : EaField) (s : State) : Out :=
  finish (gatedIo true 0o702 0o13 m (loadReg fun w s => setBase (fun r => { r with dbr4 := s.paBits w }) s)) s

/-- SPM (R1138). -/
def execSpm (m : EaField) (s : State) : Out := finish (gatedIo true 0o702 0o7 m spm) s

/-- LPMR (R1139). -/
def execLpmr (m : EaField) (s : State) : Out := finish (gatedIo true 0o702 0o17 m lpmr) s

/-- RDINT (R1141). -/
def execRdint (m : EaField) (s : State) : Out := finish (ioOp 0o702 0o5 m (storeReg fun s => s.interval)) s

/-- WRINT (R1142). -/
def execWrint (m : EaField) (s : State) : Out :=
  finish (ioOp 0o702 0o15 m (loadReg fun w s => { s with interval := w })) s

/-- RDHSB (R1143). -/
def execRdhsb (m : EaField) (s : State) : Out := finish (ioOp 0o702 0o6 m (storeReg fun s => s.base.hsb.setWidth 36)) s

/-- WRHSB (R1144). -/
def execWrhsb (m : EaField) (s : State) : Out :=
  finish (ioOp 0o702 0o16 m (loadReg fun w s => { s with base := { s.base with hsb := s.paBits w } })) s

/-- UMOVE (R1145). -/
def execUmove (ac : AcNum) (m : EaField) (s : State) : Out := finish (ioOp 0o704 ac m (umove ac)) s

/-- UMOVEM (R1146). -/
def execUmovem (ac : AcNum) (m : EaField) (s : State) : Out := finish (ioOp 0o705 ac m (umovem ac)) s

/-- TIOE (R1150). -/
def execTioe (ac : AcNum) (m : EaField) (s : State) : Out :=
  finish (gatedIo false 0o710 ac m (ioTest .word true ac m)) s

/-- TION (R1151). -/
def execTion (ac : AcNum) (m : EaField) (s : State) : Out :=
  finish (gatedIo false 0o711 ac m (ioTest .word false ac m)) s

/-- RDIO (R1152). -/
def execRdio (ac : AcNum) (m : EaField) (s : State) : Out :=
  finish (gatedIo false 0o712 ac m (ioRead .plain .word ac m)) s

/-- WRIO (R1153). -/
def execWrio (ac : AcNum) (m : EaField) (s : State) : Out :=
  finish (gatedIo false 0o713 ac m (ioWrite .plain .word ac m)) s

/-- BSIO (R1154). -/
def execBsio (ac : AcNum) (m : EaField) (s : State) : Out :=
  finish (gatedIo false 0o714 ac m (ioModify (fun v a => v ||| a) .word ac m)) s

/-- BCIO (R1155). -/
def execBcio (ac : AcNum) (m : EaField) (s : State) : Out :=
  finish (gatedIo false 0o715 ac m (ioModify (fun v a => v &&& ~~~a) .word ac m)) s

/-- TIOEB (R1158). -/
def execTioeb (ac : AcNum) (m : EaField) (s : State) : Out :=
  finish (gatedIo false 0o720 ac m (ioTest .byte true ac m)) s

/-- TIONB (R1159). -/
def execTionb (ac : AcNum) (m : EaField) (s : State) : Out :=
  finish (gatedIo false 0o721 ac m (ioTest .byte false ac m)) s

/-- RDIOB (R1160). -/
def execRdiob (ac : AcNum) (m : EaField) (s : State) : Out :=
  finish (gatedIo false 0o722 ac m (ioRead .plain .byte ac m)) s

/-- WRIOB (R1161). -/
def execWriob (ac : AcNum) (m : EaField) (s : State) : Out :=
  finish (gatedIo false 0o723 ac m (ioWrite .plain .byte ac m)) s

/-- BSIOB (R1162). -/
def execBsiob (ac : AcNum) (m : EaField) (s : State) : Out :=
  finish (gatedIo false 0o724 ac m (ioModify (fun v a => v ||| a) .byte ac m)) s

/-- BCIOB (R1163). -/
def execBciob (ac : AcNum) (m : EaField) (s : State) : Out :=
  finish (gatedIo false 0o725 ac m (ioModify (fun v a => v &&& ~~~a) .byte ac m)) s

/-- BLTBU (R1156). -/
def execBltbu (ac : AcNum) (m : EaField) (s : State) : Out := finish (ioOp 0o716 ac m (bltOp (byteToUb s.cfg) ac)) s

/-- BLTUB (R1157). -/
def execBltub (ac : AcNum) (m : EaField) (s : State) : Out := finish (ioOp 0o717 ac m (bltOp (ubToByte s.cfg) ac)) s

/-- IORDI (R1165). -/
def execIordi (ac : AcNum) (m : EaField) (s : State) : Out :=
  finish (gatedIo true 0o710 ac m (ioRead .formI .word ac m)) s

/-- IOWRI (R1169). -/
def execIowri (ac : AcNum) (m : EaField) (s : State) : Out :=
  finish (gatedIo true 0o714 ac m (ioWrite .formI .word ac m)) s

/-- IORDQ (R1166). -/
def execIordq (ac : AcNum) (m : EaField) (s : State) : Out :=
  finish (gatedIo true 0o711 ac m (ioRead .formQ .word ac m)) s

/-- IOWRQ (R1170). -/
def execIowrq (ac : AcNum) (m : EaField) (s : State) : Out :=
  finish (gatedIo true 0o715 ac m (ioWrite .formQ .word ac m)) s

/-- IORD (R1167). -/
def execIord (ac : AcNum) (m : EaField) (s : State) : Out :=
  finish (gatedIo true 0o712 ac m (ioRead .plain .word ac m)) s

/-- IOWR (R1168). -/
def execIowr (ac : AcNum) (m : EaField) (s : State) : Out :=
  finish (gatedIo true 0o713 ac m (ioWrite .plain .word ac m)) s

/-- IORDBI (R1171). -/
def execIordbi (ac : AcNum) (m : EaField) (s : State) : Out :=
  finish (gatedIo true 0o720 ac m (ioRead .formI .byte ac m)) s

/-- IOWRBI (R1175). -/
def execIowrbi (ac : AcNum) (m : EaField) (s : State) : Out :=
  finish (gatedIo true 0o724 ac m (ioWrite .formI .byte ac m)) s

/-- IORDBQ (R1172). -/
def execIordbq (ac : AcNum) (m : EaField) (s : State) : Out :=
  finish (gatedIo true 0o721 ac m (ioRead .formQ .byte ac m)) s

/-- IOWRBQ (R1176). -/
def execIowrbq (ac : AcNum) (m : EaField) (s : State) : Out :=
  finish (gatedIo true 0o725 ac m (ioWrite .formQ .byte ac m)) s

/-- IORDB (R1173). -/
def execIordb (ac : AcNum) (m : EaField) (s : State) : Out :=
  finish (gatedIo true 0o722 ac m (ioRead .plain .byte ac m)) s

/-- IOWRB (R1174). -/
def execIowrb (ac : AcNum) (m : EaField) (s : State) : Out :=
  finish (gatedIo true 0o723 ac m (ioWrite .plain .byte ac m)) s

end Sys2Proof.Machine
end

