-- ==== Sys2Proof/Machine/MoveArith.lean ====
section
/-! DEFINITION. Full-word moves and single-word integer arithmetic, 0o200-0o237 and 0o270-0o277 (44_move_arith.md). -/

namespace Sys2Proof.Machine

open Sys2Proof

/-! ### Multiplication and division (R620, R629) -/

/-- `imul(a, b)` (R620). -/
def imul36 (a b : Word) : WordFlags :=
  let p := signed a * signed b
  if a = signWord ∧ b = signWord then ⟨signWord, overflowFlags⟩
  else if p < -2 ^ 35 ∨ 2 ^ 35 ≤ p then ⟨withSign (p < 0) (wordOfInt p), overflowFlags⟩
  else ⟨wordOfInt p, Flags.zero⟩

/-- `mul(a, b)` (R620). -/
def mul72 (a b : Word) : PairFlags :=
  let p := signed a * signed b
  if a = signWord ∧ b = signWord then ⟨signWord, signWord, overflowFlags⟩
  else ⟨wordOfInt (p / 2 ^ 35), withSign (p < 0) (wordOfInt p), Flags.zero⟩

/-- `idiv(a, b)`: quotient and remainder, `none` for no divide; MAXNEG by -1 is `IDIV_MAXNEG_M1` (R629, D28). -/
def idiv36 (c : Config) (a b : Word) : Option (Word × Word) :=
  if b = 0 then none
  else if a = signWord ∧ b = ones then c.idivMaxnegM1
  else
    let q := (signed a).tdiv (signed b)
    some (wordOfInt q, wordOfInt (signed a - q * signed b))

/-- `div(hi, lo, b)`: no divide by the test of R629 on the magnitude of the whole dividend. The corner note of R634, on the
high word alone, says otherwise where the high word is minus the divisor's magnitude and the low word not 0, as for hi = -3,
lo = 1, b = 3; the model divides there: DEDUCED, log entry 49. -/
def div72 (_c : Config) (hi lo b : Word) : Option (Word × Word) :=
  let n := dval hi lo
  if (signed b).natAbs * 2 ^ 35 ≤ n.natAbs then none
  else
    let q := n.tdiv (signed b)
    some (wordOfInt q, wordOfInt (n - q * signed b))

/-- The immediate operand 0,,E as an operand fetch (R320). -/
def immOperand (e : VAddr) : M Word := pure (immR e)

/-- MUL in a form that stores the high word in memory, both words in the accumulators, or both (R625 to R628). -/
def mulOp (operand : VAddr → M Word) (toMem toAc : Bool) (ac : AcNum) (m : EaField) : M Unit := do
  let e ← ea m
  let b ← operand e
  let a ← getAc ac
  let r := mul72 a b
  onlyIf toMem (wrE e r.hi)
  onlyIf toAc (putAc2 ac r.hi r.lo)
  setFlags r.flags

/-- IDIV and DIV in the same forms; a division not performed writes nothing (R601, R630 to R637). -/
def divOp (quot : Config → Word → Word → Word → Option (Word × Word)) (operand : VAddr → M Word) (toMem toAc : Bool)
    (ac : AcNum) (m : EaField) : M Unit := do
  let e ← ea m
  let b ← operand e
  let a ← getAc ac
  let lo ← getAc (ac + 1)
  let s ← getS
  match quot s.cfg a lo b with
  | none => setFlags noDivideFlags
  | some (q, r) => do
    onlyIf toMem (wrE e q)
    onlyIf toAc (putAc2 ac q r)

/-- The quotient function of IDIV, which ignores AC+1 (R630). -/
def idivQuot (c : Config) (a _lo b : Word) : Option (Word × Word) := idiv36 c a b

/-! ### The instructions -/

/-- MOVE (R604). -/
def execMove (ac : AcNum) (m : EaField) (s : State) : Out := finish (acFromMem (fun _ w => w) ac m) s

/-- MOVEI (R605). -/
def execMovei (ac : AcNum) (m : EaField) (s : State) : Out := finish (acFromImm (fun _ w => w) ac m) s

/-- MOVEM (R606). -/
def execMovem (ac : AcNum) (m : EaField) (s : State) : Out := finish (memFromAc (fun a => a) ac m) s

/-- MOVES (R607). -/
def execMoves (ac : AcNum) (m : EaField) (s : State) : Out := finish (selfRmw (fun w => w) ac m) s

/-- MOVS (R608). -/
def execMovs (ac : AcNum) (m : EaField) (s : State) : Out := finish (acFromMem (fun _ w => swapHalves w) ac m) s

/-- MOVSI (R609). -/
def execMovsi (ac : AcNum) (m : EaField) (s : State) : Out := finish (acFromImm (fun _ w => swapHalves w) ac m) s

/-- MOVSM (R610). -/
def execMovsm (ac : AcNum) (m : EaField) (s : State) : Out := finish (memFromAc swapHalves ac m) s

/-- MOVSS (R611). -/
def execMovss (ac : AcNum) (m : EaField) (s : State) : Out := finish (selfRmw swapHalves ac m) s

/-- MOVN (R612). -/
def execMovn (ac : AcNum) (m : EaField) (s : State) : Out := finish (acFromMemF (fun _ w => neg36 w) ac m) s

/-- MOVNI (R613). -/
def execMovni (ac : AcNum) (m : EaField) (s : State) : Out := finish (acFromImmF immR (fun _ w => neg36 w) ac m) s

/-- MOVNM (R614). -/
def execMovnm (ac : AcNum) (m : EaField) (s : State) : Out := finish (memFromAcF neg36 ac m) s

/-- MOVNS (R615). -/
def execMovns (ac : AcNum) (m : EaField) (s : State) : Out := finish (selfRmwF neg36 ac m) s

/-- MOVM (R616). -/
def execMovm (ac : AcNum) (m : EaField) (s : State) : Out := finish (acFromMemF (fun _ w => mag36 w) ac m) s

/-- MOVMI (R617). -/
def execMovmi (ac : AcNum) (m : EaField) (s : State) : Out := finish (acFromImm (fun _ w => w) ac m) s

/-- MOVMM (R618). -/
def execMovmm (ac : AcNum) (m : EaField) (s : State) : Out := finish (memFromAcF mag36 ac m) s

/-- MOVMS (R619). -/
def execMovms (ac : AcNum) (m : EaField) (s : State) : Out := finish (selfRmwF mag36 ac m) s

/-- IMUL (R621). -/
def execImul (ac : AcNum) (m : EaField) (s : State) : Out := finish (acFromMemF imul36 ac m) s

/-- IMULI (R622). -/
def execImuli (ac : AcNum) (m : EaField) (s : State) : Out := finish (acFromImmF immR imul36 ac m) s

/-- IMULM (R623). -/
def execImulm (ac : AcNum) (m : EaField) (s : State) : Out := finish (memRmwF imul36 ac m) s

/-- IMULB (R624). -/
def execImulb (ac : AcNum) (m : EaField) (s : State) : Out := finish (bothRmwF imul36 ac m) s

/-- MUL (R625). -/
def execMul (ac : AcNum) (m : EaField) (s : State) : Out := finish (mulOp rdE false true ac m) s

/-- MULI (R626). -/
def execMuli (ac : AcNum) (m : EaField) (s : State) : Out := finish (mulOp immOperand false true ac m) s

/-- MULM (R627). -/
def execMulm (ac : AcNum) (m : EaField) (s : State) : Out := finish (mulOp rdmE true false ac m) s

/-- MULB (R628). -/
def execMulb (ac : AcNum) (m : EaField) (s : State) : Out := finish (mulOp rdmE true true ac m) s

/-- IDIV (R630). -/
def execIdiv (ac : AcNum) (m : EaField) (s : State) : Out := finish (divOp idivQuot rdE false true ac m) s

/-- IDIVI (R631). -/
def execIdivi (ac : AcNum) (m : EaField) (s : State) : Out := finish (divOp idivQuot immOperand false true ac m) s

/-- IDIVM (R632). -/
def execIdivm (ac : AcNum) (m : EaField) (s : State) : Out := finish (divOp idivQuot rdmE true false ac m) s

/-- IDIVB (R633). -/
def execIdivb (ac : AcNum) (m : EaField) (s : State) : Out := finish (divOp idivQuot rdmE true true ac m) s

/-- DIV (R634). -/
def execDiv (ac : AcNum) (m : EaField) (s : State) : Out := finish (divOp div72 rdE false true ac m) s

/-- DIVI (R635). -/
def execDivi (ac : AcNum) (m : EaField) (s : State) : Out := finish (divOp div72 immOperand false true ac m) s

/-- DIVM (R636). -/
def execDivm (ac : AcNum) (m : EaField) (s : State) : Out := finish (divOp div72 rdmE true false ac m) s

/-- DIVB (R637). -/
def execDivb (ac : AcNum) (m : EaField) (s : State) : Out := finish (divOp div72 rdmE true true ac m) s

/-- ADD (R638). -/
def execAdd (ac : AcNum) (m : EaField) (s : State) : Out := finish (acFromMemF (fun a w => add36 a w false) ac m) s

/-- ADDI (R639). -/
def execAddi (ac : AcNum) (m : EaField) (s : State) : Out :=
  finish (acFromImmF immR (fun a w => add36 a w false) ac m) s

/-- ADDM (R640). -/
def execAddm (ac : AcNum) (m : EaField) (s : State) : Out := finish (memRmwF (fun a w => add36 a w false) ac m) s

/-- ADDB (R641). -/
def execAddb (ac : AcNum) (m : EaField) (s : State) : Out := finish (bothRmwF (fun a w => add36 a w false) ac m) s

/-- SUB (R642). -/
def execSub (ac : AcNum) (m : EaField) (s : State) : Out := finish (acFromMemF sub36 ac m) s

/-- SUBI (R643). -/
def execSubi (ac : AcNum) (m : EaField) (s : State) : Out := finish (acFromImmF immR sub36 ac m) s

/-- SUBM (R644). -/
def execSubm (ac : AcNum) (m : EaField) (s : State) : Out := finish (memRmwF sub36 ac m) s

/-- SUBB (R645). -/
def execSubb (ac : AcNum) (m : EaField) (s : State) : Out := finish (bothRmwF sub36 ac m) s

end Sys2Proof.Machine
end

