-- ==== Sys2Proof/Machine/Dispatch.lean ====
section
/-! DEFINITION. The dispatch of an instruction to its meaning (30_encoding.md rule R330). -/

namespace Sys2Proof.Machine

open Sys2Proof

/-- Execute one instruction whose words have been fetched (R330). -/
def exec (i : Instr) (s : State) : Host.Outcome State Fault Refusal :=
  match i with
  | .muuo op ac m => Sys2Proof.Machine.execMuuo op ac m s
  | .luuo01 ac m => Sys2Proof.Machine.execLuuo01 ac m s
  | .luuo02 ac m => Sys2Proof.Machine.execLuuo02 ac m s
  | .luuo03 ac m => Sys2Proof.Machine.execLuuo03 ac m s
  | .luuo04 ac m => Sys2Proof.Machine.execLuuo04 ac m s
  | .luuo05 ac m => Sys2Proof.Machine.execLuuo05 ac m s
  | .luuo06 ac m => Sys2Proof.Machine.execLuuo06 ac m s
  | .luuo07 ac m => Sys2Proof.Machine.execLuuo07 ac m s
  | .luuo10 ac m => Sys2Proof.Machine.execLuuo10 ac m s
  | .luuo11 ac m => Sys2Proof.Machine.execLuuo11 ac m s
  | .luuo12 ac m => Sys2Proof.Machine.execLuuo12 ac m s
  | .luuo13 ac m => Sys2Proof.Machine.execLuuo13 ac m s
  | .luuo14 ac m => Sys2Proof.Machine.execLuuo14 ac m s
  | .luuo15 ac m => Sys2Proof.Machine.execLuuo15 ac m s
  | .luuo16 ac m => Sys2Proof.Machine.execLuuo16 ac m s
  | .luuo17 ac m => Sys2Proof.Machine.execLuuo17 ac m s
  | .luuo20 ac m => Sys2Proof.Machine.execLuuo20 ac m s
  | .luuo21 ac m => Sys2Proof.Machine.execLuuo21 ac m s
  | .luuo22 ac m => Sys2Proof.Machine.execLuuo22 ac m s
  | .luuo23 ac m => Sys2Proof.Machine.execLuuo23 ac m s
  | .luuo24 ac m => Sys2Proof.Machine.execLuuo24 ac m s
  | .luuo25 ac m => Sys2Proof.Machine.execLuuo25 ac m s
  | .luuo26 ac m => Sys2Proof.Machine.execLuuo26 ac m s
  | .luuo27 ac m => Sys2Proof.Machine.execLuuo27 ac m s
  | .luuo30 ac m => Sys2Proof.Machine.execLuuo30 ac m s
  | .luuo31 ac m => Sys2Proof.Machine.execLuuo31 ac m s
  | .luuo32 ac m => Sys2Proof.Machine.execLuuo32 ac m s
  | .luuo33 ac m => Sys2Proof.Machine.execLuuo33 ac m s
  | .luuo34 ac m => Sys2Proof.Machine.execLuuo34 ac m s
  | .luuo35 ac m => Sys2Proof.Machine.execLuuo35 ac m s
  | .luuo36 ac m => Sys2Proof.Machine.execLuuo36 ac m s
  | .luuo37 ac m => Sys2Proof.Machine.execLuuo37 ac m s
  | .xctri ac m => Sys2Proof.Machine.execXctri ac m s
  | .xctr ac m => Sys2Proof.Machine.execXctr ac m s
  | .adjsp ac m => Sys2Proof.Machine.execAdjsp ac m s
  | .dfad ac m => Sys2Proof.Machine.execDfad ac m s
  | .dfsb ac m => Sys2Proof.Machine.execDfsb ac m s
  | .dfmp ac m => Sys2Proof.Machine.execDfmp ac m s
  | .dfdv ac m => Sys2Proof.Machine.execDfdv ac m s
  | .dadd ac m => Sys2Proof.Machine.execDadd ac m s
  | .dsub ac m => Sys2Proof.Machine.execDsub ac m s
  | .dmul ac m => Sys2Proof.Machine.execDmul ac m s
  | .ddiv ac m => Sys2Proof.Machine.execDdiv ac m s
  | .dmove ac m => Sys2Proof.Machine.execDmove ac m s
  | .dmovn ac m => Sys2Proof.Machine.execDmovn ac m s
  | .fix ac m => Sys2Proof.Machine.execFix ac m s
  | .extend ac m => Sys2Proof.Machine.execExtend ac m s
  | .dmovem ac m => Sys2Proof.Machine.execDmovem ac m s
  | .dmovnm ac m => Sys2Proof.Machine.execDmovnm ac m s
  | .fixr ac m => Sys2Proof.Machine.execFixr ac m s
  | .fltr ac m => Sys2Proof.Machine.execFltr ac m s
  | .fsc ac m => Sys2Proof.Machine.execFsc ac m s
  | .ibp m => Sys2Proof.Machine.execIbp m s
  | .adjbp ac m => Sys2Proof.Machine.execAdjbp ac m s
  | .ildb ac m => Sys2Proof.Machine.execIldb ac m s
  | .ldb ac m => Sys2Proof.Machine.execLdb ac m s
  | .idpb ac m => Sys2Proof.Machine.execIdpb ac m s
  | .dpb ac m => Sys2Proof.Machine.execDpb ac m s
  | .fad ac m => Sys2Proof.Machine.execFad ac m s
  | .fadm ac m => Sys2Proof.Machine.execFadm ac m s
  | .fadb ac m => Sys2Proof.Machine.execFadb ac m s
  | .fadr ac m => Sys2Proof.Machine.execFadr ac m s
  | .fadri ac m => Sys2Proof.Machine.execFadri ac m s
  | .fadrm ac m => Sys2Proof.Machine.execFadrm ac m s
  | .fadrb ac m => Sys2Proof.Machine.execFadrb ac m s
  | .fsb ac m => Sys2Proof.Machine.execFsb ac m s
  | .fsbm ac m => Sys2Proof.Machine.execFsbm ac m s
  | .fsbb ac m => Sys2Proof.Machine.execFsbb ac m s
  | .fsbr ac m => Sys2Proof.Machine.execFsbr ac m s
  | .fsbri ac m => Sys2Proof.Machine.execFsbri ac m s
  | .fsbrm ac m => Sys2Proof.Machine.execFsbrm ac m s
  | .fsbrb ac m => Sys2Proof.Machine.execFsbrb ac m s
  | .fmp ac m => Sys2Proof.Machine.execFmp ac m s
  | .fmpm ac m => Sys2Proof.Machine.execFmpm ac m s
  | .fmpb ac m => Sys2Proof.Machine.execFmpb ac m s
  | .fmpr ac m => Sys2Proof.Machine.execFmpr ac m s
  | .fmpri ac m => Sys2Proof.Machine.execFmpri ac m s
  | .fmprm ac m => Sys2Proof.Machine.execFmprm ac m s
  | .fmprb ac m => Sys2Proof.Machine.execFmprb ac m s
  | .fdv ac m => Sys2Proof.Machine.execFdv ac m s
  | .fdvm ac m => Sys2Proof.Machine.execFdvm ac m s
  | .fdvb ac m => Sys2Proof.Machine.execFdvb ac m s
  | .fdvr ac m => Sys2Proof.Machine.execFdvr ac m s
  | .fdvri ac m => Sys2Proof.Machine.execFdvri ac m s
  | .fdvrm ac m => Sys2Proof.Machine.execFdvrm ac m s
  | .fdvrb ac m => Sys2Proof.Machine.execFdvrb ac m s
  | .move ac m => Sys2Proof.Machine.execMove ac m s
  | .movei ac m => Sys2Proof.Machine.execMovei ac m s
  | .movem ac m => Sys2Proof.Machine.execMovem ac m s
  | .moves ac m => Sys2Proof.Machine.execMoves ac m s
  | .movs ac m => Sys2Proof.Machine.execMovs ac m s
  | .movsi ac m => Sys2Proof.Machine.execMovsi ac m s
  | .movsm ac m => Sys2Proof.Machine.execMovsm ac m s
  | .movss ac m => Sys2Proof.Machine.execMovss ac m s
  | .movn ac m => Sys2Proof.Machine.execMovn ac m s
  | .movni ac m => Sys2Proof.Machine.execMovni ac m s
  | .movnm ac m => Sys2Proof.Machine.execMovnm ac m s
  | .movns ac m => Sys2Proof.Machine.execMovns ac m s
  | .movm ac m => Sys2Proof.Machine.execMovm ac m s
  | .movmi ac m => Sys2Proof.Machine.execMovmi ac m s
  | .movmm ac m => Sys2Proof.Machine.execMovmm ac m s
  | .movms ac m => Sys2Proof.Machine.execMovms ac m s
  | .imul ac m => Sys2Proof.Machine.execImul ac m s
  | .imuli ac m => Sys2Proof.Machine.execImuli ac m s
  | .imulm ac m => Sys2Proof.Machine.execImulm ac m s
  | .imulb ac m => Sys2Proof.Machine.execImulb ac m s
  | .mul ac m => Sys2Proof.Machine.execMul ac m s
  | .muli ac m => Sys2Proof.Machine.execMuli ac m s
  | .mulm ac m => Sys2Proof.Machine.execMulm ac m s
  | .mulb ac m => Sys2Proof.Machine.execMulb ac m s
  | .idiv ac m => Sys2Proof.Machine.execIdiv ac m s
  | .idivi ac m => Sys2Proof.Machine.execIdivi ac m s
  | .idivm ac m => Sys2Proof.Machine.execIdivm ac m s
  | .idivb ac m => Sys2Proof.Machine.execIdivb ac m s
  | .div ac m => Sys2Proof.Machine.execDiv ac m s
  | .divi ac m => Sys2Proof.Machine.execDivi ac m s
  | .divm ac m => Sys2Proof.Machine.execDivm ac m s
  | .divb ac m => Sys2Proof.Machine.execDivb ac m s
  | .ash ac m => Sys2Proof.Machine.execAsh ac m s
  | .rot ac m => Sys2Proof.Machine.execRot ac m s
  | .lsh ac m => Sys2Proof.Machine.execLsh ac m s
  | .jffo ac m => Sys2Proof.Machine.execJffo ac m s
  | .ashc ac m => Sys2Proof.Machine.execAshc ac m s
  | .rotc ac m => Sys2Proof.Machine.execRotc ac m s
  | .lshc ac m => Sys2Proof.Machine.execLshc ac m s
  | .circ ac m => Sys2Proof.Machine.execCirc ac m s
  | .exch ac m => Sys2Proof.Machine.execExch ac m s
  | .blt ac m => Sys2Proof.Machine.execBlt ac m s
  | .aobjp ac m => Sys2Proof.Machine.execAobjp ac m s
  | .aobjn ac m => Sys2Proof.Machine.execAobjn ac m s
  | .jrst m => Sys2Proof.Machine.execJrst m s
  | .portal m => Sys2Proof.Machine.execPortal m s
  | .jrstf m => Sys2Proof.Machine.execJrstf m s
  | .halt m => Sys2Proof.Machine.execHalt m s
  | .xjrstf m => Sys2Proof.Machine.execXjrstf m s
  | .xjen m => Sys2Proof.Machine.execXjen m s
  | .xpcw m => Sys2Proof.Machine.execXpcw m s
  | .jrst10 m => Sys2Proof.Machine.execJrst10 m s
  | .jen m => Sys2Proof.Machine.execJen m s
  | .sfm m => Sys2Proof.Machine.execSfm m s
  | .xjrst m => Sys2Proof.Machine.execXjrst m s
  | .jfcl ac m => Sys2Proof.Machine.execJfcl ac m s
  | .xct m => Sys2Proof.Machine.execXct m s
  | .pxct ac m => Sys2Proof.Machine.execPxct ac m s
  | .map ac m => Sys2Proof.Machine.execMap ac m s
  | .pushj ac m => Sys2Proof.Machine.execPushj ac m s
  | .push ac m => Sys2Proof.Machine.execPush ac m s
  | .pop ac m => Sys2Proof.Machine.execPop ac m s
  | .popj ac m => Sys2Proof.Machine.execPopj ac m s
  | .jsr ac m => Sys2Proof.Machine.execJsr ac m s
  | .jsp ac m => Sys2Proof.Machine.execJsp ac m s
  | .jsa ac m => Sys2Proof.Machine.execJsa ac m s
  | .jra ac m => Sys2Proof.Machine.execJra ac m s
  | .add ac m => Sys2Proof.Machine.execAdd ac m s
  | .addi ac m => Sys2Proof.Machine.execAddi ac m s
  | .addm ac m => Sys2Proof.Machine.execAddm ac m s
  | .addb ac m => Sys2Proof.Machine.execAddb ac m s
  | .sub ac m => Sys2Proof.Machine.execSub ac m s
  | .subi ac m => Sys2Proof.Machine.execSubi ac m s
  | .subm ac m => Sys2Proof.Machine.execSubm ac m s
  | .subb ac m => Sys2Proof.Machine.execSubb ac m s
  | .cai ac m => Sys2Proof.Machine.execCai ac m s
  | .cail ac m => Sys2Proof.Machine.execCail ac m s
  | .caie ac m => Sys2Proof.Machine.execCaie ac m s
  | .caile ac m => Sys2Proof.Machine.execCaile ac m s
  | .caia ac m => Sys2Proof.Machine.execCaia ac m s
  | .caige ac m => Sys2Proof.Machine.execCaige ac m s
  | .cain ac m => Sys2Proof.Machine.execCain ac m s
  | .caig ac m => Sys2Proof.Machine.execCaig ac m s
  | .cam ac m => Sys2Proof.Machine.execCam ac m s
  | .caml ac m => Sys2Proof.Machine.execCaml ac m s
  | .came ac m => Sys2Proof.Machine.execCame ac m s
  | .camle ac m => Sys2Proof.Machine.execCamle ac m s
  | .cama ac m => Sys2Proof.Machine.execCama ac m s
  | .camge ac m => Sys2Proof.Machine.execCamge ac m s
  | .camn ac m => Sys2Proof.Machine.execCamn ac m s
  | .camg ac m => Sys2Proof.Machine.execCamg ac m s
  | .jump ac m => Sys2Proof.Machine.execJump ac m s
  | .jumpl ac m => Sys2Proof.Machine.execJumpl ac m s
  | .jumpe ac m => Sys2Proof.Machine.execJumpe ac m s
  | .jumple ac m => Sys2Proof.Machine.execJumple ac m s
  | .jumpa ac m => Sys2Proof.Machine.execJumpa ac m s
  | .jumpge ac m => Sys2Proof.Machine.execJumpge ac m s
  | .jumpn ac m => Sys2Proof.Machine.execJumpn ac m s
  | .jumpg ac m => Sys2Proof.Machine.execJumpg ac m s
  | .skip ac m => Sys2Proof.Machine.execSkip ac m s
  | .skipl ac m => Sys2Proof.Machine.execSkipl ac m s
  | .skipe ac m => Sys2Proof.Machine.execSkipe ac m s
  | .skiple ac m => Sys2Proof.Machine.execSkiple ac m s
  | .skipa ac m => Sys2Proof.Machine.execSkipa ac m s
  | .skipge ac m => Sys2Proof.Machine.execSkipge ac m s
  | .skipn ac m => Sys2Proof.Machine.execSkipn ac m s
  | .skipg ac m => Sys2Proof.Machine.execSkipg ac m s
  | .aoj ac m => Sys2Proof.Machine.execAoj ac m s
  | .aojl ac m => Sys2Proof.Machine.execAojl ac m s
  | .aoje ac m => Sys2Proof.Machine.execAoje ac m s
  | .aojle ac m => Sys2Proof.Machine.execAojle ac m s
  | .aoja ac m => Sys2Proof.Machine.execAoja ac m s
  | .aojge ac m => Sys2Proof.Machine.execAojge ac m s
  | .aojn ac m => Sys2Proof.Machine.execAojn ac m s
  | .aojg ac m => Sys2Proof.Machine.execAojg ac m s
  | .aos ac m => Sys2Proof.Machine.execAos ac m s
  | .aosl ac m => Sys2Proof.Machine.execAosl ac m s
  | .aose ac m => Sys2Proof.Machine.execAose ac m s
  | .aosle ac m => Sys2Proof.Machine.execAosle ac m s
  | .aosa ac m => Sys2Proof.Machine.execAosa ac m s
  | .aosge ac m => Sys2Proof.Machine.execAosge ac m s
  | .aosn ac m => Sys2Proof.Machine.execAosn ac m s
  | .aosg ac m => Sys2Proof.Machine.execAosg ac m s
  | .soj ac m => Sys2Proof.Machine.execSoj ac m s
  | .sojl ac m => Sys2Proof.Machine.execSojl ac m s
  | .soje ac m => Sys2Proof.Machine.execSoje ac m s
  | .sojle ac m => Sys2Proof.Machine.execSojle ac m s
  | .soja ac m => Sys2Proof.Machine.execSoja ac m s
  | .sojge ac m => Sys2Proof.Machine.execSojge ac m s
  | .sojn ac m => Sys2Proof.Machine.execSojn ac m s
  | .sojg ac m => Sys2Proof.Machine.execSojg ac m s
  | .sos ac m => Sys2Proof.Machine.execSos ac m s
  | .sosl ac m => Sys2Proof.Machine.execSosl ac m s
  | .sose ac m => Sys2Proof.Machine.execSose ac m s
  | .sosle ac m => Sys2Proof.Machine.execSosle ac m s
  | .sosa ac m => Sys2Proof.Machine.execSosa ac m s
  | .sosge ac m => Sys2Proof.Machine.execSosge ac m s
  | .sosn ac m => Sys2Proof.Machine.execSosn ac m s
  | .sosg ac m => Sys2Proof.Machine.execSosg ac m s
  | .setz ac m => Sys2Proof.Machine.execSetz ac m s
  | .setzi ac m => Sys2Proof.Machine.execSetzi ac m s
  | .setzm ac m => Sys2Proof.Machine.execSetzm ac m s
  | .setzb ac m => Sys2Proof.Machine.execSetzb ac m s
  | .and ac m => Sys2Proof.Machine.execAnd ac m s
  | .andi ac m => Sys2Proof.Machine.execAndi ac m s
  | .andm ac m => Sys2Proof.Machine.execAndm ac m s
  | .andb ac m => Sys2Proof.Machine.execAndb ac m s
  | .andca ac m => Sys2Proof.Machine.execAndca ac m s
  | .andcai ac m => Sys2Proof.Machine.execAndcai ac m s
  | .andcam ac m => Sys2Proof.Machine.execAndcam ac m s
  | .andcab ac m => Sys2Proof.Machine.execAndcab ac m s
  | .setm ac m => Sys2Proof.Machine.execSetm ac m s
  | .setmi ac m => Sys2Proof.Machine.execSetmi ac m s
  | .setmm ac m => Sys2Proof.Machine.execSetmm ac m s
  | .setmb ac m => Sys2Proof.Machine.execSetmb ac m s
  | .andcm ac m => Sys2Proof.Machine.execAndcm ac m s
  | .andcmi ac m => Sys2Proof.Machine.execAndcmi ac m s
  | .andcmm ac m => Sys2Proof.Machine.execAndcmm ac m s
  | .andcmb ac m => Sys2Proof.Machine.execAndcmb ac m s
  | .seta ac m => Sys2Proof.Machine.execSeta ac m s
  | .setai ac m => Sys2Proof.Machine.execSetai ac m s
  | .setam ac m => Sys2Proof.Machine.execSetam ac m s
  | .setab ac m => Sys2Proof.Machine.execSetab ac m s
  | .xor ac m => Sys2Proof.Machine.execXor ac m s
  | .xori ac m => Sys2Proof.Machine.execXori ac m s
  | .xorm ac m => Sys2Proof.Machine.execXorm ac m s
  | .xorb ac m => Sys2Proof.Machine.execXorb ac m s
  | .ior ac m => Sys2Proof.Machine.execIor ac m s
  | .iori ac m => Sys2Proof.Machine.execIori ac m s
  | .iorm ac m => Sys2Proof.Machine.execIorm ac m s
  | .iorb ac m => Sys2Proof.Machine.execIorb ac m s
  | .andcb ac m => Sys2Proof.Machine.execAndcb ac m s
  | .andcbi ac m => Sys2Proof.Machine.execAndcbi ac m s
  | .andcbm ac m => Sys2Proof.Machine.execAndcbm ac m s
  | .andcbb ac m => Sys2Proof.Machine.execAndcbb ac m s
  | .eqv ac m => Sys2Proof.Machine.execEqv ac m s
  | .eqvi ac m => Sys2Proof.Machine.execEqvi ac m s
  | .eqvm ac m => Sys2Proof.Machine.execEqvm ac m s
  | .eqvb ac m => Sys2Proof.Machine.execEqvb ac m s
  | .setca ac m => Sys2Proof.Machine.execSetca ac m s
  | .setcai ac m => Sys2Proof.Machine.execSetcai ac m s
  | .setcam ac m => Sys2Proof.Machine.execSetcam ac m s
  | .setcab ac m => Sys2Proof.Machine.execSetcab ac m s
  | .orca ac m => Sys2Proof.Machine.execOrca ac m s
  | .orcai ac m => Sys2Proof.Machine.execOrcai ac m s
  | .orcam ac m => Sys2Proof.Machine.execOrcam ac m s
  | .orcab ac m => Sys2Proof.Machine.execOrcab ac m s
  | .setcm ac m => Sys2Proof.Machine.execSetcm ac m s
  | .setcmi ac m => Sys2Proof.Machine.execSetcmi ac m s
  | .setcmm ac m => Sys2Proof.Machine.execSetcmm ac m s
  | .setcmb ac m => Sys2Proof.Machine.execSetcmb ac m s
  | .orcm ac m => Sys2Proof.Machine.execOrcm ac m s
  | .orcmi ac m => Sys2Proof.Machine.execOrcmi ac m s
  | .orcmm ac m => Sys2Proof.Machine.execOrcmm ac m s
  | .orcmb ac m => Sys2Proof.Machine.execOrcmb ac m s
  | .orcb ac m => Sys2Proof.Machine.execOrcb ac m s
  | .orcbi ac m => Sys2Proof.Machine.execOrcbi ac m s
  | .orcbm ac m => Sys2Proof.Machine.execOrcbm ac m s
  | .orcbb ac m => Sys2Proof.Machine.execOrcbb ac m s
  | .seto ac m => Sys2Proof.Machine.execSeto ac m s
  | .setoi ac m => Sys2Proof.Machine.execSetoi ac m s
  | .setom ac m => Sys2Proof.Machine.execSetom ac m s
  | .setob ac m => Sys2Proof.Machine.execSetob ac m s
  | .hll ac m => Sys2Proof.Machine.execHll ac m s
  | .hlli ac m => Sys2Proof.Machine.execHlli ac m s
  | .hllm ac m => Sys2Proof.Machine.execHllm ac m s
  | .hlls ac m => Sys2Proof.Machine.execHlls ac m s
  | .hrl ac m => Sys2Proof.Machine.execHrl ac m s
  | .hrli ac m => Sys2Proof.Machine.execHrli ac m s
  | .hrlm ac m => Sys2Proof.Machine.execHrlm ac m s
  | .hrls ac m => Sys2Proof.Machine.execHrls ac m s
  | .hllz ac m => Sys2Proof.Machine.execHllz ac m s
  | .hllzi ac m => Sys2Proof.Machine.execHllzi ac m s
  | .hllzm ac m => Sys2Proof.Machine.execHllzm ac m s
  | .hllzs ac m => Sys2Proof.Machine.execHllzs ac m s
  | .hrlz ac m => Sys2Proof.Machine.execHrlz ac m s
  | .hrlzi ac m => Sys2Proof.Machine.execHrlzi ac m s
  | .hrlzm ac m => Sys2Proof.Machine.execHrlzm ac m s
  | .hrlzs ac m => Sys2Proof.Machine.execHrlzs ac m s
  | .hllo ac m => Sys2Proof.Machine.execHllo ac m s
  | .hlloi ac m => Sys2Proof.Machine.execHlloi ac m s
  | .hllom ac m => Sys2Proof.Machine.execHllom ac m s
  | .hllos ac m => Sys2Proof.Machine.execHllos ac m s
  | .hrlo ac m => Sys2Proof.Machine.execHrlo ac m s
  | .hrloi ac m => Sys2Proof.Machine.execHrloi ac m s
  | .hrlom ac m => Sys2Proof.Machine.execHrlom ac m s
  | .hrlos ac m => Sys2Proof.Machine.execHrlos ac m s
  | .hlle ac m => Sys2Proof.Machine.execHlle ac m s
  | .hllei ac m => Sys2Proof.Machine.execHllei ac m s
  | .hllem ac m => Sys2Proof.Machine.execHllem ac m s
  | .hlles ac m => Sys2Proof.Machine.execHlles ac m s
  | .hrle ac m => Sys2Proof.Machine.execHrle ac m s
  | .hrlei ac m => Sys2Proof.Machine.execHrlei ac m s
  | .hrlem ac m => Sys2Proof.Machine.execHrlem ac m s
  | .hrles ac m => Sys2Proof.Machine.execHrles ac m s
  | .hrr ac m => Sys2Proof.Machine.execHrr ac m s
  | .hrri ac m => Sys2Proof.Machine.execHrri ac m s
  | .hrrm ac m => Sys2Proof.Machine.execHrrm ac m s
  | .hrrs ac m => Sys2Proof.Machine.execHrrs ac m s
  | .hlr ac m => Sys2Proof.Machine.execHlr ac m s
  | .hlri ac m => Sys2Proof.Machine.execHlri ac m s
  | .hlrm ac m => Sys2Proof.Machine.execHlrm ac m s
  | .hlrs ac m => Sys2Proof.Machine.execHlrs ac m s
  | .hrrz ac m => Sys2Proof.Machine.execHrrz ac m s
  | .hrrzi ac m => Sys2Proof.Machine.execHrrzi ac m s
  | .hrrzm ac m => Sys2Proof.Machine.execHrrzm ac m s
  | .hrrzs ac m => Sys2Proof.Machine.execHrrzs ac m s
  | .hlrz ac m => Sys2Proof.Machine.execHlrz ac m s
  | .hlrzi ac m => Sys2Proof.Machine.execHlrzi ac m s
  | .hlrzm ac m => Sys2Proof.Machine.execHlrzm ac m s
  | .hlrzs ac m => Sys2Proof.Machine.execHlrzs ac m s
  | .hrro ac m => Sys2Proof.Machine.execHrro ac m s
  | .hrroi ac m => Sys2Proof.Machine.execHrroi ac m s
  | .hrrom ac m => Sys2Proof.Machine.execHrrom ac m s
  | .hrros ac m => Sys2Proof.Machine.execHrros ac m s
  | .hlro ac m => Sys2Proof.Machine.execHlro ac m s
  | .hlroi ac m => Sys2Proof.Machine.execHlroi ac m s
  | .hlrom ac m => Sys2Proof.Machine.execHlrom ac m s
  | .hlros ac m => Sys2Proof.Machine.execHlros ac m s
  | .hrre ac m => Sys2Proof.Machine.execHrre ac m s
  | .hrrei ac m => Sys2Proof.Machine.execHrrei ac m s
  | .hrrem ac m => Sys2Proof.Machine.execHrrem ac m s
  | .hrres ac m => Sys2Proof.Machine.execHrres ac m s
  | .hlre ac m => Sys2Proof.Machine.execHlre ac m s
  | .hlrei ac m => Sys2Proof.Machine.execHlrei ac m s
  | .hlrem ac m => Sys2Proof.Machine.execHlrem ac m s
  | .hlres ac m => Sys2Proof.Machine.execHlres ac m s
  | .trn ac m => Sys2Proof.Machine.execTrn ac m s
  | .tln ac m => Sys2Proof.Machine.execTln ac m s
  | .trne ac m => Sys2Proof.Machine.execTrne ac m s
  | .tlne ac m => Sys2Proof.Machine.execTlne ac m s
  | .trna ac m => Sys2Proof.Machine.execTrna ac m s
  | .tlna ac m => Sys2Proof.Machine.execTlna ac m s
  | .trnn ac m => Sys2Proof.Machine.execTrnn ac m s
  | .tlnn ac m => Sys2Proof.Machine.execTlnn ac m s
  | .tdn ac m => Sys2Proof.Machine.execTdn ac m s
  | .tsn ac m => Sys2Proof.Machine.execTsn ac m s
  | .tdne ac m => Sys2Proof.Machine.execTdne ac m s
  | .tsne ac m => Sys2Proof.Machine.execTsne ac m s
  | .tdna ac m => Sys2Proof.Machine.execTdna ac m s
  | .tsna ac m => Sys2Proof.Machine.execTsna ac m s
  | .tdnn ac m => Sys2Proof.Machine.execTdnn ac m s
  | .tsnn ac m => Sys2Proof.Machine.execTsnn ac m s
  | .trz ac m => Sys2Proof.Machine.execTrz ac m s
  | .tlz ac m => Sys2Proof.Machine.execTlz ac m s
  | .trze ac m => Sys2Proof.Machine.execTrze ac m s
  | .tlze ac m => Sys2Proof.Machine.execTlze ac m s
  | .trza ac m => Sys2Proof.Machine.execTrza ac m s
  | .tlza ac m => Sys2Proof.Machine.execTlza ac m s
  | .trzn ac m => Sys2Proof.Machine.execTrzn ac m s
  | .tlzn ac m => Sys2Proof.Machine.execTlzn ac m s
  | .tdz ac m => Sys2Proof.Machine.execTdz ac m s
  | .tsz ac m => Sys2Proof.Machine.execTsz ac m s
  | .tdze ac m => Sys2Proof.Machine.execTdze ac m s
  | .tsze ac m => Sys2Proof.Machine.execTsze ac m s
  | .tdza ac m => Sys2Proof.Machine.execTdza ac m s
  | .tsza ac m => Sys2Proof.Machine.execTsza ac m s
  | .tdzn ac m => Sys2Proof.Machine.execTdzn ac m s
  | .tszn ac m => Sys2Proof.Machine.execTszn ac m s
  | .trc ac m => Sys2Proof.Machine.execTrc ac m s
  | .tlc ac m => Sys2Proof.Machine.execTlc ac m s
  | .trce ac m => Sys2Proof.Machine.execTrce ac m s
  | .tlce ac m => Sys2Proof.Machine.execTlce ac m s
  | .trca ac m => Sys2Proof.Machine.execTrca ac m s
  | .tlca ac m => Sys2Proof.Machine.execTlca ac m s
  | .trcn ac m => Sys2Proof.Machine.execTrcn ac m s
  | .tlcn ac m => Sys2Proof.Machine.execTlcn ac m s
  | .tdc ac m => Sys2Proof.Machine.execTdc ac m s
  | .tsc ac m => Sys2Proof.Machine.execTsc ac m s
  | .tdce ac m => Sys2Proof.Machine.execTdce ac m s
  | .tsce ac m => Sys2Proof.Machine.execTsce ac m s
  | .tdca ac m => Sys2Proof.Machine.execTdca ac m s
  | .tsca ac m => Sys2Proof.Machine.execTsca ac m s
  | .tdcn ac m => Sys2Proof.Machine.execTdcn ac m s
  | .tscn ac m => Sys2Proof.Machine.execTscn ac m s
  | .tro ac m => Sys2Proof.Machine.execTro ac m s
  | .tlo ac m => Sys2Proof.Machine.execTlo ac m s
  | .troe ac m => Sys2Proof.Machine.execTroe ac m s
  | .tloe ac m => Sys2Proof.Machine.execTloe ac m s
  | .troa ac m => Sys2Proof.Machine.execTroa ac m s
  | .tloa ac m => Sys2Proof.Machine.execTloa ac m s
  | .tron ac m => Sys2Proof.Machine.execTron ac m s
  | .tlon ac m => Sys2Proof.Machine.execTlon ac m s
  | .tdo ac m => Sys2Proof.Machine.execTdo ac m s
  | .tso ac m => Sys2Proof.Machine.execTso ac m s
  | .tdoe ac m => Sys2Proof.Machine.execTdoe ac m s
  | .tsoe ac m => Sys2Proof.Machine.execTsoe ac m s
  | .tdoa ac m => Sys2Proof.Machine.execTdoa ac m s
  | .tsoa ac m => Sys2Proof.Machine.execTsoa ac m s
  | .tdon ac m => Sys2Proof.Machine.execTdon ac m s
  | .tson ac m => Sys2Proof.Machine.execTson ac m s
  | .aprid m => Sys2Proof.Machine.execAprid m s
  | .wrapr m => Sys2Proof.Machine.execWrapr m s
  | .rdapr m => Sys2Proof.Machine.execRdapr m s
  | .conszapr m => Sys2Proof.Machine.execConszapr m s
  | .consoapr m => Sys2Proof.Machine.execConsoapr m s
  | .wrpi m => Sys2Proof.Machine.execWrpi m s
  | .rdpi m => Sys2Proof.Machine.execRdpi m s
  | .conszpi m => Sys2Proof.Machine.execConszpi m s
  | .consopi m => Sys2Proof.Machine.execConsopi m s
  | .clrcsh m => Sys2Proof.Machine.execClrcsh m s
  | .rdubr m => Sys2Proof.Machine.execRdubr m s
  | .clrpt m => Sys2Proof.Machine.execClrpt m s
  | .wrubr m => Sys2Proof.Machine.execWrubr m s
  | .wrebr m => Sys2Proof.Machine.execWrebr m s
  | .rdebr m => Sys2Proof.Machine.execRdebr m s
  | .rdspb m => Sys2Proof.Machine.execRdspb m s
  | .sdbr1 m => Sys2Proof.Machine.execSdbr1 m s
  | .rdcsb m => Sys2Proof.Machine.execRdcsb m s
  | .sdbr2 m => Sys2Proof.Machine.execSdbr2 m s
  | .rdpur m => Sys2Proof.Machine.execRdpur m s
  | .sdbr3 m => Sys2Proof.Machine.execSdbr3 m s
  | .rdcstm m => Sys2Proof.Machine.execRdcstm m s
  | .sdbr4 m => Sys2Proof.Machine.execSdbr4 m s
  | .rdtim m => Sys2Proof.Machine.execRdtim m s
  | .rdint m => Sys2Proof.Machine.execRdint m s
  | .rdhsb m => Sys2Proof.Machine.execRdhsb m s
  | .spm m => Sys2Proof.Machine.execSpm m s
  | .wrspb m => Sys2Proof.Machine.execWrspb m s
  | .ldbr1 m => Sys2Proof.Machine.execLdbr1 m s
  | .wrcsb m => Sys2Proof.Machine.execWrcsb m s
  | .ldbr2 m => Sys2Proof.Machine.execLdbr2 m s
  | .wrpur m => Sys2Proof.Machine.execWrpur m s
  | .ldbr3 m => Sys2Proof.Machine.execLdbr3 m s
  | .wrcstm m => Sys2Proof.Machine.execWrcstm m s
  | .ldbr4 m => Sys2Proof.Machine.execLdbr4 m s
  | .wrtim m => Sys2Proof.Machine.execWrtim m s
  | .wrint m => Sys2Proof.Machine.execWrint m s
  | .wrhsb m => Sys2Proof.Machine.execWrhsb m s
  | .lpmr m => Sys2Proof.Machine.execLpmr m s
  | .umove ac m => Sys2Proof.Machine.execUmove ac m s
  | .umovem ac m => Sys2Proof.Machine.execUmovem ac m s
  | .tioe ac m => Sys2Proof.Machine.execTioe ac m s
  | .iordi ac m => Sys2Proof.Machine.execIordi ac m s
  | .tion ac m => Sys2Proof.Machine.execTion ac m s
  | .iordq ac m => Sys2Proof.Machine.execIordq ac m s
  | .rdio ac m => Sys2Proof.Machine.execRdio ac m s
  | .iord ac m => Sys2Proof.Machine.execIord ac m s
  | .wrio ac m => Sys2Proof.Machine.execWrio ac m s
  | .iowr ac m => Sys2Proof.Machine.execIowr ac m s
  | .bsio ac m => Sys2Proof.Machine.execBsio ac m s
  | .iowri ac m => Sys2Proof.Machine.execIowri ac m s
  | .bcio ac m => Sys2Proof.Machine.execBcio ac m s
  | .iowrq ac m => Sys2Proof.Machine.execIowrq ac m s
  | .bltbu ac m => Sys2Proof.Machine.execBltbu ac m s
  | .bltub ac m => Sys2Proof.Machine.execBltub ac m s
  | .tioeb ac m => Sys2Proof.Machine.execTioeb ac m s
  | .iordbi ac m => Sys2Proof.Machine.execIordbi ac m s
  | .tionb ac m => Sys2Proof.Machine.execTionb ac m s
  | .iordbq ac m => Sys2Proof.Machine.execIordbq ac m s
  | .rdiob ac m => Sys2Proof.Machine.execRdiob ac m s
  | .iordb ac m => Sys2Proof.Machine.execIordb ac m s
  | .wriob ac m => Sys2Proof.Machine.execWriob ac m s
  | .iowrb ac m => Sys2Proof.Machine.execIowrb ac m s
  | .bsiob ac m => Sys2Proof.Machine.execBsiob ac m s
  | .iowrbi ac m => Sys2Proof.Machine.execIowrbi ac m s
  | .bciob ac m => Sys2Proof.Machine.execBciob ac m s
  | .iowrbq ac m => Sys2Proof.Machine.execIowrbq ac m s
  | .cmpsl ac e0 m => Sys2Proof.Machine.execCmpsl ac e0 m s
  | .cmpse ac e0 m => Sys2Proof.Machine.execCmpse ac e0 m s
  | .cmpsle ac e0 m => Sys2Proof.Machine.execCmpsle ac e0 m s
  | .edit ac e0 m => Sys2Proof.Machine.execEdit ac e0 m s
  | .cmpsge ac e0 m => Sys2Proof.Machine.execCmpsge ac e0 m s
  | .cmpsn ac e0 m => Sys2Proof.Machine.execCmpsn ac e0 m s
  | .cmpsg ac e0 m => Sys2Proof.Machine.execCmpsg ac e0 m s
  | .cvtdbo ac e0 m => Sys2Proof.Machine.execCvtdbo ac e0 m s
  | .cvtdbt ac e0 m => Sys2Proof.Machine.execCvtdbt ac e0 m s
  | .cvtbdo ac e0 m => Sys2Proof.Machine.execCvtbdo ac e0 m s
  | .cvtbdt ac e0 m => Sys2Proof.Machine.execCvtbdt ac e0 m s
  | .movso ac e0 m => Sys2Proof.Machine.execMovso ac e0 m s
  | .movst ac e0 m => Sys2Proof.Machine.execMovst ac e0 m s
  | .movslj ac e0 m => Sys2Proof.Machine.execMovslj ac e0 m s
  | .movsrj ac e0 m => Sys2Proof.Machine.execMovsrj ac e0 m s

end Sys2Proof.Machine
end

