-- ==== Sys2Proof/Machine/Loop.lean ====
section
/-! DEFINITION. The instruction loop: the interrupt, trap and 1-proceed sequences, the fetch, and the
host interface (60_exceptions.md sections 3, 5, 6, 8, 9 and 10, 70_reset_and_hazards.md rule R1400). -/

namespace Sys2Proof.Machine

open Sys2Proof

/-! ### Console examination (R1290, R1291) -/

/-- What `conmap` answers. -/
inductive ConAddr where
  /-- The address names an accumulator: its contents. -/
  | ac (v : Word)
  /-- A physical address. -/
  | phys (pa : Nat)
  /-- `Fail`. -/
  | fail
  /-- No answer: the walk reads a word of memory that nothing has written, a fault of the model (R99, log entry 16). -/
  | fault (f : Fault)
  deriving DecidableEq, Repr

/-- `conmap(va, space)`: no state changes (R1291). An address below 0o20 names the accumulator of the current block, for
either space (log entry 45). -/
def conmap (user : Bool) (va : VAddr) (s : State) : ConAddr :=
  if isAc va then .ac (s.ac (acOfAddr va))
  else match translate user .map va s with
    | .ok pa _ => .phys pa
    | .error (.fault f) _ => .fault f
    | .error _ _ => .fail

/-- `examine_phys(pa)`: `none` where memory does not exist or holds no value (R1290, R99). -/
def examinePhys (pa : Nat) (s : State) : Option Word := if pa < s.cfg.memSize then tblGet s.mem pa else none

/-- `read_apr_int80()` (R1290). -/
def readInt80 (s : State) : Bool := s.apr.flg.getLsbD s.cfg.aprBits.int80.toNat

/-! ### The interrupt sequence (R1220 to R1222) -/

/-- The fixed interrupt cell of a level (R1220). -/
def State.piCell (s : State) (n : Nat) : Nat := s.ept + s.cfg.piCellBase + 2 * n

/-- The level is requested by a device alone (R1221, D53). -/
def State.deviceOnly (s : State) (n : Nat) : Bool :=
  s.pi.ioq &&& lvbit n != 0 && (s.piAprq ||| s.pi.prq) &&& lvbit n == 0

/-- The physical address of a vectored interrupt instruction, modulo 2^PA_WIDTH (R1221). -/
def vectorAddr (c : Config) (tbl : Word) (v : Half) : Nat :=
  (tbl.toNat % 2 ^ c.paWidth + v.toNat / 4) % 2 ^ c.paWidth

/-- The interrupt instruction of a level (R1220, R1221). -/
def interruptWord (n : Nat) : M Word := do
  let s ← getS
  if s.deviceOnly n then
    match ← ioVector n with
    | some (k, v) => do
      let tbl ← seqRead (s.ept + 0o100 + k)
      if tbl = 0 then raise (.stop .zervec) else seqRead (vectorAddr s.cfg tbl v)
    | none => seqRead (s.piCell n)
  else seqRead (s.piCell n)

/-- JSR as an interrupt instruction (R1222). Its write, and the references of XPCW, are virtual: non-existent memory in one
of them, or in its page walk, is a page fail with paging on and so Stop(PAGINT), not Stop(TRPNXM) (R1206, log entry 47). -/
def interruptJsr (e : VAddr) : M Unit := do
  let s ← getS
  modS (setNewflags 0 false)
  vwrite .execv e s.flpc
  jump (e + 1)

/-- The interrupt sequence of a level (R1222). -/
def interruptSeq (n : Nat) : M Unit := do
  modS fun s => { s with pi := { s.pi with act := s.pi.act ||| lvbit n }, indCount := 0 }
  let w ← interruptWord n
  modS fun s => { s with piCycle := true }
  let e := (eaField w).y
  if opField w = 0o264 then interruptJsr e
  else if opField w = 0o254 ∧ acField w = 7 then xpcwIn (vread .execv) (vwrite .execv) e
  else raise (.stop .illint)
  modS fun s => { s with piCycle := false }

/-- The end of a sequence that is no instruction: `pi_cycle` cleared, a page fail in it a `Stop(PAGINT)`, the PC as the
sequence left it (R1202, D61; log entry 29). A re-entry, which only an endless pointer chain leads to here (log entry 10),
leaves the state `s0` before the sequence. -/
def seqOutcome (s0 : State) (r : EStateM.Result Abort State Unit) : Out :=
  match r with
  | .ok _ t => .next t
  | .error (.fault f) _ => .fault f
  | .error (.stop n) t => .next { t with piCycle := false, report := .stop n }
  | .error .pageFail t => .next { t with piCycle := false, report := .stop .pagint }
  | .error .reenter _ => .next { s0 with report := .reenter }

/-! ### Where the next word to execute comes from (R1223, R1240, R1260) -/

/-- A word executed "as by XCT" (R686): one level counted. -/
def beginAs (ph : Phase) : M Unit :=
  modS fun s => { s with ipc := s.pc, phase := ph, indCount := 0, xctCount := 1 }

/-- Forced execute (R1223). -/
def forcedSeq (a : Nat) : M Unit := do
  modS fun s => { s with forcedExec := none }
  beginAs .forced
  let w ← readP false a
  setPending w 0

/-- A trap flag is set and paging is on (R1240). -/
def State.trapDue (s : State) : Bool := (s.flags.trap1 || s.flags.trap2) && s.base.ebr.pgon

/-- The cell of the trap instruction (R1240). -/
def State.trapCell (s : State) : Nat :=
  (if s.flags.user then s.upt else s.ept) + s.cfg.trapCells + s.flags.trap1.toNat + 2 * s.flags.trap2.toNat

/-- The arithmetic-trap sequence (R1240). -/
def trapSeq : M Unit := do
  let s ← getS
  modS fun s => { s with flags := { s.flags with trap1 := false, trap2 := false } }
  beginAs .trap
  let w ← seqRead s.trapCell
  setPending w 0

/-- Step 4 before the fetch: IPC, the counters, the 1-proceed latch (R1245, R1260). The request to skip a breakpoint is
used up by the next ordinary fetch, wherever it fetches (R1280, log entry 46). -/
def State.beginFetch (s : State) : State :=
  { s with
    ipc := s.pc
    indCount := 0
    xctCount := 0
    its2pr := s.its2pr || s.its1pr
    its1pr := false
    bkptSkip := false }

/-- The ordinary fetch (R1260). -/
def fetchSeq : M Unit := do
  modS State.beginFetch
  let s ← getS
  let w ← vread .cur s.pc
  modS fun t => t.setPc (t.pc + 1)
  setPending w 0

/-! ### Execution and completion -/

/-- The FLPC a 1-proceed trap saves: AFI set when the request is set again (R1245). -/
def State.proceedWord (s : State) : Word :=
  xwd ({ s.flags with afi := s.flags.afi || s.its1pr } : Flags).toHalf s.pc

/-- The 1-proceed trap sequence (R1245). -/
def oneProceed : M Unit := do
  modS fun s => { s with its2pr := false }
  let s ← getS
  seqWrite (s.upt + s.cfg.its1prOld) s.proceedWord
  modS fun s => { s with its1pr := false }
  let n ← seqRead (s.upt + s.cfg.its1prNew)
  modS fun s => (setNewflags (lh n) false s).setPc (rh n)

/-- 1-proceed completion, after an instruction that completed (R1245). -/
def complete (s : State) : Out :=
  if s.its2pr && s.phase == .fetch && s.report == .ok then seqOutcome s (oneProceed s) else .next s

/-- The end of a step: completion, and the fields of the instruction in execution put back. A word still to execute
leaves the step open (log entry 9). -/
def settle (s : State) : Out :=
  match s.pending with
  | some _ => .next s
  | none =>
    match complete s with
    | .next t => .next { t with pxct := 0, inhibit := false, phase := .fetch }
    | .fault f => .fault f
    | .refused r => .refused r

/-- How many words an XCT chain may run in one step; what is left then runs in the next step (log entry 9). -/
def drainFuel : Nat := 2 ^ 20

noncomputable section

/-- Execute the word left to execute, and the words its execution leaves in turn (R686). -/
def drain : Nat → State → Out
  | 0, s => .next s
  | fuel + 1, s =>
    match s.pending with
    | none => .next s
    | some p =>
      match exec (decode s.cfg p.word) { s with pending := none, pxct := p.pxct, inhibit := p.inhibit } with
      | .next t => drain fuel t
      | .fault f => .fault f
      | .refused r => .refused r

/-- Execute the word an outcome leaves, and end the step. -/
def runPending (o : Out) : Out :=
  match o with
  | .next s =>
    match drain drainFuel s with
    | .next t => settle t
    | .fault f => .fault f
    | .refused r => .refused r
  | .fault f => .fault f
  | .refused r => .refused r

/-- Steps 2 to 4 of the loop (R1260, R1262). -/
def boundary (s : State) : Out :=
  if s.env.fatal then .next { s with env := { s.env with fatal := false }, report := .stop .ioerr }
  else
    match s.forcedExec with
    | some a => runPending (finish (forcedSeq a) s)
    | none =>
      if s.piPending ≠ 0 then seqOutcome s (interruptSeq s.piPending s)
      else if s.trapDue then runPending (finish trapSeq s)
      else if s.pc ∈ s.breakpoints ∧ s.bkptSkip = false then .next { s with report := .stop .ibkpt }
      else runPending (finish fetchSeq s)

/-- One iteration of the loop (R1260). -/
def loopStep (s : State) : Out :=
  match s.pending with
  | some _ => runPending (.next { s with report := .ok })
  | none => boundary (agents { s with report := .ok })

end

/-! ### Placing an instruction where the next step fetches it -/

/-- Store a word where the current mode sees an address. -/
def State.place (s : State) (va : VAddr) (w : Word) : State :=
  match conmap s.inUser va s with
  | .ac _ => s.setAc (acOfAddr va) w
  | .phys pa => s.poke pa w
  | .fail => s
  | .fault _ => s

/-- The state at a boundary where the next step is an ordinary fetch: nothing pending, forced, requested or trapping. -/
def State.quietBoundary (s : State) : State :=
  { s with
    pending := none
    phase := .fetch
    forcedExec := none
    pi := if s.piPending = 0 then s.pi else { s.pi with on := false }
    flags := if s.trapDue then { s.flags with trap1 := false, trap2 := false } else s.flags
    bkptSkip := s.bkptSkip || decide (s.pc ∈ s.breakpoints)
    env := { s.env with agenda := [], arrivals := [], fatal := false } }

/-- The words of an instruction stored where the next step fetches it: the first at PC, the second, which only an EXTEND
has, at its E. -/
def State.placeWords (s : State) (w : Nat) : State :=
  let first := BitVec.ofNat 36 w
  let s1 := s.quietBoundary.place s.pc first
  if w < 2 ^ 36 then s1
  else
    match eaIn .cur (eaField first) s1 with
    | .ok r _ => s1.place r.addr (BitVec.ofNat 36 (w / 2 ^ 36))
    | .error _ _ => s1

end Sys2Proof.Machine
end

