-- ==== Sys2Proof/Machine/Step.lean ====
section
/-! DEFINITION. One step of the machine, one iteration of the loop of R1260 (60_exceptions.md section 8). -/

namespace Sys2Proof.Machine

open Sys2Proof

noncomputable section

/-- One step (R1260). -/
def step (s : State) : Host.Outcome State Fault Refusal := loopStep s

end

/-- The state with an instruction's words stored where the next step fetches them. -/
def State.withFetchWord (s : State) (_nbits w : Nat) : State := s.placeWords w

end Sys2Proof.Machine
end

