-- ==== Sys2Proof/Safety.lean ====
section
/-! DEFINITION. What counts as a good state and a good end of a step, in the terms the statements use. -/

namespace Sys2Proof.Machine

open Sys2Proof

/-- A table of the pager cache is in canonical form: page numbers strictly rising, all below 512 (R90). -/
def tlbWf (t : List (Nat × TlbEntry)) : Bool := risingFrom 0 t && keysBelow 512 t

/-- The invariant of the machine: memory and the pager cache in canonical form (R90, R99), AFI never held in the flags
register under ITS, the 1-proceed latches 0 outside ITS (R75), and the configuration within the bounds the spec puts on its
numbers (D2, D60). -/
def State.inv (s : State) : Bool :=
  Memory.wf s.cfg.memSize s.mem && tlbWf s.cache.tlbExec && tlbWf s.cache.tlbUser &&
    (!s.cfg.its || !s.flags.afi) && (s.cfg.its || (!s.its1pr && !s.its2pr)) && s.cfg.wf

/-- Nothing but the pager's own state, the indirection count, which only grows, the APR flags and memory differs, and the
word on arrivals used up at checkpoints: what a reference to memory may leave changed beside its result (R92, R95, R169). -/
structure SameRegisters (s t : State) : Prop where
  cfg : t.cfg = s.cfg
  acb : t.acb = s.acb
  pc : t.pc = s.pc
  ipc : t.ipc = s.ipc
  flags : t.flags = s.flags
  its1pr : t.its1pr = s.its1pr
  its2pr : t.its2pr = s.its2pr
  base : t.base = s.base
  aprEnb : t.apr.enb = s.apr.enb
  aprLvl : t.apr.lvl = s.apr.lvl
  timeBase : t.timeBase = s.timeBase
  interval : t.interval = s.interval
  pi : t.pi = s.pi
  piCycle : t.piCycle = s.piCycle
  indCount : s.indCount ≤ t.indCount
  xctCount : t.xctCount = s.xctCount
  forcedExec : t.forcedExec = s.forcedExec
  breakpoints : t.breakpoints = s.breakpoints
  bkptSkip : t.bkptSkip = s.bkptSkip
  report : t.report = s.report
  pxct : t.pxct = s.pxct
  inhibit : t.inhibit = s.inhibit
  pending : t.pending = s.pending
  phase : t.phase = s.phase
  env : ∃ n, t.env = { s.env with arrivals := s.env.arrivals.drop n }

/-- A word of memory the pager itself may rewrite while it translates: a CST entry under TOPS-20, a page-table word under
ITS (R187, R192). -/
def State.pagerOwns (s : State) (a : Nat) : Prop :=
  s.base.ebr.pgon = true ∧
    if s.cfg.its then
      ∃ d ∈ [s.base.dbr1, s.base.dbr2, s.base.dbr3, s.base.dbr4], d.toNat ≤ a ∧ a < d.toNat + 0o100
    else s.base.ebr.t20 = true ∧ s.base.csb.toNat ≤ a ∧ a < s.base.csb.toNat + 0o20000

/-- Memory reads as before at every address outside a set. -/
def MemSameOutside (P : Nat → Prop) (s t : State) : Prop := ∀ a, ¬ P a → tblGet t.mem a = tblGet s.mem a

/-- A step at this state is an ordinary fetch: nothing is left to execute, no external action is due, and no forced
execute, interrupt, trap, breakpoint or 1-proceed intervenes (R1260). -/
structure AtFetch (s : State) : Prop where
  pending : s.pending = none
  agenda : s.env.agenda = []
  fatal : s.env.fatal = false
  forced : s.forcedExec = none
  quiet : s.piPending = 0
  noTrap : s.trapDue = false
  noBreak : s.pc ∉ s.breakpoints
  noProceed : s.its1pr = false ∧ s.its2pr = false
  phase : s.phase = .fetch

end Sys2Proof.Machine
end

