-- ==== Sys2Proof/Certificates/Slice0/Obligations.lean ====
section
/-! DEFINITION. The statements for the provers. A statement over a table of forms covers every instruction the table
names. `ea m s = .ok e s1` says that the effective address computes, `rdE` and `rdmE` that the operand can be read or
read for writing, `wrE` that it can be written; a conclusion `.next t` gives the whole next state, so it is its own
frame. -/

noncomputable section

namespace Sys2Proof.Statements

open Sys2Proof Sys2Proof.Machine

/-- The half of ones or zeros that repeats the sign of a half. -/
def signHalf (h : Half) : Half := if h.getLsbD 17 then 0o777777 else 0

/-- The physical-address bits of a word (D2). -/
def physBits (s : State) (w : Word) : BitVec 22 := BitVec.ofNat 22 (w.toNat % 2 ^ s.cfg.paWidth)

/-- The exponent field, ones' complement when the number is negative (R500). -/
def exponent (w : Word) : Nat := (w.extractLsb' 27 8 ^^^ (if negative w then 0o377 else 0)).toNat

/-- The number a word stands for (R500). -/
def value (w : Word) : ℚ :=
  ((BitVec.ofBool (negative w) ++ w.extractLsb' 0 27 : BitVec 28).toInt : ℚ) * 2 ^ ((exponent w : Int) - 128 - 27)

/-- The number a pair of words stands for (R501). -/
def value2 (w : Word × Word) : ℚ :=
  ((BitVec.ofBool (negative w.1) ++ w.1.extractLsb' 0 27 ++ w.2.extractLsb' 0 35 : BitVec 63).toInt : ℚ) *
    2 ^ ((exponent w.1 : Int) - 128 - 62)

/-- The exact result of an operation (R503). -/
def exactly (op : FloatOp) (x y : ℚ) : ℚ :=
  match op with
  | .add => x + y
  | .sub => x - y
  | .mul => x * y
  | .div => x / y

/-- Sign, exponent field, fraction of `n` bits and flags are those `enc` stores for `x` (R502). -/
def Encodes (x : ℚ) (rounds : Bool) (n : Nat) (sign : Bool) (exp : BitVec 8) (frac : BitVec n) (fl : Flags) : Prop :=
  (x = 0 → sign = false ∧ exp = 0 ∧ frac = 0 ∧ fl = Flags.zero) ∧
    (x ≠ 0 → ∃ (e : Int) (y : ℚ), x = y * 2 ^ (e - 128 - (n : Int)) ∧
      (0 < x → 2 ^ (n - 1) ≤ y ∧ y < 2 ^ n) ∧ (x < 0 → -2 ^ n < y ∧ y ≤ -2 ^ (n - 1)) ∧
      ∀ (f0 f e' : Int), f0 = (if rounds then ⌊y + 1 / 2⌋ else ⌊y⌋) →
        f = (if f0 = 2 ^ n ∨ f0 = -2 ^ n then f0 / 2 else f0) →
        e' = (if f0 = 2 ^ n ∨ f0 = -2 ^ n then e + 1 else e) →
        sign = decide (f < 0) ∧ frac = BitVec.ofInt n f ∧
        exp = BitVec.ofInt 8 e' ^^^ (if f < 0 then 0o377 else 0) ∧
        fl = if 255 < e' then { Flags.zero with aov := true, fov := true, trap1 := true }
          else if e' < 0 then { Flags.zero with aov := true, fov := true, fxu := true, trap1 := true }
          else Flags.zero)

/-- A single-precision result (R500, R502). -/
def Encodes1 (x : ℚ) (rounds : Bool) (r : WordFlags) : Prop :=
  Encodes x rounds 27 (negative r.word) (r.word.extractLsb' 27 8) (r.word.extractLsb' 0 27) r.flags

/-- A double-precision result (R501, R502). -/
def Encodes2 (x : ℚ) (rounds : Bool) (r : PairFlags) : Prop :=
  r.lo.getLsbD 35 = false ∧
    Encodes x rounds 62 (negative r.hi) (r.hi.extractLsb' 27 8) (r.hi.extractLsb' 0 27 ++ r.lo.extractLsb' 0 35) r.flags

/-- A fixed-point result, or none outside 36 bits (R509). -/
def fixed (n : Int) : Option Word := if -2 ^ 35 ≤ n ∧ n < 2 ^ 35 then some (BitVec.ofInt 36 n) else none

/-- A pair of words as 72 bits. -/
def joined (p : Word × Word) : BitVec 72 := p.1 ++ p.2

/-- The ring of CIRC: AC, then AC+1 from its right end to its left (R668). -/
def circled (p : Word × Word) : BitVec 72 := p.1 ++ p.2.reverse

/-- Word `i` of the destination of a block transfer from `src` to `dst`, the words being moved one after another: where
the destination overlaps the source from above, a word is the one moved before (R670). -/
def blockWord (f : Word → Word) (src dst : Nat) (v : Nat → Word) (i : Nat) : Word :=
  if src < dst then f^[i / (dst - src) + 1] (v (i % (dst - src))) else f (v i)

/-- The block transfers: the conversion of each word, and whether the I/O privilege is needed (R670, R1156, R1157). -/
def blockForms : List ((AcNum → EaField → Instr) × (Config → Word → Word) × Bool) :=
  [(.blt, fun _ w => w, false), (.bltbu, byteToUb, true), (.bltub, ubToByte, true)]

/-- A word with a flag bit of a string instruction set or cleared: bit 35 is S, 34 is N, 33 is M (R551). -/
def setBit (i : Nat) (v : Bool) (w : Word) : Word := if v then w ||| (1 : Word) <<< i else w &&& ~~~((1 : Word) <<< i)

/-- What a control code does to the length accumulator, `neg` being the bit codes 2, 3, 6 and 7 act on (R551). -/
def codeFlags (code : BitVec 3) (neg : Nat) (a : Word) : Word :=
  match code.toNat with
  | 2 => setBit neg false a
  | 3 => setBit neg true a
  | 4 => setBit 35 true a
  | 6 => setBit 35 true (setBit neg false a)
  | 7 => setBit 35 true (setBit neg true a)
  | _ => a

/-- The state from which a byte of a string is worked: FPD is set from the second byte on (R64). -/
def atByte (first : Bool) (s : State) : State := if first then s else { s with flags := { s.flags with fpd := true } }

/-- No interrupt is pending, nor comes. -/
def Quiet (s : State) : Prop := s.piPending = 0 ∧ s.env.arrivals = []

/-- The place of a pattern byte: four to a word, numbered from the left (R556). -/
def patPlace (a : Word) : Nat := 4 * (rh a).toNat + (a.extractLsb' 30 2).toNat

/-- The forms that load AC with a function of AC and C(E): the boolean functions of R800, the halfword moves of R900,
MOVE and MOVS. -/
def loadForms : List ((AcNum → EaField → Instr) × (Word → Word → Word)) :=
  [(.and, fun a w => a &&& w), (.andca, fun a w => ~~~a &&& w), (.setm, fun _ w => w),
   (.andcm, fun a w => a &&& ~~~w), (.xor, fun a w => a ^^^ w), (.ior, fun a w => a ||| w),
   (.andcb, fun a w => ~~~a &&& ~~~w), (.eqv, fun a w => ~~~(a ^^^ w)), (.orca, fun a w => ~~~a ||| w),
   (.setcm, fun _ w => ~~~w), (.orcm, fun a w => a ||| ~~~w), (.orcb, fun a w => ~~~a ||| ~~~w),
   (.hll, fun a w => xwd (lh w) (rh a)), (.hllz, fun _ w => xwd (lh w) 0), (.hllo, fun _ w => xwd (lh w) 0o777777),
   (.hlle, fun _ w => xwd (lh w) (signHalf (lh w))), (.hrl, fun a w => xwd (rh w) (rh a)),
   (.hrlz, fun _ w => xwd (rh w) 0), (.hrlo, fun _ w => xwd (rh w) 0o777777),
   (.hrle, fun _ w => xwd (rh w) (signHalf (rh w))), (.hrr, fun a w => xwd (lh a) (rh w)),
   (.hrrz, fun _ w => xwd 0 (rh w)), (.hrro, fun _ w => xwd 0o777777 (rh w)),
   (.hrre, fun _ w => xwd (signHalf (rh w)) (rh w)), (.hlr, fun a w => xwd (lh a) (lh w)),
   (.hlrz, fun _ w => xwd 0 (lh w)), (.hlro, fun _ w => xwd 0o777777 (lh w)),
   (.hlre, fun _ w => xwd (signHalf (lh w)) (lh w)), (.move, fun _ w => w), (.movs, fun _ w => xwd (rh w) (lh w))]

/-- The forms that load AC with a function of AC and 0,,E. -/
def immediateForms : List ((AcNum → EaField → Instr) × (Word → Word → Word)) :=
  [(.andi, fun a w => a &&& w), (.andcai, fun a w => ~~~a &&& w), (.setmi, fun _ w => w),
   (.andcmi, fun a w => a &&& ~~~w), (.xori, fun a w => a ^^^ w), (.iori, fun a w => a ||| w),
   (.andcbi, fun a w => ~~~a &&& ~~~w), (.eqvi, fun a w => ~~~(a ^^^ w)), (.orcai, fun a w => ~~~a ||| w),
   (.setcmi, fun _ w => ~~~w), (.orcmi, fun a w => a ||| ~~~w), (.orcbi, fun a w => ~~~a ||| ~~~w),
   (.hlli, fun a w => xwd (lh w) (rh a)), (.hllzi, fun _ w => xwd (lh w) 0), (.hlloi, fun _ w => xwd (lh w) 0o777777),
   (.hllei, fun _ w => xwd (lh w) (signHalf (lh w))), (.hrli, fun a w => xwd (rh w) (rh a)),
   (.hrlzi, fun _ w => xwd (rh w) 0), (.hrloi, fun _ w => xwd (rh w) 0o777777),
   (.hrlei, fun _ w => xwd (rh w) (signHalf (rh w))), (.hrri, fun a w => xwd (lh a) (rh w)),
   (.hrrzi, fun _ w => xwd 0 (rh w)), (.hrroi, fun _ w => xwd 0o777777 (rh w)),
   (.hrrei, fun _ w => xwd (signHalf (rh w)) (rh w)), (.hlri, fun a w => xwd (lh a) (lh w)),
   (.hlrzi, fun _ w => xwd 0 (lh w)), (.hlroi, fun _ w => xwd 0o777777 (lh w)),
   (.hlrei, fun _ w => xwd (signHalf (lh w)) (lh w)), (.movei, fun _ w => w), (.movsi, fun _ w => xwd (rh w) (lh w)),
   (.movmi, fun _ w => w)]

/-- The boolean functions that read no memory, in the forms that load AC (R800, R801). -/
def acOnlyForms : List ((AcNum → EaField → Instr) × (Word → Word)) :=
  [(.setz, fun _ => 0), (.setzi, fun _ => 0), (.seta, fun a => a), (.setai, fun a => a), (.setca, fun a => ~~~a),
   (.setcai, fun a => ~~~a), (.seto, fun _ => 0o777777777777), (.setoi, fun _ => 0o777777777777)]

/-- The forms that read C(E) for writing and store a function of AC and C(E). -/
def modifyForms : List ((AcNum → EaField → Instr) × (Word → Word → Word)) :=
  [(.andm, fun a w => a &&& w), (.andcam, fun a w => ~~~a &&& w), (.setmm, fun _ w => w),
   (.andcmm, fun a w => a &&& ~~~w), (.xorm, fun a w => a ^^^ w), (.iorm, fun a w => a ||| w),
   (.andcbm, fun a w => ~~~a &&& ~~~w), (.eqvm, fun a w => ~~~(a ^^^ w)), (.orcam, fun a w => ~~~a ||| w),
   (.setcmm, fun _ w => ~~~w), (.orcmm, fun a w => a ||| ~~~w), (.orcbm, fun a w => ~~~a ||| ~~~w),
   (.hllm, fun a w => xwd (lh a) (rh w)), (.hrlm, fun a w => xwd (rh a) (rh w)),
   (.hrrm, fun a w => xwd (lh w) (rh a)), (.hlrm, fun a w => xwd (lh w) (lh a))]

/-- The boolean forms that store a function of AC and C(E) in both. -/
def bothForms : List ((AcNum → EaField → Instr) × (Word → Word → Word)) :=
  [(.andb, fun a w => a &&& w), (.andcab, fun a w => ~~~a &&& w), (.setmb, fun _ w => w),
   (.andcmb, fun a w => a &&& ~~~w), (.xorb, fun a w => a ^^^ w), (.iorb, fun a w => a ||| w),
   (.andcbb, fun a w => ~~~a &&& ~~~w), (.eqvb, fun a w => ~~~(a ^^^ w)), (.orcab, fun a w => ~~~a ||| w),
   (.setcmb, fun _ w => ~~~w), (.orcmb, fun a w => a ||| ~~~w), (.orcbb, fun a w => ~~~a ||| ~~~w)]

/-- The forms that store a function of AC and read no memory. -/
def storeForms : List ((AcNum → EaField → Instr) × (Word → Word)) :=
  [(.setzm, fun _ => 0), (.setam, fun a => a), (.setcam, fun a => ~~~a), (.setom, fun _ => 0o777777777777),
   (.hllzm, fun a => xwd (lh a) 0), (.hllom, fun a => xwd (lh a) 0o777777),
   (.hllem, fun a => xwd (lh a) (signHalf (lh a))), (.hrlzm, fun a => xwd (rh a) 0),
   (.hrlom, fun a => xwd (rh a) 0o777777), (.hrlem, fun a => xwd (rh a) (signHalf (rh a))),
   (.hrrzm, fun a => xwd 0 (rh a)), (.hrrom, fun a => xwd 0o777777 (rh a)),
   (.hrrem, fun a => xwd (signHalf (rh a)) (rh a)), (.hlrzm, fun a => xwd 0 (lh a)),
   (.hlrom, fun a => xwd 0o777777 (lh a)), (.hlrem, fun a => xwd (signHalf (lh a)) (lh a)), (.movem, fun a => a),
   (.movsm, fun a => xwd (rh a) (lh a))]

/-- The boolean forms that store a function of AC in memory and in AC. -/
def storeBothForms : List ((AcNum → EaField → Instr) × (Word → Word)) :=
  [(.setzb, fun _ => 0), (.setab, fun a => a), (.setcab, fun a => ~~~a), (.setob, fun _ => 0o777777777777)]

/-- The forms that change C(E) and load AC with it when the AC field is not 0. -/
def selfForms : List ((AcNum → EaField → Instr) × (Word → Word)) :=
  [(.hlls, fun w => xwd (lh w) (rh w)), (.hllzs, fun w => xwd (lh w) 0), (.hllos, fun w => xwd (lh w) 0o777777),
   (.hlles, fun w => xwd (lh w) (signHalf (lh w))), (.hrls, fun w => xwd (rh w) (rh w)),
   (.hrlzs, fun w => xwd (rh w) 0), (.hrlos, fun w => xwd (rh w) 0o777777),
   (.hrles, fun w => xwd (rh w) (signHalf (rh w))), (.hrrs, fun w => xwd (lh w) (rh w)),
   (.hrrzs, fun w => xwd 0 (rh w)), (.hrros, fun w => xwd 0o777777 (rh w)),
   (.hrres, fun w => xwd (signHalf (rh w)) (rh w)), (.hlrs, fun w => xwd (lh w) (lh w)),
   (.hlrzs, fun w => xwd 0 (lh w)), (.hlros, fun w => xwd 0o777777 (lh w)),
   (.hlres, fun w => xwd (signHalf (lh w)) (lh w)), (.moves, fun w => w), (.movss, fun w => xwd (rh w) (lh w))]

/-- The tests with an immediate mask: the mask of E, the new AC, and whether AC and mask make it skip (R980, R981). -/
def testImmediateForms : List ((AcNum → EaField → Instr) × (VAddr → Word) × (Word → Word → Word) × (Word → Bool)) :=
  [(.trn, immR, fun a _ => a, fun _ => false), (.tln, immL, fun a _ => a, fun _ => false),
   (.trne, immR, fun a _ => a, fun t => t == 0), (.tlne, immL, fun a _ => a, fun t => t == 0),
   (.trna, immR, fun a _ => a, fun _ => true), (.tlna, immL, fun a _ => a, fun _ => true),
   (.trnn, immR, fun a _ => a, fun t => t != 0), (.tlnn, immL, fun a _ => a, fun t => t != 0),
   (.trz, immR, fun a k => a &&& ~~~k, fun _ => false), (.tlz, immL, fun a k => a &&& ~~~k, fun _ => false),
   (.trze, immR, fun a k => a &&& ~~~k, fun t => t == 0), (.tlze, immL, fun a k => a &&& ~~~k, fun t => t == 0),
   (.trza, immR, fun a k => a &&& ~~~k, fun _ => true), (.tlza, immL, fun a k => a &&& ~~~k, fun _ => true),
   (.trzn, immR, fun a k => a &&& ~~~k, fun t => t != 0), (.tlzn, immL, fun a k => a &&& ~~~k, fun t => t != 0),
   (.trc, immR, fun a k => a ^^^ k, fun _ => false), (.tlc, immL, fun a k => a ^^^ k, fun _ => false),
   (.trce, immR, fun a k => a ^^^ k, fun t => t == 0), (.tlce, immL, fun a k => a ^^^ k, fun t => t == 0),
   (.trca, immR, fun a k => a ^^^ k, fun _ => true), (.tlca, immL, fun a k => a ^^^ k, fun _ => true),
   (.trcn, immR, fun a k => a ^^^ k, fun t => t != 0), (.tlcn, immL, fun a k => a ^^^ k, fun t => t != 0),
   (.tro, immR, fun a k => a ||| k, fun _ => false), (.tlo, immL, fun a k => a ||| k, fun _ => false),
   (.troe, immR, fun a k => a ||| k, fun t => t == 0), (.tloe, immL, fun a k => a ||| k, fun t => t == 0),
   (.troa, immR, fun a k => a ||| k, fun _ => true), (.tloa, immL, fun a k => a ||| k, fun _ => true),
   (.tron, immR, fun a k => a ||| k, fun t => t != 0), (.tlon, immL, fun a k => a ||| k, fun t => t != 0)]

/-- The tests with a mask in memory: the mask of C(E), the new AC, and whether AC and mask make it skip (R980, R981). -/
def testMemoryForms : List ((AcNum → EaField → Instr) × (Word → Word) × (Word → Word → Word) × (Word → Bool)) :=
  [(.tdn, fun w => w, fun a _ => a, fun _ => false), (.tsn, fun w => xwd (rh w) (lh w), fun a _ => a, fun _ => false),
   (.tdne, fun w => w, fun a _ => a, fun t => t == 0),
   (.tsne, fun w => xwd (rh w) (lh w), fun a _ => a, fun t => t == 0),
   (.tdna, fun w => w, fun a _ => a, fun _ => true), (.tsna, fun w => xwd (rh w) (lh w), fun a _ => a, fun _ => true),
   (.tdnn, fun w => w, fun a _ => a, fun t => t != 0),
   (.tsnn, fun w => xwd (rh w) (lh w), fun a _ => a, fun t => t != 0),
   (.tdz, fun w => w, fun a k => a &&& ~~~k, fun _ => false),
   (.tsz, fun w => xwd (rh w) (lh w), fun a k => a &&& ~~~k, fun _ => false),
   (.tdze, fun w => w, fun a k => a &&& ~~~k, fun t => t == 0),
   (.tsze, fun w => xwd (rh w) (lh w), fun a k => a &&& ~~~k, fun t => t == 0),
   (.tdza, fun w => w, fun a k => a &&& ~~~k, fun _ => true),
   (.tsza, fun w => xwd (rh w) (lh w), fun a k => a &&& ~~~k, fun _ => true),
   (.tdzn, fun w => w, fun a k => a &&& ~~~k, fun t => t != 0),
   (.tszn, fun w => xwd (rh w) (lh w), fun a k => a &&& ~~~k, fun t => t != 0),
   (.tdc, fun w => w, fun a k => a ^^^ k, fun _ => false),
   (.tsc, fun w => xwd (rh w) (lh w), fun a k => a ^^^ k, fun _ => false),
   (.tdce, fun w => w, fun a k => a ^^^ k, fun t => t == 0),
   (.tsce, fun w => xwd (rh w) (lh w), fun a k => a ^^^ k, fun t => t == 0),
   (.tdca, fun w => w, fun a k => a ^^^ k, fun _ => true),
   (.tsca, fun w => xwd (rh w) (lh w), fun a k => a ^^^ k, fun _ => true),
   (.tdcn, fun w => w, fun a k => a ^^^ k, fun t => t != 0),
   (.tscn, fun w => xwd (rh w) (lh w), fun a k => a ^^^ k, fun t => t != 0),
   (.tdo, fun w => w, fun a k => a ||| k, fun _ => false),
   (.tso, fun w => xwd (rh w) (lh w), fun a k => a ||| k, fun _ => false),
   (.tdoe, fun w => w, fun a k => a ||| k, fun t => t == 0),
   (.tsoe, fun w => xwd (rh w) (lh w), fun a k => a ||| k, fun t => t == 0),
   (.tdoa, fun w => w, fun a k => a ||| k, fun _ => true),
   (.tsoa, fun w => xwd (rh w) (lh w), fun a k => a ||| k, fun _ => true),
   (.tdon, fun w => w, fun a k => a ||| k, fun t => t != 0),
   (.tson, fun w => xwd (rh w) (lh w), fun a k => a ||| k, fun t => t != 0)]

/-- CAI with its eight conditions on signed values (R700). -/
def caiForms : List ((AcNum → EaField → Instr) × (Int → Int → Prop)) :=
  [(.cai, fun _ _ => False), (.cail, fun x y => x < y), (.caie, fun x y => x = y), (.caile, fun x y => x ≤ y),
   (.caia, fun _ _ => True), (.caige, fun x y => y ≤ x), (.cain, fun x y => x ≠ y), (.caig, fun x y => y < x)]

/-- CAM with its eight conditions on signed values (R700). -/
def camForms : List ((AcNum → EaField → Instr) × (Int → Int → Prop)) :=
  [(.cam, fun _ _ => False), (.caml, fun x y => x < y), (.came, fun x y => x = y), (.camle, fun x y => x ≤ y),
   (.cama, fun _ _ => True), (.camge, fun x y => y ≤ x), (.camn, fun x y => x ≠ y), (.camg, fun x y => y < x)]

/-- JUMP with its eight conditions on signed values (R700). -/
def jumpForms : List ((AcNum → EaField → Instr) × (Int → Int → Prop)) :=
  [(.jump, fun _ _ => False), (.jumpl, fun x y => x < y), (.jumpe, fun x y => x = y), (.jumple, fun x y => x ≤ y),
   (.jumpa, fun _ _ => True), (.jumpge, fun x y => y ≤ x), (.jumpn, fun x y => x ≠ y), (.jumpg, fun x y => y < x)]

/-- SKIP with its eight conditions on signed values (R700). -/
def skipForms : List ((AcNum → EaField → Instr) × (Int → Int → Prop)) :=
  [(.skip, fun _ _ => False), (.skipl, fun x y => x < y), (.skipe, fun x y => x = y), (.skiple, fun x y => x ≤ y),
   (.skipa, fun _ _ => True), (.skipge, fun x y => y ≤ x), (.skipn, fun x y => x ≠ y), (.skipg, fun x y => y < x)]

/-- AOJ and SOJ with the word they add and their eight conditions on signed values (R700, R701). -/
def acStepForms : List ((AcNum → EaField → Instr) × Word × (Int → Int → Prop)) :=
  [(.aoj, 1, fun _ _ => False), (.aojl, 1, fun x y => x < y), (.aoje, 1, fun x y => x = y),
   (.aojle, 1, fun x y => x ≤ y), (.aoja, 1, fun _ _ => True), (.aojge, 1, fun x y => y ≤ x),
   (.aojn, 1, fun x y => x ≠ y), (.aojg, 1, fun x y => y < x), (.soj, 0o777777777777, fun _ _ => False),
   (.sojl, 0o777777777777, fun x y => x < y), (.soje, 0o777777777777, fun x y => x = y),
   (.sojle, 0o777777777777, fun x y => x ≤ y), (.soja, 0o777777777777, fun _ _ => True),
   (.sojge, 0o777777777777, fun x y => y ≤ x), (.sojn, 0o777777777777, fun x y => x ≠ y),
   (.sojg, 0o777777777777, fun x y => y < x)]

/-- AOS and SOS with the word they add and their eight conditions on signed values (R700, R701). -/
def memStepForms : List ((AcNum → EaField → Instr) × Word × (Int → Int → Prop)) :=
  [(.aos, 1, fun _ _ => False), (.aosl, 1, fun x y => x < y), (.aose, 1, fun x y => x = y),
   (.aosle, 1, fun x y => x ≤ y), (.aosa, 1, fun _ _ => True), (.aosge, 1, fun x y => y ≤ x),
   (.aosn, 1, fun x y => x ≠ y), (.aosg, 1, fun x y => y < x), (.sos, 0o777777777777, fun _ _ => False),
   (.sosl, 0o777777777777, fun x y => x < y), (.sose, 0o777777777777, fun x y => x = y),
   (.sosle, 0o777777777777, fun x y => x ≤ y), (.sosa, 0o777777777777, fun _ _ => True),
   (.sosge, 0o777777777777, fun x y => y ≤ x), (.sosn, 0o777777777777, fun x y => x ≠ y),
   (.sosg, 0o777777777777, fun x y => y < x)]

/-- The arithmetic forms that load AC from AC and C(E) and set flags. -/
def loadFlagForms : List ((AcNum → EaField → Instr) × (Word → Word → WordFlags)) :=
  [(.add, fun a w => add36 a w false), (.sub, fun a w => sub36 a w), (.imul, imul36), (.movn, fun _ w => neg36 w),
   (.movm, fun _ w => mag36 w)]

/-- The arithmetic forms that load AC from AC and 0,,E and set flags. -/
def immediateFlagForms : List ((AcNum → EaField → Instr) × (Word → Word → WordFlags)) :=
  [(.addi, fun a w => add36 a w false), (.subi, fun a w => sub36 a w), (.imuli, imul36), (.movni, fun _ w => neg36 w)]

/-- The arithmetic forms that store in C(E) a function of AC and C(E) and set flags. -/
def modifyFlagForms : List ((AcNum → EaField → Instr) × (Word → Word → WordFlags)) :=
  [(.addm, fun a w => add36 a w false), (.subm, fun a w => sub36 a w), (.imulm, imul36)]

/-- The arithmetic forms that store a function of AC and C(E) in both and set flags. -/
def bothFlagForms : List ((AcNum → EaField → Instr) × (Word → Word → WordFlags)) :=
  [(.addb, fun a w => add36 a w false), (.subb, fun a w => sub36 a w), (.imulb, imul36)]

/-- MOVNM and MOVMM. -/
def storeFlagForms : List ((AcNum → EaField → Instr) × (Word → WordFlags)) :=
  [(.movnm, neg36), (.movmm, mag36)]

/-- MOVNS and MOVMS. -/
def selfFlagForms : List ((AcNum → EaField → Instr) × (Word → WordFlags)) :=
  [(.movns, neg36), (.movms, mag36)]

/-- MUL: the operand fetch, and whether memory and AC receive the result (R625 to R628). -/
def mulForms : List ((AcNum → EaField → Instr) × (VAddr → M Word) × Bool × Bool) :=
  [(.mul, rdE, false, true), (.muli, immOperand, false, true), (.mulm, rdmE, true, false), (.mulb, rdmE, true, true)]

/-- IDIV and DIV: the quotient function, the operand fetch, and whether memory and AC receive the result (R630 to
R637). -/
def divForms : List ((AcNum → EaField → Instr) × (Config → Word → Word → Word → Option (Word × Word)) × (VAddr →
  M Word) × Bool × Bool) :=
  [(.idiv, idivQuot, rdE, false, true), (.idivi, idivQuot, immOperand, false, true),
   (.idivm, idivQuot, rdmE, true, false), (.idivb, idivQuot, rdmE, true, true), (.div, div72, rdE, false, true),
   (.divi, div72, immOperand, false, true), (.divm, div72, rdmE, true, false), (.divb, div72, rdmE, true, true)]

/-- The single-precision operations: the operation, whether it rounds, the operand fetch, and whether memory and AC
receive the result (R513 to R540). -/
def floatForms : List ((AcNum → EaField → Instr) × FloatOp × Bool × (VAddr → M Word) × Bool × Bool) :=
  [(.fad, .add, false, rdE, false, true), (.fadm, .add, false, rdmE, true, false),
   (.fadb, .add, false, rdmE, true, true), (.fadr, .add, true, rdE, false, true),
   (.fadri, .add, true, floatImm, false, true), (.fadrm, .add, true, rdmE, true, false),
   (.fadrb, .add, true, rdmE, true, true), (.fsb, .sub, false, rdE, false, true),
   (.fsbm, .sub, false, rdmE, true, false), (.fsbb, .sub, false, rdmE, true, true),
   (.fsbr, .sub, true, rdE, false, true), (.fsbri, .sub, true, floatImm, false, true),
   (.fsbrm, .sub, true, rdmE, true, false), (.fsbrb, .sub, true, rdmE, true, true),
   (.fmp, .mul, false, rdE, false, true), (.fmpm, .mul, false, rdmE, true, false),
   (.fmpb, .mul, false, rdmE, true, true), (.fmpr, .mul, true, rdE, false, true),
   (.fmpri, .mul, true, floatImm, false, true), (.fmprm, .mul, true, rdmE, true, false),
   (.fmprb, .mul, true, rdmE, true, true), (.fdv, .div, false, rdE, false, true),
   (.fdvm, .div, false, rdmE, true, false), (.fdvb, .div, false, rdmE, true, true),
   (.fdvr, .div, true, rdE, false, true), (.fdvri, .div, true, floatImm, false, true),
   (.fdvrm, .div, true, rdmE, true, false), (.fdvrb, .div, true, rdmE, true, true)]

/-- The double-precision operations (R505 to R508). -/
def dfloatForms : List ((AcNum → EaField → Instr) × FloatOp) :=
  [(.dfad, .add), (.dfsb, .sub), (.dfmp, .mul), (.dfdv, .div)]

/-- The one-word shifts without flags (R662, R663). -/
def shiftForms : List ((AcNum → EaField → Instr) × (Word → VAddr → Word)) :=
  [(.rot, rot), (.lsh, lsh)]

/-- The two-word shifts without flags (R666 to R668); CIRC exists under ITS. -/
def shift2Forms : List ((AcNum → EaField → Instr) × Bool × (Word → Word → VAddr → Word × Word)) :=
  [(.rotc, false, rotc), (.lshc, false, lshc), (.circ, true, circ)]

/-- The local UUOs by opcode (R402 to R432). -/
def luuoForms : List ((AcNum → EaField → Instr) × BitVec 9) :=
  [(.luuo01, 0o1), (.luuo02, 0o2), (.luuo03, 0o3), (.luuo04, 0o4), (.luuo05, 0o5), (.luuo06, 0o6), (.luuo07, 0o7),
   (.luuo10, 0o10), (.luuo11, 0o11), (.luuo12, 0o12), (.luuo13, 0o13), (.luuo14, 0o14), (.luuo15, 0o15),
   (.luuo16, 0o16), (.luuo17, 0o17), (.luuo20, 0o20), (.luuo21, 0o21), (.luuo22, 0o22), (.luuo23, 0o23),
   (.luuo24, 0o24), (.luuo25, 0o25), (.luuo26, 0o26), (.luuo27, 0o27), (.luuo30, 0o30), (.luuo31, 0o31),
   (.luuo32, 0o32), (.luuo33, 0o33), (.luuo34, 0o34), (.luuo35, 0o35), (.luuo36, 0o36), (.luuo37, 0o37)]

/-- The functions that store a register in C(E): the setting of ITS they exist under, if gated, and the word stored. -/
def registerReads : List ((EaField → Instr) × Option Bool × (State → Word)) :=
  [(.aprid, none, fun s => s.cfg.apridWord), (.rdapr, none, fun s => xwd (s.apr.enb.setWidth 18 <<< 4) (aprStatus s)),
   (.rdpi, none, fun s => xwd (s.pi.prq.setWidth 18) (piStatus s)), (.rdubr, none, State.ubrWord),
   (.rdebr, none, rdebr), (.rdspb, some false, fun s => s.base.spb.setWidth 36),
   (.rdcsb, some false, fun s => s.base.csb.setWidth 36), (.rdpur, some false, fun s => s.base.pur),
   (.rdcstm, some false, fun s => s.base.cstm), (.sdbr1, some true, fun s => s.base.dbr1.setWidth 36),
   (.sdbr2, some true, fun s => s.base.dbr2.setWidth 36), (.sdbr3, some true, fun s => s.base.dbr3.setWidth 36),
   (.sdbr4, some true, fun s => s.base.dbr4.setWidth 36), (.rdint, none, fun s => s.interval),
   (.rdhsb, none, fun s => s.base.hsb.setWidth 36)]

/-- The functions that load a register from C(E): the setting of ITS they exist under, if gated, and the change. -/
def registerLoads : List ((EaField → Instr) × Option Bool × (Word → State → State)) :=
  [(.wrubr, none, wrubrSt),
   (.wrspb, some false, fun w s => ({ s with base := { s.base with spb := physBits s w } } : State).invalidateAll),
   (.wrcsb, some false, fun w s => ({ s with base := { s.base with csb := physBits s w } } : State).invalidateAll),
   (.wrpur, some false, fun w s => ({ s with base := { s.base with pur := w } } : State).invalidateAll),
   (.wrcstm, some false, fun w s => ({ s with base := { s.base with cstm := w } } : State).invalidateAll),
   (.ldbr1, some true, fun w s => ({ s with base := { s.base with dbr1 := physBits s w } } : State).invalidateAll),
   (.ldbr2, some true, fun w s => ({ s with base := { s.base with dbr2 := physBits s w } } : State).invalidateAll),
   (.ldbr3, some true, fun w s => ({ s with base := { s.base with dbr3 := physBits s w } } : State).invalidateAll),
   (.ldbr4, some true, fun w s => ({ s with base := { s.base with dbr4 := physBits s w } } : State).invalidateAll),
   (.wrint, none, fun w s => { s with interval := w }),
   (.wrhsb, none, fun w s => { s with base := { s.base with hsb := physBits s w } })]

/-- The functions whose operand is E itself: the setting of ITS they exist under, if gated, and the change. -/
def addressFunctions : List ((EaField → Instr) × Option Bool × (VAddr → State → State)) :=
  [(.wrapr, none, fun e s => { s with apr := wraprApr e s.apr }),
   (.wrpi, none, fun e s => { s with pi := wrpiPi e s.pi }), (.wrebr, none, wrebrSt),
   (.clrpt, none, fun e s => s.invalidate (vpnOf e)), (.clrcsh, some true, fun _ s => s)]

/-- CONSZ and CONSO: the status half tested, and whether a zero or a nonzero test skips. -/
def statusTests : List ((EaField → Instr) × (State → Half) × Bool) :=
  [(.conszapr, aprStatus, true), (.consoapr, aprStatus, false), (.conszpi, piStatus, true),
   (.consopi, piStatus, false)]

/-- The bus reads that load AC: the setting of ITS, how the bus address is formed, and the width. -/
def busReads : List ((AcNum → EaField → Instr) × Bool × IoAddr × IoSize) :=
  [(.rdio, false, .plain, .word), (.rdiob, false, .plain, .byte), (.iord, true, .plain, .word),
   (.iordb, true, .plain, .byte), (.iordi, true, .formI, .word), (.iordbi, true, .formI, .byte),
   (.iordq, true, .formQ, .word), (.iordbq, true, .formQ, .byte)]

/-- The bus writes from AC: the setting of ITS, how the bus address is formed, and the width. -/
def busWrites : List ((AcNum → EaField → Instr) × Bool × IoAddr × IoSize) :=
  [(.wrio, false, .plain, .word), (.wriob, false, .plain, .byte), (.iowr, true, .plain, .word),
   (.iowrb, true, .plain, .byte), (.iowri, true, .formI, .word), (.iowrbi, true, .formI, .byte),
   (.iowrq, true, .formQ, .word), (.iowrbq, true, .formQ, .byte)]

/-- The bus tests: the width, and whether a zero or a nonzero result skips. -/
def busTests : List ((AcNum → EaField → Instr) × IoSize × Bool) :=
  [(.tioe, .word, true), (.tion, .word, false), (.tioeb, .byte, true), (.tionb, .byte, false)]

/-- The bus read-modify-writes: the function of the register and AC, and the width. -/
def busModifies : List ((AcNum → EaField → Instr) × (Word → Word → Word) × IoSize) :=
  [(.bsio, fun v a => v ||| a, .word), (.bcio, fun v a => v &&& ~~~a, .word), (.bsiob, fun v a => v ||| a, .byte),
   (.bciob, fun v a => v &&& ~~~a, .byte)]

/-- The string compares by their condition on the order of the strings (R552). -/
def compareStrings : List ((AcNum → VAddr → EaField → Instr) × (Ordering → Prop)) :=
  [(.cmpsl, fun o => o = .lt), (.cmpse, fun o => o = .eq), (.cmpsle, fun o => o ≠ .gt), (.cmpsge, fun o => o ≠ .lt),
   (.cmpsn, fun o => o ≠ .eq), (.cmpsg, fun o => o = .gt)]

/-- MOVSO, MOVST and MOVSLJ: what a source byte becomes under E1 (R564 to R566). -/
def moveStrings : List ((AcNum → VAddr → EaField → Instr) × (VAddr → Word → Word → M Moved)) :=
  [(.movso, fun e1 => byOffset (sextE e1)), (.movst, byTable), (.movslj, fun _ => asIs)]

/-- CVTDBO and CVTDBT: the digit of a byte under E1 (R560, R561). -/
def toBinaryStrings : List ((AcNum → VAddr → EaField → Instr) × (VAddr → Word → Word → M Digit)) :=
  [(.cvtdbo, fun e1 => digitByOffset (sextE e1)), (.cvtdbt, digitByTable)]

/-- CVTBDO and CVTBDT: the byte of a digit under E1 (R562, R563). -/
def toDecimalStrings : List ((AcNum → VAddr → EaField → Instr) × (VAddr → Nat → M Word)) :=
  [(.cvtbdo, fun e1 => decByOffset (sextE e1)), (.cvtbdt, decByTable)]

/-- How the count of one more XCT level ends an instruction that started in `s` (R686), `t` being the state it has reached
with that level counted: the stop beyond `XCT_MAX`, or the re-entry of the chaining checkpoint. -/
def XctEnds (s t u : State) : Prop :=
  (s.cfg.xctMax ≠ 0 ∧ s.cfg.xctMax < s.xctCount + 1 ∧ u = { t with pc := s.ipc, report := .stop .xct }) ∨
  ((s.cfg.xctMax = 0 ∨ s.xctCount + 1 ≤ s.cfg.xctMax) ∧ s.xctCount ≠ 0 ∧ s.piCycle = false ∧
    (t.piPending ≠ 0 ∨ t.arrival = true) ∧ u = { t.passCheckpoint with pc := s.ipc, report := .reenter })

/-- The fields of a soft page-fail word in the default layout (R200): U, H, A, W, S/M, C, P, IO, WR and the address. -/
def SoftWord (p : Word) (user a w sm c pub wr : Bool) (va : VAddr) : Prop :=
  p.getLsbD 35 = user ∧ p.getLsbD 34 = false ∧ p.getLsbD 33 = a ∧ p.getLsbD 32 = w ∧ p.getLsbD 31 = sm ∧
    p.getLsbD 30 = c ∧ p.getLsbD 25 = pub ∧ p.getLsbD 24 = false ∧ p.getLsbD 23 = wr ∧
    p.setWidth 22 = va.setWidth 22

/-- The instructions that exist under one discipline only, and under which (45_shift_jump.md R668, R688; 49_io.md R1113,
R1117, R1120 to R1139, R1147, R1150 to R1176). -/
def gatedForms : List ((AcNum → EaField → Instr) × Bool) :=
  [(.circ, true), (.map, false)] ++
    [Instr.clrcsh, .sdbr1, .sdbr2, .sdbr3, .sdbr4, .spm, .ldbr1, .ldbr2, .ldbr3, .ldbr4, .lpmr].map
      (fun i => (fun _ => i, true)) ++
    [Instr.rdspb, .rdcsb, .rdpur, .rdcstm, .wrspb, .wrcsb, .wrpur, .wrcstm].map (fun i => (fun _ => i, false)) ++
    busReads.map (fun p => (p.1, p.2.1)) ++ busWrites.map (fun p => (p.1, p.2.1)) ++
    busTests.map (fun p => (p.1, false)) ++ busModifies.map (fun p => (p.1, false))

end Sys2Proof.Statements

open Sys2Proof Sys2Proof.Machine Sys2Proof.Statements

/-- After reset every register to which the spec gives a value has it: PC and IPC are START_PC, the 13 flags are 0
and the mode is executive (the accumulators, memory and TIMEBASE have no value in the spec and are not named).
Rests on 70_reset_and_hazards.md section 1, R1400; 10_state.md sections 4, 10 and 12, R70, R97, R100. -/
def Obligations.ResetRegisters : Prop :=
  State.reset.pc = State.reset.cfg.startPc ∧ State.reset.ipc = State.reset.cfg.startPc ∧
    State.reset.flags = Flags.zero ∧ State.reset.inUser = false ∧ State.reset.its1pr = false ∧
      State.reset.its2pr = false ∧
    State.reset.base.ebr = ⟨false, false, 0⟩ ∧ State.reset.base.ubr = ⟨0, 0, 0⟩ ∧
    State.reset.base.spb = 0 ∧ State.reset.base.csb = 0 ∧ State.reset.base.cstm = 0 ∧ State.reset.base.pur = 0 ∧
    State.reset.base.dbr1 = 0 ∧ State.reset.base.dbr2 = 0 ∧ State.reset.base.dbr3 = 0 ∧ State.reset.base.dbr4 = 0 ∧
    State.reset.base.hsb = 0o376000 ∧ State.reset.apr = ⟨0, 0, 0⟩ ∧ State.reset.interval = 0 ∧
    State.reset.pi.on = false ∧ State.reset.pi.enb = 0 ∧ State.reset.pi.act = 0 ∧ State.reset.pi.prq = 0 ∧
    State.reset.piPending = 0 ∧ State.reset.cache = ⟨[], [], none, none⟩ ∧ State.reset.pagerWord = 0 ∧
    State.reset.piCycle = false ∧ State.reset.indCount = 0 ∧ State.reset.xctCount = 0 ∧ State.reset.forcedExec = none

/-- The invariant of Safety.lean holds after reset. Rests on 70_reset_and_hazards.md section 1; 10_state.md
sections 5, 9 and 11. -/
def Obligations.ResetInvariant : Prop :=
  State.reset.inv = true

/-- From every state with the invariant, a step that answers a next state answers one with the invariant: memory
and the pager tables stay in canonical form and within bounds, under ITS the flags register never holds AFI, and
outside ITS the 1-proceed latches stay 0. Rests on 10_state.md sections 5, 9 and 11, R75, R90, R99;
60_exceptions.md sections 6 to 8. -/
def Obligations.StepKeepsInvariant : Prop :=
  ∀ s t : State, s.inv = true → Sys2Proof.Machine.step s = .next t → t.inv = true

/-- At an ordinary fetch a step runs the instruction the word at PC decodes to, with IPC and the counters set and
PC advanced past the word; that the fetch, wherever it fetches, uses up a request to skip a breakpoint is the
model's choice (log entry 46). Rests on 60_exceptions.md section 8, R1260; 30_encoding.md section 4, R330. -/
def Obligations.StepRunsDecoded : Prop :=
  ∀ (s s1 t : State) (w : Word), AtFetch s →
    vread .cur s.pc { s with report := .ok, ipc := s.pc, indCount := 0, xctCount := 0, bkptSkip := false } = .ok w s1 →
    exec (decode s.cfg w) { s1 with pc := s1.pc + 1, pxct := 0, inhibit := false } = .next t → t.pending = none →
      t.its2pr = false →
    Sys2Proof.Machine.step s = .next { t with pxct := 0, inhibit := false, phase := .fetch }

/-- When the instruction fetched leaves a word to execute (XCT, PXCT, XCTR, XCTRI, a local UUO), the same step runs
that word with its selection bits; a forced execute runs the word at its physical address in place of a fetch, in
executive mode whatever USER is (log entry 11), with IPC the PC. The model's own: that the forced word starts with
one XCT level counted and no indirection (log entries 12 and 30, DEDUCED), that no 1-proceed trap follows it and it
keeps the latch (log entry 31, DEDUCED), and that an ordinary fetch, wherever it fetches, uses up a request to skip
a breakpoint (log entry 46). Rests on 45_shift_jump.md section 4, R686, R687; 60_exceptions.md sections 3 and 8,
R1223, R1260. -/
def Obligations.StepRunsTarget : Prop :=
  (∀ (s s1 t u : State) (w : Word) (p : Pending), AtFetch s →
    vread .cur s.pc { s with report := .ok, ipc := s.pc, indCount := 0, xctCount := 0, bkptSkip := false } = .ok w s1 →
    exec (decode s.cfg w) { s1 with pc := s1.pc + 1, pxct := 0, inhibit := false } = .next t → t.pending = some p →
      t.cfg = s.cfg →
    exec (decode s.cfg p.word) { t with pending := none, pxct := p.pxct, inhibit := p.inhibit } = .next u →
      u.pending = none →
    u.its2pr = false → Sys2Proof.Machine.step s = .next { u with pxct := 0, inhibit := false, phase := .fetch }) ∧
  (∀ (s t : State) (a : Nat) (w : Word), s.pending = none → s.env.agenda = [] → s.env.fatal = false →
    s.forcedExec = some a → a < s.cfg.memSize → tblGet s.mem a = some w →
    exec (decode s.cfg w) { s with
      report := .ok, forcedExec := none, ipc := s.pc, phase := .forced, indCount := 0, xctCount := 1, pxct := 0
      inhibit := false } = .next t →
    t.pending = none → (t.its2pr = true → t.phase = .forced) →
    Sys2Proof.Machine.step s = .next { t with pxct := 0, inhibit := false, phase := .fetch }) ∧
  ∀ s : State, s.phase = .forced → s.inUser = false ∧ s.mayExec = true ∧ s.mayIo = true

/-- Decoding the words of a well-formed instruction gives the instruction back, for every instruction, every
operand value and every configuration. Rests on 30_encoding.md sections 1 and 4; 43_extend.md section 1. -/
def Obligations.DecodeEncode : Prop :=
  ∀ (cfg : Config) (i : Instr), i.wf cfg = true → decodeWords cfg ((encode i).map BitVec.toNat) = .ok i

/-- Every word decodes to a well-formed instruction, and encoding that gives the word back. Rests on 30_encoding.md
sections 1, 4 and 5, R331, R340. -/
def Obligations.EncodeDecode : Prop :=
  ∀ (cfg : Config) (w : Word), (decode cfg w).wf cfg = true ∧ encode (decode cfg w) = [w]

/-- A few words written out from the encodings decode to the instructions they stand for. Rests on
95_test_vectors.md section 3; 30_encoding.md section 4. -/
def Obligations.DecodeWrittenWords : Prop :=
  decode Config.default 0o201040000005 = .movei 1 ⟨false, 0, 5⟩ ∧
    decode Config.default 0o200063000077 = .move 1 ⟨true, 3, 0o77⟩ ∧
    decode Config.default 0o254520001100 = .jen ⟨true, 0, 0o1100⟩ ∧
    decode Config.default 0o700600002224 = .wrpi ⟨false, 0, 0o2224⟩ ∧
    decode Config.default 0o040100000300 = .muuo 0o040 2 ⟨false, 0, 0o300⟩ ∧
    decodeWords Config.default [0o123040000100, 0o016000000000] = .ok (.movslj 1 0o100 ⟨false, 0, 0⟩)

/-- A virtual reference to an address below 0o20 reads and writes the accumulator block of its context and nothing
else, whatever the paging. Formalises R160. -/
def Obligations.AccumulatorAlias : Prop :=
  ∀ (c : Ctx) (va : VAddr) (v : Word) (s : State), va.toNat < 0o20 →
    vread c va s = .ok (s.acOf (s.block c) (va.setWidth 4)) s ∧
    vreadM c va s = .ok (s.acOf (s.block c) (va.setWidth 4)) s ∧
    ∃ t, vwrite c va v s = .ok () t ∧ t.acOf (s.block c) (va.setWidth 4) = v ∧
      (∀ (b : BitVec 3) (n : AcNum), ¬ (b = s.block c ∧ n = va.setWidth 4) → t.acOf b n = s.acOf b n) ∧
      { t with acb := s.acb } = s

/-- A virtual reference from 0o20 up reaches one physical word: with paging off the word of the same address, with
paging on the one its translation in the space of its context gives, in READ mode for a read and in WRITE mode for
a write and for a write-checked read, which so demands a writable page; a read gives what is held there, a write
changes that word and no other, and a translation that aborts aborts the reference with the state it leaves. Beyond
MEMSIZE NXM is set and nothing else of the APR; with paging off a read then gives 0 and a write changes nothing,
with paging on the reference, and ReadP and WriteP too, page-fail with the non-existent-memory word. Rests on
20_memory.md sections 3 and 4, R161 to R163, R166, R169, R170, R200. -/
def Obligations.PhysicalMemory : Prop :=
  (∀ (c : Ctx) (va : VAddr) (v w : Word) (s : State), s.base.ebr.pgon = false → 0o20 ≤ va.toNat →
    (va.toNat < s.cfg.memSize → tblGet s.mem va.toNat = some w → vread c va s = .ok w s ∧ vreadM c va s = .ok w s) ∧
    (va.toNat < s.cfg.memSize → ∃ t, vwrite c va v s = .ok () t ∧ tblGet t.mem va.toNat = some v ∧
      MemSameOutside (· = va.toNat) s t ∧ { t with mem := s.mem } = s) ∧
    (s.cfg.memSize ≤ va.toNat → vread c va s = .ok 0 s.signalNxm ∧ vreadM c va s = .ok 0 s.signalNxm ∧
      vwrite c va v s = .ok () s.signalNxm)) ∧
  (∀ (c : Ctx) (va : VAddr) (v w : Word) (s t n : State) (pa : Nat), s.base.ebr.pgon = true → 0o20 ≤ va.toNat →
    n = { t.signalNxm with pagerWord := s.pfwWord (.nxm (s.space c) pa) } →
    (translate (s.space c) .read va s = .ok pa t →
      (pa < s.cfg.memSize → tblGet t.mem pa = some w → vread c va s = .ok w t) ∧
      (s.cfg.memSize ≤ pa → vread c va s = .error .pageFail n)) ∧
    (translate (s.space c) .write va s = .ok pa t →
      (pa < s.cfg.memSize → (tblGet t.mem pa = some w → vreadM c va s = .ok w t) ∧
        ∃ u, vwrite c va v s = .ok () u ∧ tblGet u.mem pa = some v ∧ MemSameOutside (· = pa) t u ∧
          { u with mem := t.mem } = t) ∧
      (s.cfg.memSize ≤ pa → vreadM c va s = .error .pageFail n ∧ vwrite c va v s = .error .pageFail n)) ∧
    (vreadM c va s = .ok w t → ∃ e : TlbEntry,
      tblGet (t.cache.table (s.space c)) (vpnOf va) = some e ∧ e.writable = true)) ∧
  (∀ (c : Ctx) (va : VAddr) (v : Word) (s t : State) (a : Abort), 0o20 ≤ va.toNat →
    (translate (s.space c) .read va s = .error a t → vread c va s = .error a t) ∧
    (translate (s.space c) .write va s = .error a t →
      vreadM c va s = .error a t ∧ vwrite c va v s = .error a t)) ∧
  (∀ (user : Bool) (pa : Nat) (v w : Word) (s : State),
    (pa < s.cfg.memSize → (tblGet s.mem pa = some w → readP user pa s = .ok w s) ∧
      writeP user pa v s = .ok () (s.setMem pa v)) ∧
    (s.cfg.memSize ≤ pa → s.base.ebr.pgon = true →
      readP user pa s = .error .pageFail { s.signalNxm with pagerWord := s.pfwWord (.nxm user pa) } ∧
      writeP user pa v s = .error .pageFail { s.signalNxm with pagerWord := s.pfwWord (.nxm user pa) }) ∧
    (s.cfg.pfwLayout = .standard → s.pfwWord (.nxm user pa) =
      0o370000000000 ||| (if user then 0o400000000000 else 0) ||| BitVec.ofNat 36 pa)) ∧
  ∀ s : State, { s.signalNxm with apr := s.apr } = s ∧ s.signalNxm.apr.enb = s.apr.enb ∧
    s.signalNxm.apr.lvl = s.apr.lvl ∧
    ∀ i < 8, s.signalNxm.apr.flg.getLsbD i = (s.apr.flg.getLsbD i || i == s.cfg.aprBits.nxm.toNat)

/-- The effective-address calculation, a read and a write-checked read change no register, and no word of memory
but those the pager itself rewrites (a CST entry under TOPS-20, a page-table word under ITS); a write to memory
changes besides only the word at the address its translation gives; the indirection count never falls. Rests on
20_memory.md sections 3 and 4; 30_encoding.md section 2; 10_state.md sections 9 and 10, R92, R95. -/
def Obligations.OperandFrame : Prop :=
  (∀ (m : EaField) (e : VAddr) (s t : State), ea m s = .ok e t → SameRegisters s t ∧ MemSameOutside s.pagerOwns s t) ∧
  (∀ (c : Ctx) (va : VAddr) (w : Word) (s t : State), vread c va s = .ok w t ∨ vreadM c va s = .ok w t →
    SameRegisters s t ∧ MemSameOutside s.pagerOwns s t) ∧
  (∀ (c : Ctx) (va : VAddr) (v : Word) (s t : State), 0o20 ≤ va.toNat → vwrite c va v s = .ok () t →
    SameRegisters s t ∧ ∀ (pa : Nat) (u : State), translate (s.space c) .write va s = .ok pa u →
      MemSameOutside (fun a => s.pagerOwns a ∨ a = pa) s t)

/-- A direct address is Y plus the right half of the index register, and nothing of the state changes; an indirect
one continues with the word it names; the step of number n of the calculation, which numbers its steps from 1, is a
Stop(IND) exactly when IND_MAX is not 0 and n exceeds it; from the second step on an interrupt pending is a
re-entry, outside the interrupt sequence; each step adds 1 to the instruction's indirection count, which a
calculation takes up as it stands. That this count runs beside the n of R312 is the model's reading of R95 (log
entry 30). Rests on 30_encoding.md section 2, R310, R312; 10_state.md section 10, R95. -/
def Obligations.EffectiveAddress : Prop :=
  (∀ (m : EaField) (s : State), m.ind = false →
    ea m s = .ok (if m.idx = 0 then m.y else m.y + rh (s.acOf (s.block s.ctxEa) m.idx)) s) ∧
  (∀ (c : Ctx) (m : EaField) (s : State), eaIn c m s = eaLoop c s.eaFuel 0 none m s) ∧
  (∀ (c : Ctx) (k n : Nat) (last : Option Word) (m : EaField) (w : Word) (s t : State), m.ind = true →
    (s.cfg.indMax = 0 ∨ n + 1 ≤ s.cfg.indMax) → (n = 0 ∨ s.piPending = 0 ∧ s.env.arrivals = []) →
    vread c (if m.idx = 0 then m.y else m.y + rh (s.acOf (s.block c) m.idx))
      { s with indCount := s.indCount + 1 } = .ok w t →
    eaLoop c (k + 1) n last m s = eaLoop c k (n + 1) (some w) (eaField w) t) ∧
  (∀ (c : Ctx) (k n : Nat) (last : Option Word) (m : EaField) (s : State), m.ind = true → s.cfg.indMax ≠ 0 →
    s.cfg.indMax < n + 1 →
    eaLoop c (k + 1) n last m s = .error (.stop .ind) { s with indCount := s.indCount + 1 }) ∧
  (∀ (c : Ctx) (k n : Nat) (last : Option Word) (m : EaField) (s t : State), m.ind = true →
    (s.cfg.indMax = 0 ∨ n + 1 ≤ s.cfg.indMax) → n ≠ 0 → t = { s with indCount := s.indCount + 1 } →
    s.piCycle = false → (t.piPending ≠ 0 ∨ t.arrival = true) →
      eaLoop c (k + 1) n last m s = .error .reenter t.passCheckpoint)

/-- TOPS-10 translation of a page not cached, or cached not writable for a write, by the entry in the page map: a
read of an accessible page gives the physical page of the entry and caches it; a write succeeds on a writable page
and caches it, and on another page-fails with the fields of the entry, the space, the write and the address in the
status word and nothing cached; an inaccessible page fails in every mode. Rests on 20_memory.md section 4, R180,
R181, R182, R200. -/
def Obligations.Tops10Translation : Prop :=
  ∀ (user : Bool) (va : VAddr) (w : Word) (s : State), s.base.ebr.pgon = true → s.cfg.its = false →
    s.base.ebr.t20 = false → s.cfg.wf = true →
    s.t10Pair user (vpnOf va) < s.cfg.memSize → tblGet s.mem (s.t10Pair user (vpnOf va)) = some w →
    ∀ (pte : Half) (p : Nat), pte = (if vpnOf va % 2 = 0 then lh w else rh w) →
    p = pte.toNat % 2 ^ (s.cfg.paWidth - 9) →
    (tblGet (s.cache.table user) (vpnOf va) = none → pte.getLsbD 17 = true →
      ∃ t, translate user .read va s = .ok (p * 0o1000 + offOf va) t ∧
        tblGet (t.cache.table user) (vpnOf va) = some ⟨BitVec.ofNat 13 p, pte.getLsbD 15⟩ ∧ t.mem = s.mem) ∧
    ((∀ e, tblGet (s.cache.table user) (vpnOf va) = some e → e.writable = false) →
      pte.getLsbD 17 = true → pte.getLsbD 15 = true →
      ∃ t, translate user .write va s = .ok (p * 0o1000 + offOf va) t ∧
        tblGet (t.cache.table user) (vpnOf va) = some ⟨BitVec.ofNat 13 p, true⟩ ∧ t.mem = s.mem) ∧
    ((∀ e, tblGet (s.cache.table user) (vpnOf va) = some e → e.writable = false) →
      pte.getLsbD 17 = true → pte.getLsbD 15 = false → ∃ t, translate user .write va s = .error .pageFail t ∧
      t.cache = s.cache ∧ t.mem = s.mem ∧
      (s.cfg.pfwLayout = .standard → t.pagerWord.getLsbD 35 = user ∧ t.pagerWord.getLsbD 34 = false ∧
        t.pagerWord.getLsbD 33 = true ∧ t.pagerWord.getLsbD 32 = false ∧ t.pagerWord.getLsbD 31 = pte.getLsbD 14 ∧
        t.pagerWord.getLsbD 30 = pte.getLsbD 13 ∧ t.pagerWord.getLsbD 25 = pte.getLsbD 16 ∧
        t.pagerWord.getLsbD 23 = true ∧ t.pagerWord.setWidth 18 = va)) ∧
    (pte.getLsbD 17 = false → ∀ mode : AccMode,
      (∀ e, tblGet (s.cache.table user) (vpnOf va) = some e → mode = .write ∧ e.writable = false) →
      ∃ t, translate user mode va s = .error .pageFail t ∧ t.cache = s.cache ∧ t.mem = s.mem)

/-- TOPS-20 and ITS translation of a page not cached, or cached not writable for a write: what a pointer of each
type resolves to, and how the section and page pointers are found, an indirect pointer beyond IND_MAX being a
Stop(IND) and one with an interrupt pending, or coming there (log entry 7), a re-entry; with the CST consulted for the data page alone, an aged
entry written back and the page cached, writable only once its M bit is set, or a page fail for a bad pointer, an
age of 0 or a write to a page not writable, the status word saying each; under ITS the halfword of the pair gives
the page, clears its age bit in memory and caches both DEC slots, and access class 0, or a class not writable for a
write, page-fails with nothing changed but the status word. The model's own: that IND_MAX bounds the steps of one
chain, with ind_count beside it, and every pointer step is a checkpoint (log entry 30, DEDUCED), that the SPB, CSB
and DBR sums are not wrapped (log entry 41, DESIGN CHOICE), and the 0 in the fields of the status word that R187
does not name (log entry 42, DESIGN CHOICE). Rests on 20_memory.md section 4, R170, R173, R185 to R187, R200;
20_memory.md section 4, R190 to R192, R201. -/
def Obligations.PagedTranslation : Prop :=
  (∀ (user : Bool) (mode : AccMode) (k n : Nat) (ptr x y : Word) (accW accC : Bool) (s : State) (ty : Nat)
    (w c : Bool), ty = (ptr.extractLsb' 33 3).toNat → w = (accW && ptr.getLsbD 31) → c = (accC && ptr.getLsbD 29) →
    s.cfg.t20CstTables = false →
    (ty = 1 → resolve user mode (k + 1) n ptr accW accC s = .ok (if ptr.extractLsb' 18 6 = 0 then
      some ⟨BitVec.ofNat 13 (ptr.toNat % 2 ^ (s.cfg.paWidth - 9)), w, c⟩ else none) s) ∧
    (ty ≠ 1 → ty ≠ 2 → ty ≠ 3 → resolve user mode (k + 1) n ptr accW accC s = .ok none s) ∧
    (s.base.spb.toNat + (rh ptr).toNat < s.cfg.memSize → tblGet s.mem (s.base.spb.toNat + (rh ptr).toNat) = some x →
      (ty = 2 → resolve user mode (k + 1) n ptr accW accC s = .ok (if x.extractLsb' 18 6 = 0 then
        some ⟨BitVec.ofNat 13 (x.toNat % 2 ^ (s.cfg.paWidth - 9)), w, c⟩ else none) s) ∧
      (ty = 3 → x.extractLsb' 18 6 ≠ 0 → resolve user mode (k + 1) n ptr accW accC s = .ok none s) ∧
      ∀ a : Nat, a = (BitVec.ofNat 13 (x.toNat % 2 ^ (s.cfg.paWidth - 9))).toNat * 0o1000
        + (ptr.extractLsb' 18 9).toNat →
        ty = 3 → x.extractLsb' 18 6 = 0 → a < s.cfg.memSize → tblGet s.mem a = some y → mode ≠ .map →
        (s.cfg.indMax = 0 ∨ n + 1 ≤ s.cfg.indMax) → s.piPending = 0 → s.env.arrivals = [] →
        resolve user mode (k + 1) n ptr accW accC s =
          resolve user mode k (n + 1) y w c { s with indCount := s.indCount + 1 }) ∧
    (∀ t : State, s.base.spb.toNat + (rh ptr).toNat < s.cfg.memSize →
      tblGet s.mem (s.base.spb.toNat + (rh ptr).toNat) = some x → ty = 3 → x.extractLsb' 18 6 = 0 → mode ≠ .map →
      t = { s with indCount := s.indCount + 1 } →
      (s.cfg.indMax ≠ 0 → s.cfg.indMax < n + 1 →
        resolve user mode (k + 1) n ptr accW accC s = .error (.stop .ind) t) ∧
      ((s.cfg.indMax = 0 ∨ n + 1 ≤ s.cfg.indMax) → s.piCycle = false → (t.piPending ≠ 0 ∨ t.arrival = true) →
        resolve user mode (k + 1) n ptr accW accC s = .error .reenter t.passCheckpoint)) ∧
    (∀ a : Nat, a = (BitVec.ofNat 13 (x.toNat % 2 ^ (s.cfg.paWidth - 9))).toNat * 0o1000
      + (ptr.extractLsb' 18 9).toNat →
      s.base.spb.toNat + (rh ptr).toNat < s.cfg.memSize → tblGet s.mem (s.base.spb.toNat + (rh ptr).toNat) = some x →
      ty = 3 → x.extractLsb' 18 6 = 0 → a < s.cfg.memSize → tblGet s.mem a = some y → mode = .map →
      resolve user mode (k + 1) n ptr accW accC s =
        if n + 1 ≤ (if s.cfg.indMax = 0 then 2 ^ 18 else s.cfg.indMax) then resolve user mode k (n + 1) y w c s
        else .ok none s)) ∧
  (∀ (user : Bool) (mode : AccMode) (va : VAddr) (p q : Word) (r : PageRef) (s t : State) (b a : Nat),
    s.cfg.t20CstTables = false → b = (if user then s.upt else s.ept) + 0o540 → a = r.ppn.toNat * 0o1000 + vpnOf va →
    (s.cache.sect user = some r → sectionRef user mode va s = .ok r s) ∧
    (s.cache.sect user = none → b < s.cfg.memSize → tblGet s.mem b = some p →
      resolve user mode s.resolveFuel 0 p true true s = .ok (some r) t →
      sectionRef user mode va s = .ok r (if mode = .map then t else t.setSect user r)) ∧
    (s.cache.sect user = none → b < s.cfg.memSize → tblGet s.mem b = some p →
      resolve user mode s.resolveFuel 0 p true true s = .ok none t → ∃ u,
        sectionRef user mode va s = .error .pageFail u ∧
        { u with pagerWord := t.pagerWord } = t ∧ (s.cfg.pfwLayout = .standard →
          SoftWord u.pagerWord user false false false false false (decide (mode = .write)) va)) ∧
    (∀ ab : Abort, s.cache.sect user = none → b < s.cfg.memSize → tblGet s.mem b = some p →
      resolve user mode s.resolveFuel 0 p true true s = .error ab t → sectionRef user mode va s = .error ab t) ∧
    (a < s.cfg.memSize → tblGet s.mem a = some q →
      pageRef user mode va r s = resolve user mode s.resolveFuel 0 q r.writable r.cacheable s)) ∧
  (∀ (user : Bool) (mode : AccMode) (va : VAddr) (r pg : PageRef) (s s1 s2 : State) (cst new : Word) (a : Nat),
    s.base.ebr.pgon = true → s.cfg.its = false → s.base.ebr.t20 = true →
    (∀ e, tblGet (s.cache.table user) (vpnOf va) = some e → mode = .write ∧ e.writable = false) →
    (∀ (ab : Abort) (t : State), sectionRef user mode va s = .error ab t →
      translate user mode va s = .error ab t) ∧
    (sectionRef user mode va s = .ok r s1 →
    (∀ (ab : Abort) (t : State), pageRef user mode va r s1 = .error ab t → translate user mode va s = .error ab t) ∧
    (pageRef user mode va r s1 = .ok none s2 → ∃ t, translate user mode va s = .error .pageFail t ∧
      { t with pagerWord := s2.pagerWord } = s2 ∧ (s.cfg.pfwLayout = .standard →
        SoftWord t.pagerWord user false false false false false (decide (mode = .write)) va)) ∧
    (pageRef user mode va r s1 = .ok (some pg) s2 → a = s2.base.csb.toNat + pg.ppn.toNat → a < s2.cfg.memSize →
      tblGet s2.mem a = some cst →
      new = ((cst &&& s2.base.cstm) ||| s2.base.pur) ||| (if mode = .write then 1 else 0) →
      (cst.extractLsb' 30 6 = 0 ∨ (mode = .write ∧ pg.writable = false) →
        ∃ t, translate user mode va s = .error .pageFail t ∧ { t with pagerWord := s2.pagerWord } = s2 ∧
          (s.cfg.pfwLayout = .standard → if cst.extractLsb' 30 6 = 0
            then SoftWord t.pagerWord user false false false false false (decide (mode = .write)) va
            else SoftWord t.pagerWord user true false (cst.getLsbD 0) pg.cacheable false true va)) ∧
      (cst.extractLsb' 30 6 ≠ 0 → (mode = .write → pg.writable = true) → mode ≠ .map →
        (mode = .write ∨ s2.cfg.t20CstWriteOnly = false) →
        ∃ t, translate user mode va s = .ok (pg.ppn.toNat * 0o1000 + offOf va) t ∧ tblGet t.mem a = some new ∧
          MemSameOutside (· = a) s2 t ∧
          tblGet (t.cache.table user) (vpnOf va) = some ⟨pg.ppn, pg.writable && new.getLsbD 0⟩) ∧
      (cst.extractLsb' 30 6 ≠ 0 → mode = .read → s2.cfg.t20CstWriteOnly = true →
        ∃ t, translate user mode va s = .ok (pg.ppn.toNat * 0o1000 + offOf va) t ∧ t.mem = s2.mem ∧
          tblGet (t.cache.table user) (vpnOf va) = some ⟨pg.ppn, pg.writable && new.getLsbD 0⟩) ∧
      (cst.extractLsb' 30 6 ≠ 0 → (mode = .write → pg.writable = true) → s.cfg.pfwLayout = .standard →
        ∀ (p : Nat) (t : State), translate user mode va s = .ok p t →
          SoftWord t.pagerWord user true pg.writable (new.getLsbD 0) pg.cacheable false (decide (mode = .write)) va)))) ∧
  ∀ (user : Bool) (mode : AccMode) (va : VAddr) (w : Word) (pte : Half) (s : State) (ip p a : Nat) (wr : Bool),
    s.base.ebr.pgon = true → s.cfg.its = true → s.cfg.wf = true →
    (∀ e, tblGet (s.cache.table user) (vpnOf va) = some e → mode = .write ∧ e.writable = false) →
    ip = va.toNat / 0o2000 →
    a = (match user, va.getLsbD 17 with
      | true, false => s.base.dbr1
      | true, true => s.base.dbr2
      | false, true => s.base.dbr3
      | false, false => s.base.dbr4).toNat + ip % 0o200 / 2 →
    a < s.cfg.memSize → tblGet s.mem a = some w → pte = (if ip % 2 = 0 then lh w else rh w) →
    p = pte.toNat % 2 ^ (s.cfg.paWidth - 10) → wr = s.cfg.itsWritable.getLsbD (pte.extractLsb' 16 2).toNat →
    (pte.extractLsb' 16 2 = 0 ∨ (mode = .write ∧ wr = false) → ∃ t, translate user mode va s = .error .pageFail t ∧
      { t with pagerWord := s.pagerWord } = s ∧
      (s.cfg.pfwItsLayout = .standard → t.pagerWord.getLsbD 35 = user ∧
        t.pagerWord.extractLsb' 28 2 = pte.extractLsb' 16 2 ∧ t.pagerWord.getLsbD 21 = decide (mode = .write) ∧
        t.pagerWord.setWidth 18 = va)) ∧
    (pte.extractLsb' 16 2 ≠ 0 → (mode = .write → wr = true) → mode ≠ .map →
      ∃ t, translate user mode va s = .ok (p * 0o2000 + va.toNat % 0o2000) t ∧
        tblGet t.mem a = some (w &&& ~~~(if ip % 2 = 0 then 0o100000000000 else 0o000000100000)) ∧
        MemSameOutside (· = a) s t ∧
        tblGet (t.cache.table user) (2 * ip) = some ⟨BitVec.ofNat 13 (2 * p), wr⟩ ∧
        tblGet (t.cache.table user) (2 * ip + 1) = some ⟨BitVec.ofNat 13 (2 * p + 1), wr⟩)

/-- Under every paging discipline a cached entry translates every reference to its page, a write only when it is
writable, with no walk and no change of state; a translation for writing that succeeds leaves a writable entry
cached for the page, and its physical address is the one of that entry. Rests on 10_state.md section 9, R91;
20_memory.md sections 4 to 7, R170, R182, R187, R192. -/
def Obligations.WriteNeedsWritablePage : Prop :=
  (∀ (user : Bool) (mode : AccMode) (va : VAddr) (e : TlbEntry) (s : State), s.base.ebr.pgon = true →
    tblGet (s.cache.table user) (vpnOf va) = some e → (mode = .write → e.writable = true) →
    translate user mode va s = .ok (e.ppn.toNat * 0o1000 + offOf va) s) ∧
  ∀ (user : Bool) (va : VAddr) (pa : Nat) (s t : State), s.base.ebr.pgon = true →
    translate user .write va s = .ok pa t →
    ∃ e : TlbEntry, tblGet (t.cache.table user) (vpnOf va) = some e ∧ e.writable = true ∧
      pa = e.ppn.toNat * 0o1000 + offOf va

/-- A level is pending exactly when the PI system is on, the level is requested and enabled, no lower-numbered
level is, and no level numbered the same or lower is active. Formalises R1213. -/
def Obligations.PendingLevel : Prop :=
  ∀ (s : State) (n : Nat), 1 ≤ n → n ≤ 7 →
    (s.piPending = n ↔ s.pi.on = true ∧
      ((s.piAprq ||| s.pi.ioq ||| s.pi.prq) &&& s.pi.enb).getLsbD (7 - n) = true ∧
      (∀ k, 1 ≤ k → k < n → ((s.piAprq ||| s.pi.ioq ||| s.pi.prq) &&& s.pi.enb).getLsbD (7 - k) = false) ∧
      ∀ k, 1 ≤ k → k ≤ n → s.pi.act.getLsbD (7 - k) = false)

/-- Dismissing clears the lowest-numbered active level and changes nothing else. Formalises R1214. -/
def Obligations.DismissHighest : Prop :=
  ∀ s : State, ({ dismissSt s with pi := s.pi } : State) = s ∧
    (dismissSt s).pi.on = s.pi.on ∧ (dismissSt s).pi.enb = s.pi.enb ∧ (dismissSt s).pi.prq = s.pi.prq ∧
    (dismissSt s).pi.ioq = s.pi.ioq ∧
    ∀ n, 1 ≤ n → n ≤ 7 → ((dismissSt s).pi.act.getLsbD (7 - n) = true ↔
      s.pi.act.getLsbD (7 - n) = true ∧ ∃ k, 1 ≤ k ∧ k < n ∧ s.pi.act.getLsbD (7 - k) = true)

/-- By default the cell of level n is EPT + 0o40 + 2n. The APR requests the level APR LVL, and no other, exactly
while an enabled APR flag is set. A granted level whose cell holds JSR E, with paging off: FLPC is stored at E, the
flags are cleared, PC becomes E+1 and the level is active; XPCW E stores flags and PC at E and E+1 and loads them
from E+2 and E+3; a cell that holds neither is Stop(ILLINT) with PC as it was; a level a device alone requests with
a vector runs the instruction of its vector table, and a table pointer of 0 is Stop(ZERVEC); with paging on, a cell
that does not exist is Stop(TRPNXM) and a page fail of the store of JSR is Stop(PAGINT). With paging on or off, and
with E an accumulator or not, JSR and XPCW end as their references in the executive space do. That PC stays as it is
at ILLINT, ZERVEC and TRPNXM, where R1202 says so of PAGINT alone and R1282 has PC = IPC for a stop inside an
instruction, is the model's reading (log entry 29), and so is the 1-proceed request in the new flags of XPCW (log
entry 48). Rests on 60_exceptions.md sections 2 and 3, R1212, R1220, R1221, R1222; 60_exceptions.md sections 1, 7
and 10, R1202, R1206, R1250, R1282. -/
def Obligations.InterruptEntry : Prop :=
  (∀ (s : State) (n : Nat), s.cfg.piCellBase = Config.default.piCellBase →
    s.piCell n = s.base.ebr.eptPg.toNat * 0o1000 + 0o40 + 2 * n) ∧
  (∀ (s : State) (n : Nat), 1 ≤ n → n ≤ 7 → (s.piAprq.getLsbD (7 - n) = true ↔ s.apr.lvl.toNat = n ∧
    ∃ i < 8, s.apr.flg.getLsbD i = true ∧ s.apr.enb.getLsbD i = true)) ∧
  (∀ (s : State) (n : Nat) (w : Word), s.pending = none → s.env.agenda = [] → s.env.fatal = false →
    s.forcedExec = none → n ≠ 0 → s.piPending = n → s.deviceOnly n = false ∨ s.env.vectors.headD none = none →
    s.base.ebr.pgon = false → s.piCell n < s.cfg.memSize → tblGet s.mem (s.piCell n) = some w →
    (opField w = 0o264 → 0o20 ≤ (rh w).toNat → (rh w).toNat < s.cfg.memSize →
      ∃ t, Sys2Proof.Machine.step s = .next t ∧ tblGet t.mem (rh w).toNat = some s.flpc ∧ t.flags = Flags.zero ∧
        t.pc = rh w + 1 ∧ t.pi.act = s.pi.act ||| lvbit n ∧ t.piCycle = false ∧ t.report = .ok ∧ t.acb = s.acb ∧
        MemSameOutside (· = (rh w).toNat) s t) ∧
    (opField w = 0o254 → acField w = 7 → ∀ f p : Word, 0o20 ≤ (rh w).toNat → (rh w).toNat + 3 < s.cfg.memSize →
      (rh w).toNat + 3 < 2 ^ 18 → tblGet s.mem ((rh w).toNat + 2) = some f → tblGet s.mem ((rh w).toNat + 3) = some p →
      ∃ t, Sys2Proof.Machine.step s = .next t ∧ tblGet t.mem (rh w).toNat = some (xwd s.flags.toHalf 0) ∧
        tblGet t.mem ((rh w).toNat + 1) = some (xwd 0 s.pc) ∧ t.pc = rh p ∧
        t.flags = { Flags.ofHalf (lh f) with afi := (Flags.ofHalf (lh f)).afi && !s.cfg.its } ∧
        t.pi.act = s.pi.act ||| lvbit n ∧ t.piCycle = false ∧ t.report = .ok ∧ t.acb = s.acb ∧
        MemSameOutside (fun a => a = (rh w).toNat ∨ a = (rh w).toNat + 1) s t) ∧
    (opField w ≠ 0o264 → ¬ (opField w = 0o254 ∧ acField w = 7) →
      ∃ t, Sys2Proof.Machine.step s = .next t ∧ t.report = .stop .illint ∧ t.pc = s.pc ∧ t.piCycle = false ∧
        t.pi.act = s.pi.act ||| lvbit n ∧ t.acb = s.acb ∧ t.mem = s.mem)) ∧
  (∀ (s : State) (n k c : Nat) (v : Half) (vs : List (Option (Nat × Half))) (tbl w : Word), s.pending = none →
    s.env.agenda = [] → s.env.fatal = false → s.forcedExec = none → n ≠ 0 → s.piPending = n → s.deviceOnly n = true →
    s.env.vectors = some (k, v) :: vs → s.base.ebr.pgon = false → s.ept + 0o100 + k < s.cfg.memSize →
    tblGet s.mem (s.ept + 0o100 + k) = some tbl →
    c = (tbl.toNat % 2 ^ s.cfg.paWidth + v.toNat / 4) % 2 ^ s.cfg.paWidth →
    (tbl = 0 → ∃ t, Sys2Proof.Machine.step s = .next t ∧ t.report = .stop .zervec ∧ t.pc = s.pc ∧ t.acb = s.acb ∧
      t.mem = s.mem ∧ t.flags = s.flags ∧ t.pi.act = s.pi.act ||| lvbit n ∧ t.piCycle = false) ∧
    (tbl ≠ 0 → c < s.cfg.memSize → tblGet s.mem c = some w → opField w = 0o264 → 0o20 ≤ (rh w).toNat →
      (rh w).toNat < s.cfg.memSize → ∃ t, Sys2Proof.Machine.step s = .next t ∧ tblGet t.mem (rh w).toNat = some s.flpc ∧
        t.flags = Flags.zero ∧ t.pc = rh w + 1 ∧ t.pi.act = s.pi.act ||| lvbit n ∧ t.piCycle = false ∧ t.report = .ok ∧
        t.acb = s.acb ∧ t.env.vectors = vs ∧ t.env.log = .vector n :: s.env.log ∧
          MemSameOutside (· = (rh w).toNat) s t)) ∧
  (∀ (s k : State) (n : Nat) (w : Word), s.pending = none → s.env.agenda = [] → s.env.fatal = false →
    s.forcedExec = none → n ≠ 0 → s.piPending = n → s.deviceOnly n = false → s.piCell n < s.cfg.memSize →
    tblGet s.mem (s.piCell n) = some w → k = { s with
      report := .ok, pi := { s.pi with act := s.pi.act ||| lvbit n }, indCount := 0, piCycle := true } →
    (opField w = 0o264 → ∀ u : State, vwrite .execv (rh w) s.flpc { k with flags := Flags.zero } = .ok () u →
      Sys2Proof.Machine.step s = .next { u with pc := rh w + 1, piCycle := false }) ∧
    (opField w = 0o254 → acField w = 7 → ∀ (u1 u2 u3 u4 : State) (f p : Word),
      vwrite .execv (rh w) (xwd s.flags.toHalf 0) k = .ok () u1 →
      vwrite .execv (rh w + 1) (xwd 0 s.pc) u1 = .ok () u2 → vread .execv (rh w + 2) u2 = .ok f u3 →
      vread .execv (rh w + 3) u3 = .ok p u4 → Sys2Proof.Machine.step s = .next { u4 with
        pc := rh p, piCycle := false, its1pr := u4.its1pr || (u4.cfg.its && (lh f).getLsbD 9)
        flags := { Flags.ofHalf (lh f) with afi := (lh f).getLsbD 9 && !u4.cfg.its } })) ∧
  ∀ (s : State) (n : Nat), s.pending = none → s.env.agenda = [] → s.env.fatal = false → s.forcedExec = none → n ≠ 0 →
    s.piPending = n → s.deviceOnly n = false → s.base.ebr.pgon = true →
    (s.cfg.memSize ≤ s.piCell n → ∃ t, Sys2Proof.Machine.step s = .next t ∧ t.report = .stop .trpnxm ∧ t.pc = s.pc ∧
      t.flags = s.flags ∧ t.acb = s.acb ∧ t.mem = s.mem ∧ t.apr.flg.getLsbD s.cfg.aprBits.nxm.toNat = true ∧
      t.piCycle = false) ∧
    ∀ (w m : Word) (pte : Half), s.cfg.its = false → s.base.ebr.t20 = false → s.piCell n < s.cfg.memSize →
      tblGet s.mem (s.piCell n) = some w → opField w = 0o264 → 0o20 ≤ (rh w).toNat →
      tblGet s.cache.tlbExec (vpnOf (rh w)) = none → s.t10Pair false (vpnOf (rh w)) < s.cfg.memSize →
      tblGet s.mem (s.t10Pair false (vpnOf (rh w))) = some m →
      pte = (if vpnOf (rh w) % 2 = 0 then lh m else rh m) → (pte.getLsbD 17 = false ∨ pte.getLsbD 15 = false) →
      ∃ t, Sys2Proof.Machine.step s = .next t ∧ t.report = .stop .pagint ∧ t.pc = s.pc ∧ t.acb = s.acb ∧ t.mem = s.mem ∧
        t.pi.act = s.pi.act ||| lvbit n ∧ t.piCycle = false

/-- A page fail returns PC to IPC, stores the words of the save format of the discipline in their UPT cells, by
default the page-fail word and the old flags and PC at 0o500 on, under ITS at 0o440 on, the 1-proceed latch merged
into the saved flags as AFI, and enters the handler with all 13 new flags, PCU set when the old mode was user; the
latch is spent, and AFI among the new flags is the 1-proceed request under ITS. Rests on 60_exceptions.md section
1, R1203, R1205; 60_exceptions.md sections 6 and 7, R1246, R1250, R1257; 92_eei_decisions.md D44, D46. -/
def Obligations.PageFailEntry : Prop :=
  (∀ (s : State) (n : Word) (cells : PfCells) (old : Half) (mem : List (Nat × Word)), s.inhibit = false →
    old = ({ s.flags with afi := s.flags.afi || s.its2pr } : Flags).toHalf →
    cells = (if s.cfg.its then s.cfg.pfIts else if s.base.ebr.t20 then s.cfg.pfT20 else s.cfg.pfT10) →
    (∀ c ∈ cells.saves, s.upt + c.1 < s.cfg.memSize) → s.upt + cells.entry < s.cfg.memSize →
    mem = cells.saves.foldl (fun l c => tblSet l (s.upt + c.1) (match c.2 with
      | .status => s.pagerWord
      | .flpc => xwd old s.ipc
      | .flags => xwd old 0
      | .pc => xwd 0 s.ipc
      | .other k => Config.pfSaveOther k old s.ipc s.pagerWord)) s.mem →
    tblGet mem (s.upt + cells.entry) = some n →
    ∃ t, abortOutcome .pageFail s = .next t ∧ t.report = .pageFail ∧ t.pc = rh n ∧ t.mem = mem ∧ t.acb = s.acb ∧
      t.flags = { Flags.ofHalf (lh n) with
        uio := (lh n).getLsbD 11 || s.flags.user, afi := (lh n).getLsbD 9 && !s.cfg.its } ∧
      t.its2pr = false ∧ t.its1pr = (s.its1pr || (s.cfg.its && (lh n).getLsbD 9))) ∧
  ∀ (s : State) (n : Word) (base new : Nat) (old : Half), s.inhibit = false →
    old = ({ s.flags with afi := s.flags.afi || s.its2pr } : Flags).toHalf →
    s.cfg.pfT10 = Config.default.pfT10 → s.cfg.pfT20 = Config.default.pfT20 → s.cfg.pfIts = Config.default.pfIts →
    base = s.upt + (if s.cfg.its then 0o440 else 0o500) →
    new = base + (if s.base.ebr.t20 && !s.cfg.its then 3 else 2) → new < s.cfg.memSize → tblGet s.mem new = some n →
    ∃ t, abortOutcome .pageFail s = .next t ∧ t.pc = rh n ∧ tblGet t.mem base = some s.pagerWord ∧
      (s.base.ebr.t20 = true ∧ s.cfg.its = false → tblGet t.mem (base + 1) = some (xwd old 0) ∧
        tblGet t.mem (base + 2) = some (xwd 0 s.ipc)) ∧
      (¬ (s.base.ebr.t20 = true ∧ s.cfg.its = false) → tblGet t.mem (base + 1) = some (xwd old s.ipc)) ∧
      MemSameOutside (fun a => base ≤ a ∧ a < new) s t

/-- An MUUO opcode stores the words of the save format in force in their UPT cells, by default opcode, AC, E, old
flags and PC, and the context word at 0o424 on, the 1-proceed latch merged into the saved flags as AFI, and enters
the handler of the cell that USER, PUBLIC and the trap sequence (the odd cell) select, with all 13 new flags; the
latch is spent; opcode 0 under STOP_ON_OP0 is Stop(ILLEG), after E is computed (log entry 27), and leaves the state
before that, PC being IPC. Rests on
60_exceptions.md section 4, R1230, R1231, R1232; 60_exceptions.md sections 6 and 7, R1246, R1250, R1257; 40_uuo.md
section 3, R433; 92_eei_decisions.md D51. -/
def Obligations.MuuoEntry : Prop :=
  (∀ (op : BitVec 9) (ac : AcNum) (m : EaField) (s s1 : State) (e : VAddr) (n : Word) (cells : List (Nat × MuuoItem))
    (cell : Nat) (old opac : Half) (mem : List (Nat × Word)), ea m s = .ok e s1 →
    ¬ (s.cfg.stopOnOp0 = true ∧ op = 0) → old = ({ s.flags with afi := s.flags.afi || s.its2pr } : Flags).toHalf →
    opac = op ++ ac ++ (0 : BitVec 5) →
    cells = (if s.base.ebr.t20 && !s.cfg.its then s.cfg.muuoT20 else s.cfg.muuoT10) →
    cell = s.upt + s.cfg.muuoNew.toList.getD
      (4 * s.flags.user.toNat + 2 * s.flags.pub.toNat + (if s.phase = .trap then 1 else 0)) 0 →
    (∀ c ∈ cells, s.upt + c.1 < s.cfg.memSize) → cell < s.cfg.memSize →
    mem = cells.foldl (fun l c => tblSet l (s.upt + c.1) (match c.2 with
      | .opcodeE => xwd opac e
      | .flpc => xwd old s.pc
      | .context => s.ubrWord
      | .flagsOpcode => xwd old opac
      | .pc => xwd 0 s.pc
      | .e => xwd 0 e
      | .other k => Config.muuoSaveOther k op ac e old s.pc s.ubrWord)) s1.mem →
    tblGet mem cell = some n →
    ∃ t, exec (.muuo op ac m) s = .next t ∧ t.pc = rh n ∧ t.mem = mem ∧ t.acb = s.acb ∧
      t.flags = { Flags.ofHalf (lh n) with
        uio := (lh n).getLsbD 11 || s.flags.user, afi := (lh n).getLsbD 9 && !s.cfg.its } ∧
      t.its2pr = false ∧ t.its1pr = (s.its1pr || (s.cfg.its && (lh n).getLsbD 9))) ∧
  (∀ (op : BitVec 9) (ac : AcNum) (m : EaField) (s s1 : State) (e : VAddr) (n : Word) (cell : Nat) (old : Half),
    ea m s = .ok e s1 → ¬ (s.cfg.stopOnOp0 = true ∧ op = 0) →
    old = ({ s.flags with afi := s.flags.afi || s.its2pr } : Flags).toHalf →
    s.cfg.muuoT10 = Config.default.muuoT10 → s.cfg.muuoT20 = Config.default.muuoT20 →
    s.cfg.muuoNew = Config.default.muuoNew → s.upt + 0o440 ≤ s.cfg.memSize →
    cell = s.upt + 0o430 + 4 * s.flags.user.toNat + 2 * s.flags.pub.toNat + (if s.phase = .trap then 1 else 0) →
    tblGet s1.mem cell = some n →
    ∃ t, exec (.muuo op ac m) s = .next t ∧ t.pc = rh n ∧
      (¬ (s.base.ebr.t20 = true ∧ s.cfg.its = false) →
        tblGet t.mem (s.upt + 0o424) = some (xwd (op ++ ac ++ (0 : BitVec 5)) e) ∧
        tblGet t.mem (s.upt + 0o425) = some (xwd old s.pc) ∧ tblGet t.mem (s.upt + 0o426) = some s.ubrWord ∧
        MemSameOutside (fun a => s.upt + 0o424 ≤ a ∧ a ≤ s.upt + 0o426) s1 t) ∧
      (s.base.ebr.t20 = true ∧ s.cfg.its = false →
        tblGet t.mem (s.upt + 0o424) = some (xwd old (op ++ ac ++ (0 : BitVec 5))) ∧
        tblGet t.mem (s.upt + 0o425) = some (xwd 0 s.pc) ∧ tblGet t.mem (s.upt + 0o426) = some (xwd 0 e) ∧
        tblGet t.mem (s.upt + 0o427) = some s.ubrWord ∧
        MemSameOutside (fun a => s.upt + 0o424 ≤ a ∧ a ≤ s.upt + 0o427) s1 t)) ∧
  ∀ (ac : AcNum) (m : EaField) (s s1 : State) (e : VAddr), ea m s = .ok e s1 → s.cfg.stopOnOp0 = true →
    exec (.muuo 0 ac m) s = .next { s with pc := s.ipc, report := .stop .illeg }

/-- With paging on and a trap flag set, the next step clears both trap flags and runs the word of the trap cell of
the mode in place of a fetch, IPC being the PC; by default the cell is 0o420 in the UPT in user mode, else in the
EPT, and beyond it 1 for TRAP1, 2 for TRAP2, 3 for both. The model's own: that the trap word starts with one XCT
level counted and no indirection (log entries 12 and 30, DEDUCED), and that no 1-proceed trap follows it and it keeps
the latch (log entry 31, DEDUCED). Rests on 60_exceptions.md section 5, R1240. -/
def Obligations.ArithmeticTrap : Prop :=
  (∀ s : State, s.cfg.trapCells = Config.default.trapCells →
    s.trapCell = (if s.flags.user then s.base.ubr.uptPg.toNat else s.base.ebr.eptPg.toNat) * 0o1000 + 0o420 +
      (if s.flags.trap1 then 1 else 0) + (if s.flags.trap2 then 2 else 0)) ∧
  ∀ (s t : State) (w : Word), s.pending = none → s.env.agenda = [] → s.env.fatal = false → s.forcedExec = none →
    s.piPending = 0 → s.base.ebr.pgon = true → (s.flags.trap1 = true ∨ s.flags.trap2 = true) →
    s.trapCell < s.cfg.memSize → tblGet s.mem s.trapCell = some w →
    exec (decode s.cfg w) { s with
      flags := { s.flags with trap1 := false, trap2 := false }, report := .ok, ipc := s.pc, phase := .trap
      indCount := 0, xctCount := 1, pxct := 0, inhibit := false } = .next t →
    t.pending = none → (t.its2pr = true → t.phase = .trap) →
    Sys2Proof.Machine.step s = .next { t with pxct := 0, inhibit := false, phase := .fetch }

/-- A step at an ordinary fetch moves a 1-proceed request into the latch before it fetches and runs the
instruction; under ITS an instruction that completes with the 1-proceed latch set is followed in the same step by
the 1-proceed trap: flags and PC saved in the process table, a request set again merged into the saved flags as
AFI, the latch spent, and PC and all 13 new flags loaded, AFI among them being the new request; that the fetch uses
up a request to skip a breakpoint is the model's choice (log entry 46). Rests on
60_exceptions.md sections 6 to 8, R1245, R1250, R1260; 92_eei_decisions.md D48. -/
def Obligations.OneProceed : Prop :=
  (∀ (s s1 t : State) (w : Word), AtFetch { s with its1pr := false, its2pr := false } →
    (s.its1pr = true ∨ s.its2pr = true) →
    vread .cur s.pc { s with
      report := .ok, ipc := s.pc, indCount := 0, xctCount := 0, its2pr := true, its1pr := false,
        bkptSkip := false } = .ok w s1 →
    exec (decode s.cfg w) { s1 with pc := s1.pc + 1, pxct := 0, inhibit := false } = .next t → t.pending = none →
    Sys2Proof.Machine.step s = settle t ∧
    ∀ (n : Word) (mem : List (Nat × Word)), t.its2pr = true → t.phase = .fetch → t.report = .ok →
      t.upt + t.cfg.its1prOld < t.cfg.memSize → t.upt + t.cfg.its1prNew < t.cfg.memSize →
      mem = tblSet t.mem (t.upt + t.cfg.its1prOld)
        (xwd ({ t.flags with afi := t.flags.afi || t.its1pr } : Flags).toHalf t.pc) →
      tblGet mem (t.upt + t.cfg.its1prNew) = some n →
      ∃ u, Sys2Proof.Machine.step s = .next u ∧ u.its2pr = false ∧ u.pc = rh n ∧ u.acb = t.acb ∧ u.mem = mem ∧
        u.flags = { Flags.ofHalf (lh n) with afi := (lh n).getLsbD 9 && !t.cfg.its } ∧
        u.its1pr = (t.cfg.its && (lh n).getLsbD 9)) ∧
  ∀ (s : State) (n : Word) (mem : List (Nat × Word)), s.its2pr = true → s.phase = .fetch → s.report = .ok →
    s.pending = none → s.upt + s.cfg.its1prOld < s.cfg.memSize → s.upt + s.cfg.its1prNew < s.cfg.memSize →
    mem = tblSet s.mem (s.upt + s.cfg.its1prOld)
      (xwd ({ s.flags with afi := s.flags.afi || s.its1pr } : Flags).toHalf s.pc) →
    tblGet mem (s.upt + s.cfg.its1prNew) = some n →
    ∃ t, settle s = .next t ∧ t.its2pr = false ∧ t.pc = rh n ∧ t.acb = s.acb ∧ t.mem = mem ∧
      t.flags = { Flags.ofHalf (lh n) with afi := (lh n).getLsbD 9 && !s.cfg.its } ∧
      t.its1pr = (s.cfg.its && (lh n).getLsbD 9)

/-- A flag-restoring instruction cannot clear USER nor gain user I/O where USER is set, in a forced execute too:
the guard of set_newflags, and JRSTF, XJRSTF, JEN and XJEN that may run and complete. That a word executed by a
forced execute while USER is set runs in executive mode with the flags register unchanged, so that XJEN and JEN may
run there, is the model's choice (log entry 11). Rests on 60_exceptions.md section 7, R1250; 10_state.md section 4,
R65, R66. -/
def Obligations.RestoreKeepsUserMode : Prop :=
  (∀ (w : Half) (s : State), s.flags.user = true → (setNewflags w true s).flags.user = true ∧
    (s.flags.uio = false → (setNewflags w true s).flags.uio = false)) ∧
  ∀ (m : EaField) (s t : State), s.flags.user = true → s.report = .ok →
    exec (.jrstf m) s = .next t ∨ exec (.xjrstf m) s = .next t ∨ (s.mayIo = true ∧ exec (.jen m) s = .next t) ∨
      (s.mayExec = true ∧ exec (.xjen m) s = .next t) → t.report = .ok →
    t.flags.user = true ∧ (s.flags.uio = false → t.flags.uio = false)

/-- In user mode without user I/O every instruction of opcodes 0o700 to 0o777 is the MUUO of its own opcode, AC
field and E; so are JRST 10 and JEN, and in user mode HALT, XJEN, XPCW and SFM; XCTR and XCTRI are the MUUO in user
mode and outside ITS; the MUUO of their own opcode, AC field and E are also the instructions gated out by the
discipline: outside ITS CIRC, XJRST with XJRST_GATE = ITS_ONLY, CLRCSH, SDBR, LDBR, SPM, LPMR and the ITS bus
forms, and under ITS MAP, the DEC functions of 0o702 and the DEC bus forms. Rests on 49_io.md section 1, R1100;
49_io.md sections 4, 5, 8 and 9, R1113, R1117, R1120 to R1139, R1147, R1150 to R1176; 45_shift_jump.md sections 1,
3 and 4, R668, R673, R684, R688; 60_exceptions.md section 7, R1256; 41_byte_double.md sections 1 and 2, R452 to
R454. -/
def Obligations.Privilege : Prop :=
  (∀ (m : EaField) (s s1 : State) (e : VAddr), s.cfg.its = false → s.cfg.xjrstAlways = false →
    ea m s = .ok e s1 → exec (.xjrst m) s = finish (muuoSeq 0o254 0o15 e) s1) ∧
  (∀ p ∈ gatedForms, ∀ (op : BitVec 9) (c ac : AcNum) (m : EaField) (s s1 : State) (e : VAddr), s.cfg.its ≠ p.2 →
    encode (p.1 ac m) = [pack op c m] → ea m s = .ok e s1 → exec (p.1 ac m) s = finish (muuoSeq op c e) s1) ∧
  (∀ (i : Instr) (op : BitVec 9) (ac : AcNum) (m : EaField) (s s1 : State) (e : VAddr), encode i = [pack op ac m] →
    0o700 ≤ op.toNat → s.mayIo = false → ea m s = .ok e s1 → exec i s = finish (muuoSeq op ac e) s1) ∧
  (∀ p ∈ [(Instr.jrst10, (0o10 : AcNum)), (.jen, 0o12)], ∀ (m : EaField) (s s1 : State) (e : VAddr),
    s.mayIo = false → ea m s = .ok e s1 → exec (p.1 m) s = finish (muuoSeq 0o254 p.2 e) s1) ∧
  (∀ p ∈ [(Instr.xctri, (0o102 : BitVec 9)), (.xctr, 0o103)], ∀ (ac : AcNum) (m : EaField) (s s1 : State) (e : VAddr),
    (s.cfg.its = false ∨ s.mayExec = false) → ea m s = .ok e s1 → exec (p.1 ac m) s = finish (muuoSeq p.2 ac e) s1) ∧
  ∀ p ∈ [(Instr.halt, (4 : AcNum)), (.xjen, 6), (.xpcw, 7), (.sfm, 0o14)], ∀ (m : EaField) (s s1 : State) (e : VAddr),
    s.mayExec = false → ea m s = .ok e s1 → exec (p.1 m) s = finish (muuoSeq 0o254 p.2 e) s1

/-- MOVE, MOVS, the boolean functions of AC and memory and the halfword moves, basic form: AC receives the function
of AC and C(E), and nothing else changes. Rests on 47_boolean.md section 1, R800, R801; 48_halfword_test.md section
1, R900, R901; 44_move_arith.md section 2, R604, R608. -/
def Obligations.LoadForms : Prop :=
  ∀ p ∈ loadForms, ∀ (ac : AcNum) (m : EaField) (s s1 s2 : State) (e : VAddr) (w : Word), ea m s = .ok e s1 →
    rdE e s1 = .ok w s2 →
    exec (p.1 ac m) s = .next (s2.setAc ac (p.2 (s.ac ac) w))

/-- The immediate forms of the moves, the boolean functions and the halfword moves, and the boolean functions that
read no memory: AC receives the function of AC and 0,,E, and nothing else changes. Rests on 47_boolean.md section
1, R800, R801; 48_halfword_test.md section 1, R900, R901; 44_move_arith.md section 2, R605, R609, R617. -/
def Obligations.ImmediateForms : Prop :=
  (∀ p ∈ immediateForms, ∀ (ac : AcNum) (m : EaField) (s s1 : State) (e : VAddr), ea m s = .ok e s1 →
    exec (p.1 ac m) s = .next (s1.setAc ac (p.2 (s.ac ac) (xwd 0 e)))) ∧
  ∀ p ∈ acOnlyForms, ∀ (ac : AcNum) (m : EaField) (s s1 : State) (e : VAddr), ea m s = .ok e s1 →
    exec (p.1 ac m) s = .next (s1.setAc ac (p.2 (s.ac ac)))

/-- The memory and both forms that read C(E): E is read for writing, the function of AC and C(E) is stored at E,
the both form loads AC with it too, and nothing else changes. Rests on 47_boolean.md section 1, R801;
48_halfword_test.md section 1, R901; 20_memory.md section 3, R162, R168. -/
def Obligations.ModifyForms : Prop :=
  (∀ p ∈ modifyForms, ∀ (ac : AcNum) (m : EaField) (s s1 s2 t : State) (e : VAddr) (w : Word), ea m s = .ok e s1 →
    rdmE e s1 = .ok w s2 →
    wrE e (p.2 (s.ac ac) w) s2 = .ok () t → exec (p.1 ac m) s = .next t) ∧
  ∀ p ∈ bothForms, ∀ (ac : AcNum) (m : EaField) (s s1 s2 t : State) (e : VAddr) (w : Word), ea m s = .ok e s1 →
    rdmE e s1 = .ok w s2 →
    wrE e (p.2 (s.ac ac) w) s2 = .ok () t → exec (p.1 ac m) s = .next (t.setAc ac (p.2 (s.ac ac) w))

/-- The memory and both forms that read no memory: the function of AC is stored at E, the both form loads AC with
it too, and nothing else changes. Rests on 47_boolean.md section 1, R801; 48_halfword_test.md section 1, R901;
44_move_arith.md section 2, R606, R610. -/
def Obligations.StoreForms : Prop :=
  (∀ p ∈ storeForms, ∀ (ac : AcNum) (m : EaField) (s s1 t : State) (e : VAddr), ea m s = .ok e s1 →
    wrE e (p.2 (s.ac ac)) s1 = .ok () t →
    exec (p.1 ac m) s = .next t) ∧
  ∀ p ∈ storeBothForms, ∀ (ac : AcNum) (m : EaField) (s s1 t : State) (e : VAddr), ea m s = .ok e s1 →
    wrE e (p.2 (s.ac ac)) s1 = .ok () t → exec (p.1 ac m) s = .next (t.setAc ac (p.2 (s.ac ac)))

/-- The self forms of the moves and the halfword moves: the function of C(E) is stored at E, AC receives it when
the AC field is not 0, and nothing else changes. Rests on 44_move_arith.md section 2, R607, R611;
48_halfword_test.md section 1, R901. -/
def Obligations.SelfForms : Prop :=
  ∀ p ∈ selfForms, ∀ (ac : AcNum) (m : EaField) (s s1 s2 t : State) (e : VAddr) (w : Word), ea m s = .ok e s1 →
    rdmE e s1 = .ok w s2 →
    wrE e (p.2 w) s2 = .ok () t → exec (p.1 ac m) s = .next (if ac = 0 then t else t.setAc ac (p.2 w))

/-- The 64 tests: AC is changed by the mask, and the next instruction is skipped on the condition of the old AC and
the mask; nothing else changes. Rests on 48_halfword_test.md section 2, R980, R981. -/
def Obligations.TestForms : Prop :=
  (∀ p ∈ testImmediateForms, ∀ (ac : AcNum) (m : EaField) (s s1 : State) (e : VAddr), ea m s = .ok e s1 → ∀ t : State,
    t = s1.setAc ac (p.2.2.1 (s.ac ac) (p.2.1 e)) →
    exec (p.1 ac m) s = .next (if p.2.2.2 (s.ac ac &&& p.2.1 e) then t.setPc (t.pc + 1) else t)) ∧
  ∀ p ∈ testMemoryForms, ∀ (ac : AcNum) (m : EaField) (s s1 s2 : State) (e : VAddr) (w : Word), ea m s = .ok e s1 →
    rdE e s1 = .ok w s2 →
    ∀ t : State, t = s2.setAc ac (p.2.2.1 (s.ac ac) (p.2.1 w)) →
    exec (p.1 ac m) s = .next (if p.2.2.2 (s.ac ac &&& p.2.1 w) then t.setPc (t.pc + 1) else t)

/-- CAI and CAM skip, and JUMP jumps to E, exactly on the signed condition; SKIP skips on the condition of C(E) and
0 and loads AC when its field is not 0; nothing else changes. Rests on 46_compare_skip.md section 1, R700, R701. -/
def Obligations.CompareForms : Prop :=
  (∀ p ∈ caiForms, ∀ (ac : AcNum) (m : EaField) (s s1 : State) (e : VAddr), ea m s = .ok e s1 →
    (p.2 (signed (s.ac ac)) e.toNat → exec (p.1 ac m) s = .next (s1.setPc (s1.pc + 1))) ∧
    (¬ p.2 (signed (s.ac ac)) e.toNat → exec (p.1 ac m) s = .next s1)) ∧
  (∀ p ∈ camForms, ∀ (ac : AcNum) (m : EaField) (s s1 s2 : State) (e : VAddr) (w : Word), ea m s = .ok e s1 →
    rdE e s1 = .ok w s2 →
    (p.2 (signed (s.ac ac)) (signed w) → exec (p.1 ac m) s = .next (s2.setPc (s2.pc + 1))) ∧
    (¬ p.2 (signed (s.ac ac)) (signed w) → exec (p.1 ac m) s = .next s2)) ∧
  (∀ p ∈ jumpForms, ∀ (ac : AcNum) (m : EaField) (s s1 : State) (e : VAddr), ea m s = .ok e s1 →
    (p.2 (signed (s.ac ac)) 0 → exec (p.1 ac m) s = .next (s1.setPc e)) ∧
    (¬ p.2 (signed (s.ac ac)) 0 → exec (p.1 ac m) s = .next s1)) ∧
  ∀ p ∈ skipForms, ∀ (ac : AcNum) (m : EaField) (s s1 s2 t : State) (e : VAddr) (w : Word), ea m s = .ok e s1 →
    rdE e s1 = .ok w s2 →
    t = (if ac = 0 then s2 else s2.setAc ac w) →
    (p.2 (signed w) 0 → exec (p.1 ac m) s = .next (t.setPc (t.pc + 1))) ∧
    (¬ p.2 (signed w) 0 → exec (p.1 ac m) s = .next t)

/-- AOJ and SOJ add 1 or -1 to AC and jump on the signed condition of the sum; AOS and SOS do so to C(E) and skip,
loading AC when its field is not 0; the flags are those of the addition; nothing else changes. Rests on
46_compare_skip.md section 1, R700, R701; 44_move_arith.md section 1, R600. -/
def Obligations.StepCompareForms : Prop :=
  (∀ p ∈ acStepForms, ∀ (ac : AcNum) (m : EaField) (s s1 t : State) (e : VAddr) (r : WordFlags), ea m s = .ok e s1 →
    r = add36 (s.ac ac) p.2.1 false → t = (s1.setAc ac r.word).orFlags r.flags →
    (p.2.2 (signed r.word) 0 → exec (p.1 ac m) s = .next (t.setPc e)) ∧
    (¬ p.2.2 (signed r.word) 0 → exec (p.1 ac m) s = .next t)) ∧
  ∀ p ∈ memStepForms, ∀ (ac : AcNum) (m : EaField) (s s1 s2 s3 t : State) (e : VAddr) (w : Word) (r : WordFlags),
    ea m s = .ok e s1 →
    rdmE e s1 = .ok w s2 → r = add36 w p.2.1 false → wrE e r.word s2 = .ok () s3 →
    t = (if ac = 0 then s3 else s3.setAc ac r.word).orFlags r.flags →
    (p.2.2 (signed r.word) 0 → exec (p.1 ac m) s = .next (t.setPc (t.pc + 1))) ∧
    (¬ p.2.2 (signed r.word) 0 → exec (p.1 ac m) s = .next t)

/-- The basic and immediate forms of ADD, SUB, IMUL, MOVN and MOVM, and FLTR: AC receives the result, the flags of
the operation are set, and nothing else changes. Rests on 44_move_arith.md sections 1 to 5, R600, R602, R620;
42_float.md section 3, R511. -/
def Obligations.ArithmeticToAc : Prop :=
  (∀ p ∈ loadFlagForms, ∀ (ac : AcNum) (m : EaField) (s s1 s2 : State) (e : VAddr) (w : Word), ea m s = .ok e s1 →
    rdE e s1 = .ok w s2 →
    exec (p.1 ac m) s = .next ((s2.setAc ac (p.2 (s.ac ac) w).word).orFlags (p.2 (s.ac ac) w).flags)) ∧
  (∀ (ac : AcNum) (m : EaField) (s s1 s2 : State) (e : VAddr) (w : Word), ea m s = .ok e s1 → rdE e s1 = .ok w s2 →
    exec (.fltr ac m) s =
      .next ((s2.setAc ac (floatedNum s.cfg w).word).orFlags (floatedNum s.cfg w).flags)) ∧
  ∀ p ∈ immediateFlagForms, ∀ (ac : AcNum) (m : EaField) (s s1 : State) (e : VAddr), ea m s = .ok e s1 →
    exec (p.1 ac m) s =
      .next ((s1.setAc ac (p.2 (s.ac ac) (xwd 0 e)).word).orFlags (p.2 (s.ac ac) (xwd 0 e)).flags)

/-- The memory, both and self forms of ADD, SUB, IMUL, MOVN and MOVM: the result is stored at E, AC receives it
where the form says so, the flags are set after the store, and nothing else changes. Rests on 44_move_arith.md
sections 1 to 5, R600, R602, R603, R620. -/
def Obligations.ArithmeticToMemory : Prop :=
  (∀ p ∈ modifyFlagForms, ∀ (ac : AcNum) (m : EaField) (s s1 s2 t : State) (e : VAddr) (w : Word),
    ea m s = .ok e s1 → rdmE e s1 = .ok w s2 →
    wrE e (p.2 (s.ac ac) w).word s2 = .ok () t → exec (p.1 ac m) s = .next (t.orFlags (p.2 (s.ac ac) w).flags)) ∧
  (∀ p ∈ bothFlagForms, ∀ (ac : AcNum) (m : EaField) (s s1 s2 t : State) (e : VAddr) (w : Word), ea m s = .ok e s1 →
    rdmE e s1 = .ok w s2 →
    wrE e (p.2 (s.ac ac) w).word s2 = .ok () t →
    exec (p.1 ac m) s = .next ((t.setAc ac (p.2 (s.ac ac) w).word).orFlags (p.2 (s.ac ac) w).flags)) ∧
  (∀ p ∈ storeFlagForms, ∀ (ac : AcNum) (m : EaField) (s s1 t : State) (e : VAddr), ea m s = .ok e s1 →
    wrE e (p.2 (s.ac ac)).word s1 = .ok () t → exec (p.1 ac m) s = .next (t.orFlags (p.2 (s.ac ac)).flags)) ∧
  ∀ p ∈ selfFlagForms, ∀ (ac : AcNum) (m : EaField) (s s1 s2 t : State) (e : VAddr) (w : Word), ea m s = .ok e s1 →
    rdmE e s1 = .ok w s2 →
    wrE e (p.2 w).word s2 = .ok () t →
    exec (p.1 ac m) s = .next ((if ac = 0 then t else t.setAc ac (p.2 w).word).orFlags (p.2 w).flags)

/-- The sum with a carry in is the sum modulo 2^36 with the flags of the eight-case sign table; the difference is
the sum with the complement and 1; the negative and the magnitude have the flags of R602, the magnitude AOV, CRY1
and TRAP1 for MAXNEG and none otherwise. Rests on 44_move_arith.md section 1, R600, R602. -/
def Obligations.AddFlagTable : Prop :=
  (∀ (a b : Word) (cin : Bool) (r : Word), r = a + b + (if cin then 1 else 0) → (add36 a b cin).word = r ∧
    (add36 a b cin).flags =
      match negative a, negative b, negative r with
      | false, false, false => Flags.zero
      | false, false, true => { Flags.zero with cry1 := true, aov := true, trap1 := true }
      | false, true, false => { Flags.zero with cry0 := true, cry1 := true }
      | false, true, true => Flags.zero
      | true, false, false => { Flags.zero with cry0 := true, cry1 := true }
      | true, false, true => Flags.zero
      | true, true, false => { Flags.zero with cry0 := true, aov := true, trap1 := true }
      | true, true, true => { Flags.zero with cry0 := true, cry1 := true }) ∧
  (∀ a b : Word, (sub36 a b).word = a - b ∧ (sub36 a b).flags = (add36 a (~~~b) true).flags) ∧
  ∀ x : Word, (neg36 x).word = -x ∧ (neg36 x).flags = (add36 (~~~x) 0 true).flags ∧
    signed (mag36 x).word = (if x = 0o400000000000 then -2 ^ 35 else |signed x|) ∧
    (mag36 x).flags = (if x = 0o400000000000 then { Flags.zero with aov := true, cry1 := true, trap1 := true }
      else Flags.zero)

/-- MUL, IDIV and DIV in their four forms: the operands, an immediate one being 0,,E, the places the results go to,
and the flags; a division not performed sets AOV, TRAP1 and DCK and writes nothing. Rests on 44_move_arith.md
sections 1, 3 and 4, R601, R625 to R637; 30_encoding.md section 3, R320. -/
def Obligations.MulForms : Prop :=
  (∀ p ∈ mulForms, ∀ (ac : AcNum) (m : EaField) (s s1 s2 s3 : State) (e : VAddr) (b : Word), ea m s = .ok e s1 →
    p.2.1 e s1 = .ok b s2 →
    (if p.2.2.1 then wrE e (mul72 (s.ac ac) b).hi s2 else .ok () s2) = .ok () s3 →
    exec (p.1 ac m) s = .next ((if p.2.2.2 then
      (s3.setAc ac (mul72 (s.ac ac) b).hi).setAc (ac + 1) (mul72 (s.ac ac) b).lo else s3).orFlags
        (mul72 (s.ac ac) b).flags)) ∧
  (∀ p ∈ divForms, ∀ (ac : AcNum) (m : EaField) (s s1 s2 s3 : State) (e : VAddr) (b q r : Word), ea m s = .ok e s1 →
    p.2.2.1 e s1 = .ok b s2 → p.2.1 s.cfg (s.ac ac) (s.ac (ac + 1)) b = some (q, r) →
    (if p.2.2.2.1 then wrE e q s2 else .ok () s2) = .ok () s3 →
    exec (p.1 ac m) s = .next (if p.2.2.2.2 then (s3.setAc ac q).setAc (ac + 1) r else s3)) ∧
  (∀ (e : VAddr) (s : State), immOperand e s = .ok ((0 : Half) ++ e) s) ∧
  ∀ p ∈ divForms, ∀ (ac : AcNum) (m : EaField) (s s1 s2 : State) (e : VAddr) (b : Word), ea m s = .ok e s1 →
    p.2.2.1 e s1 = .ok b s2 → p.2.1 s.cfg (s.ac ac) (s.ac (ac + 1)) b = none →
    exec (p.1 ac m) s = .next (s2.orFlags { Flags.zero with aov := true, trap1 := true, dck := true })

/-- Products and quotients as exact integers: MUL gives the exact product but for MAXNEG squared, which is MAXNEG
twice with AOV and TRAP1; IMUL gives it when it fits, and otherwise its low 35 bits under its sign with AOV and
TRAP1; IDIV and DIV give the truncated quotient and the remainder, no divide exactly when R629 says so (for DIV
against the corner note of R634, which differs for some negative dividends: log entry 49); MAXNEG by -1 is
IDIV_MAXNEG_M1. Rests on 44_move_arith.md sections 1 to 3, R601, R620, R629; 92_eei_decisions.md D28. -/
def Obligations.MulDivValues : Prop :=
  (∀ a b : Word, ¬ (a = 0o400000000000 ∧ b = 0o400000000000) →
    dval (mul72 a b).hi (mul72 a b).lo = signed a * signed b ∧
    negative (mul72 a b).lo = decide (signed a * signed b < 0) ∧ (mul72 a b).flags = Flags.zero) ∧
  mul72 0o400000000000 0o400000000000 =
    ⟨0o400000000000, 0o400000000000, { Flags.zero with aov := true, trap1 := true }⟩ ∧
  (∀ (a b : Word) (p : Int), p = signed a * signed b →
    (-2 ^ 35 ≤ p ∧ p < 2 ^ 35 → (imul36 a b).flags = Flags.zero ∧ signed (imul36 a b).word = p) ∧
    (¬ (-2 ^ 35 ≤ p ∧ p < 2 ^ 35) → (imul36 a b).flags = { Flags.zero with aov := true, trap1 := true } ∧
      (imul36 a b).word.toNat % 2 ^ 35 = p % 2 ^ 35 ∧
      negative (imul36 a b).word = (decide (p < 0) || (a == 0o400000000000 && b == 0o400000000000)))) ∧
  (∀ (c : Config) (a b : Word), ¬ (a = 0o400000000000 ∧ b = 0o777777777777) → (idiv36 c a b = none ↔ b = 0)) ∧
  (∀ c : Config, idiv36 c 0o400000000000 0o777777777777 = c.idivMaxnegM1) ∧
  (∀ (c : Config) (a b q r : Word), ¬ (a = 0o400000000000 ∧ b = 0o777777777777) → idiv36 c a b = some (q, r) →
    signed a = signed q * signed b + signed r ∧ |signed r| < |signed b| ∧ 0 ≤ signed r * signed a) ∧
  (∀ (c : Config) (hi lo b : Word), div72 c hi lo b = none ↔ |signed b| * 2 ^ 35 ≤ |dval hi lo|) ∧
  ∀ (c : Config) (hi lo b q r : Word), div72 c hi lo b = some (q, r) →
    dval hi lo = signed q * signed b + signed r ∧ |signed r| < |signed b| ∧ 0 ≤ signed r * dval hi lo

/-- The floating-point instructions under every setting of FPU: operands, an immediate one being E,,0, places of the
results, flags; a floating no divide, which only a division can be, sets AOV, FOV, DCK and TRAP1 and writes nothing;
FIX and FIXR out of range set AOV and TRAP1 and leave AC; under every setting the flags of a result are none, AOV,
FOV and TRAP1 together, or these with FXU. Rests on 42_float.md sections 1 to 4, R500, R502, R504 to R540;
30_encoding.md section 3, R320; 10_state.md section 4, R61, R63. -/
def Obligations.FloatForms : Prop :=
  (∀ p ∈ floatForms, ∀ (ac : AcNum) (m : EaField) (s s1 s2 : State) (e : VAddr) (b : Word), ea m s = .ok e s1 →
    p.2.2.2.1 e s1 = .ok b s2 →
    (∀ (r : WordFlags) (s3 : State), floatNum s.cfg p.2.1 p.2.2.1 (s.ac ac) b = some r →
      (if p.2.2.2.2.1 then wrE e r.word s2 else .ok () s2) = .ok () s3 →
      exec (p.1 ac m) s = .next ((if p.2.2.2.2.2 then s3.setAc ac r.word else s3).orFlags r.flags)) ∧
    (floatNum s.cfg p.2.1 p.2.2.1 (s.ac ac) b = none → exec (p.1 ac m) s =
      .next (s2.orFlags { Flags.zero with aov := true, fov := true, dck := true, trap1 := true }))) ∧
  (∀ p ∈ dfloatForms, ∀ (ac : AcNum) (m : EaField) (s s1 s2 : State) (e : VAddr) (b : Word × Word),
    ea m s = .ok e s1 → rdE2 e s1 = .ok b s2 →
    (∀ r : PairFlags, dfloatNum s.cfg p.2 (s.ac ac, s.ac (ac + 1)) b = some r →
      exec (p.1 ac m) s = .next (((s2.setAc ac r.hi).setAc (ac + 1) r.lo).orFlags r.flags)) ∧
    (dfloatNum s.cfg p.2 (s.ac ac, s.ac (ac + 1)) b = none →
      exec (p.1 ac m) s =
        .next (s2.orFlags { Flags.zero with aov := true, fov := true, dck := true, trap1 := true }))) ∧
  (∀ p ∈ [(Instr.fix, false), (.fixr, true)], ∀ (ac : AcNum) (m : EaField) (s s1 s2 : State) (e : VAddr) (w : Word),
    ea m s = .ok e s1 → rdE e s1 = .ok w s2 →
    (∀ r : Word, fixedNum s.cfg p.2 w = some r → exec (p.1 ac m) s = .next (s2.setAc ac r)) ∧
    (fixedNum s.cfg p.2 w = none →
      exec (p.1 ac m) s = .next (s2.orFlags { Flags.zero with aov := true, trap1 := true }))) ∧
  (∀ (ac : AcNum) (m : EaField) (s s1 : State) (e : VAddr), ea m s = .ok e s1 →
    exec (.fsc ac m) s =
      .next ((s1.setAc ac (scaledNum s.cfg (s.ac ac) e).word).orFlags (scaledNum s.cfg (s.ac ac) e).flags)) ∧
  (∀ (e : VAddr) (s : State), floatImm e s = .ok (e ++ (0 : Half)) s) ∧
  (∀ (c : Config) (op : FloatOp) (rnd : Bool) (a b : Word), op ≠ .div → floatNum c op rnd a b ≠ none) ∧
  (∀ (c : Config) (op : FloatOp) (a b : Word × Word), op ≠ .div → dfloatNum c op a b ≠ none) ∧
  ∀ (c : Config) (op : FloatOp) (rnd : Bool) (a b : Word) (x y : Word × Word) (e : VAddr) (l : List Flags),
    l = [Flags.zero, { Flags.zero with aov := true, fov := true, trap1 := true },
      { Flags.zero with aov := true, fov := true, fxu := true, trap1 := true }] →
    (∀ r, floatNum c op rnd a b = some r → r.flags ∈ l) ∧ (∀ r, dfloatNum c op x y = some r → r.flags ∈ l) ∧
    (scaledNum c a e).flags ∈ l ∧ (floatedNum c a).flags ∈ l

/-- Under the default FPU, FAD, FSB, FMP, FDV and DFAD, DFSB, DFMP, DFDV store the sum, difference, product or
quotient of the exact values, FSC the value scaled by a power of 2 and FLTR the integer, each normalised, truncated
to the floor or rounded, with the exponent modulo 256 and the flags of overflow and underflow; a floating divisor
of value 0 is the one no divide; FIX truncates and FIXR rounds halves up, within 36 bits; an integer below 2^27 in
magnitude floated and fixed is itself. Rests on 42_float.md sections 1 to 3, R500 to R503, R509 to R512. -/
def Obligations.FloatValues : Prop :=
  ∀ c : Config, c.fpu = .standard →
    (∀ (op : FloatOp) (rnd : Bool) (a b : Word), ¬ (op = .div ∧ value b = 0) →
      ∃ r, floatNum c op rnd a b = some r ∧ Encodes1 (exactly op (value a) (value b)) rnd r) ∧
    (∀ (rnd : Bool) (a b : Word), value b = 0 → floatNum c .div rnd a b = none) ∧
    (∀ (op : FloatOp) (a b : Word × Word), ¬ (op = .div ∧ value2 b = 0) →
      ∃ r, dfloatNum c op a b = some r ∧ Encodes2 (exactly op (value2 a) (value2 b)) c.dfpRound r) ∧
    (∀ a b : Word × Word, value2 b = 0 → dfloatNum c .div a b = none) ∧
    (∀ (a : Word) (e : VAddr), Encodes1 (value a * 2 ^ (((e.toNat % 256 : Nat) : Int)
      - if e.getLsbD 17 then 256 else 0))
      false (scaledNum c a e)) ∧
    (∀ w : Word, Encodes1 (signed w : ℚ) true (floatedNum c w)) ∧
    (∀ w : Word, fixedNum c false w = fixed (if 0 ≤ value w then ⌊value w⌋ else ⌈value w⌉) ∧
      fixedNum c true w = fixed ⌊value w + 1 / 2⌋) ∧
    ∀ w : Word, |signed w| < 2 ^ 27 → (floatedNum c w).flags = Flags.zero ∧
      fixedNum c false (floatedNum c w).word = some w

/-- The shifts and rotates of one word and of two: AC, or AC and AC+1, receive the shifted value; ASH and ASHC set
the overflow flags of the shift; CIRC exists under ITS; nothing else changes. Rests on 45_shift_jump.md section 1,
R660 to R668. -/
def Obligations.ShiftForms : Prop :=
  (∀ p ∈ shiftForms, ∀ (ac : AcNum) (m : EaField) (s s1 : State) (e : VAddr), ea m s = .ok e s1 →
    exec (p.1 ac m) s = .next (s1.setAc ac (p.2 (s.ac ac) e))) ∧
  (∀ (ac : AcNum) (m : EaField) (s s1 : State) (e : VAddr), ea m s = .ok e s1 →
    exec (.ash ac m) s = .next ((s1.setAc ac (ash (s.ac ac) e).word).orFlags (ash (s.ac ac) e).flags)) ∧
  (∀ p ∈ shift2Forms, ∀ (ac : AcNum) (m : EaField) (s s1 : State) (e : VAddr), (p.2.1 = true → s.cfg.its = true) →
    ea m s = .ok e s1 →
    exec (p.1 ac m) s = .next ((s1.setAc ac (p.2.2 (s.ac ac) (s.ac (ac + 1)) e).1).setAc (ac + 1)
      (p.2.2 (s.ac ac) (s.ac (ac + 1)) e).2)) ∧
  ∀ (ac : AcNum) (m : EaField) (s s1 : State) (e : VAddr) (r : PairFlags), ea m s = .ok e s1 →
    r = ashc (s.ac ac) (s.ac (ac + 1)) e →
    exec (.ashc ac m) s = .next (((s1.setAc ac r.hi).setAc (ac + 1) r.lo).orFlags r.flags)

/-- A shift depends on the sign of E and the low 8 bits of its magnitude alone. Bit by bit what LSH, ROT, LSHC,
ROTC and CIRC do in both directions, and in integers what ASH and ASHC do: a right shift is the floor of the
quotient with no flags, a left shift the exact product with no flags when it fits, and otherwise its low bits under
the old sign with AOV and TRAP1; counts cap at 35 and 70. Rests on 45_shift_jump.md section 1, R660 to R663, R665
to R668. -/
def Obligations.ShiftValues : Prop :=
  (∀ (a hi lo : Word) (e n : VAddr),
    n = (if e.getLsbD 17 then -BitVec.ofNat 18 ((-e).toNat % 256) else BitVec.ofNat 18 (e.toNat % 256)) →
    lsh a e = lsh a n ∧ rot a e = rot a n ∧ ash a e = ash a n ∧ ashc hi lo e = ashc hi lo n ∧
    rotc hi lo e = rotc hi lo n ∧ lshc hi lo e = lshc hi lo n ∧ circ hi lo e = circ hi lo n) ∧
  (∀ (a : Word) (n i : Nat), n < 256 → i < 36 →
    (lsh a (BitVec.ofNat 18 n)).getLsbD i = (decide (n ≤ i) && a.getLsbD (i - n)) ∧
    (rot a (BitVec.ofNat 18 n)).getLsbD ((i + n) % 36) = a.getLsbD i) ∧
  (∀ (a : Word) (n i : Nat), 0 < n → n < 256 → i < 36 →
    (lsh a (-BitVec.ofNat 18 n)).getLsbD i = a.getLsbD (i + n) ∧
    (rot a (-BitVec.ofNat 18 n)).getLsbD i = a.getLsbD ((i + n) % 36)) ∧
  (∀ (hi lo : Word) (n i : Nat), n < 256 → i < 72 →
    (joined (rotc hi lo (BitVec.ofNat 18 n))).getLsbD ((i + n) % 72) = (hi ++ lo : BitVec 72).getLsbD i ∧
    (joined (lshc hi lo (BitVec.ofNat 18 n))).getLsbD i = (decide (n ≤ i) && (hi ++ lo : BitVec 72).getLsbD (i - n)) ∧
    (circled (circ hi lo (BitVec.ofNat 18 n))).getLsbD ((i + n) % 72) = (circled (hi, lo)).getLsbD i) ∧
  (∀ (hi lo : Word) (n i : Nat), 0 < n → n < 256 → i < 72 →
    (joined (rotc hi lo (-BitVec.ofNat 18 n))).getLsbD i = (hi ++ lo : BitVec 72).getLsbD ((i + n) % 72) ∧
    (joined (lshc hi lo (-BitVec.ofNat 18 n))).getLsbD i = (hi ++ lo : BitVec 72).getLsbD (i + n) ∧
    (circled (circ hi lo (-BitVec.ofNat 18 n))).getLsbD i = (circled (hi, lo)).getLsbD ((i + n) % 72)) ∧
  (∀ (a : Word) (n : Nat), 0 < n → n < 256 → signed (ash a (-BitVec.ofNat 18 n)).word = signed a / 2 ^ n ∧
    (ash a (-BitVec.ofNat 18 n)).flags = Flags.zero) ∧
  (∀ (a : Word) (n : Nat) (r : WordFlags), n ≤ 35 → r = ash a (BitVec.ofNat 18 n) →
    (-2 ^ 35 ≤ signed a * 2 ^ n ∧ signed a * 2 ^ n < 2 ^ 35 → r.flags = Flags.zero ∧ signed r.word = signed a * 2 ^ n) ∧
    (¬ (-2 ^ 35 ≤ signed a * 2 ^ n ∧ signed a * 2 ^ n < 2 ^ 35) →
      r.flags = { Flags.zero with aov := true, trap1 := true } ∧ negative r.word = negative a ∧
      ∀ i < 35, r.word.getLsbD i = (decide (n ≤ i) && a.getLsbD (i - n)))) ∧
  (∀ (a hi lo : Word) (n : Nat), n < 256 → (35 ≤ n → ash a (BitVec.ofNat 18 n) = ash a 35) ∧
    (70 ≤ n → ashc hi lo (BitVec.ofNat 18 n) = ashc hi lo 70)) ∧
  (∀ (hi lo : Word) (n : Nat) (r : PairFlags), 0 < n → n < 256 → r = ashc hi lo (-BitVec.ofNat 18 n) →
    dval r.hi r.lo = dval hi lo / 2 ^ n ∧ negative r.lo = negative hi ∧ r.flags = Flags.zero) ∧
  ∀ (hi lo : Word) (n : Nat) (r : PairFlags), n ≤ 70 → r = ashc hi lo (BitVec.ofNat 18 n) →
    negative r.hi = negative hi ∧ negative r.lo = negative hi ∧
    (-2 ^ 70 ≤ dval hi lo * 2 ^ n ∧ dval hi lo * 2 ^ n < 2 ^ 70 → r.flags = Flags.zero ∧
      dval r.hi r.lo = dval hi lo * 2 ^ n) ∧
    (¬ (-2 ^ 70 ≤ dval hi lo * 2 ^ n ∧ dval hi lo * 2 ^ n < 2 ^ 70) →
      r.flags = { Flags.zero with aov := true, trap1 := true } ∧ dval r.hi r.lo % 2 ^ 70 = dval hi lo * 2 ^ n % 2 ^ 70)

/-- EXCH exchanges AC and C(E); JFFO finds the first one and jumps, or clears AC+1 when AC is 0; AOBJP and AOBJN
add 1 to both halves of AC and jump on its sign. Rests on 45_shift_jump.md sections 1 to 3, R664, R669, R671, R672. -/
def Obligations.ExchangeAndCount : Prop :=
  (∀ (ac : AcNum) (m : EaField) (s s1 s2 t : State) (e : VAddr) (w : Word), ea m s = .ok e s1 → rdmE e s1 = .ok w s2 →
    wrE e (s.ac ac) s2 = .ok () t → exec (.exch ac m) s = .next (t.setAc ac w)) ∧
  (∀ (ac : AcNum) (m : EaField) (s s1 : State) (e : VAddr), ea m s = .ok e s1 → s.ac ac = 0 →
    exec (.jffo ac m) s = .next (s1.setAc (ac + 1) 0)) ∧
  (∀ (ac : AcNum) (m : EaField) (s s1 : State) (e : VAddr) (n : Nat), ea m s = .ok e s1 → n < 36 →
    (s.ac ac).getLsbD (35 - n) = true →
    (∀ k < n, (s.ac ac).getLsbD (35 - k) = false) →
    exec (.jffo ac m) s = .next ((s1.setAc (ac + 1) (BitVec.ofNat 36 n)).setPc e)) ∧
  ∀ p ∈ [(Instr.aobjp, false), (.aobjn, true)], ∀ (ac : AcNum) (m : EaField) (s s1 t : State) (e : VAddr) (r : Word),
    ea m s = .ok e s1 →
    r = (if s.cfg.aobCarry then s.ac ac + 0o000001000001 else xwd (lh (s.ac ac) + 1) (rh (s.ac ac) + 1)) →
    t = s1.setAc ac r → exec (p.1 ac m) s = .next (if negative r = p.2 then t.setPc e else t)

/-- BLT, BLTBU and BLTUB move one word and go on as from the AC that points past it, whatever the addresses,
accumulators and pages not yet cached too, the last AC being the progress word; a word that page-fails leaves AC
pointing at it. With paging off and no interrupt pending, BLT, BLTBU and BLTUB with their byte conversions move the
words from the source on to the words from the destination up to E one after another, so that an overlapping
destination repeats what was moved (the clear idiom), leave every other word alone, and leave AC pointing past
both; with E below the destination they move one word under BLT_MIN_ONE and else none; with an interrupt pending
they re-enter after the first word, AC holding the progress. The conversions of BLTBU and BLTUB are given bit by
bit for the default UNIBUS_BYTE_MAP. Rests on 45_shift_jump.md section 2, R670; 49_io.md section 8, R1156, R1157;
60_exceptions.md section 1, R1207; 92_eei_decisions.md D40. -/
def Obligations.BlockTransfer : Prop :=
  (∀ (c : Config) (w : Word), c.unibusMap = Config.default.unibusMap → ∀ i < 36,
    (byteToUb c w).getLsbD i =
      (if 34 ≤ i then false else if 26 ≤ i then w.getLsbD (i - 6) else if 18 ≤ i then w.getLsbD (i + 10)
        else if 16 ≤ i then false else if 8 ≤ i then w.getLsbD (i - 4) else w.getLsbD (i + 12)) ∧
    (ubToByte c w).getLsbD i =
      (if 28 ≤ i then w.getLsbD (i - 10) else if 20 ≤ i then w.getLsbD (i + 6)
        else if 12 ≤ i then w.getLsbD (i - 12) else if 4 ≤ i then w.getLsbD (i + 4) else false)) ∧
  (∀ p ∈ blockForms, ∀ (ac : AcNum) (m : EaField) (s s1 s2 s3 s4 u : State) (e src dst : VAddr) (v : Word),
    (p.2.2 = true → s.mayIo = true) → ea m s = .ok e s1 → src = lh (s.ac ac) → dst = rh (s.ac ac) →
    dst.toNat < e.toNat → accViol s1.ctxBstk src .read s1 = .ok false s2 →
    accViol s1.ctxData dst .write s2 = .ok false s3 → rdStk src s3 = .ok v s4 → wrE dst (p.2.1 s.cfg v) s4 = .ok () u →
    u.piPending = 0 → u.env.arrivals = [] →
    exec (p.1 ac m) s = finish (bltOp (p.2.1 s.cfg) ac e) (u.setAc ac (xwd (src + 1) (dst + 1)))) ∧
  (∀ p ∈ blockForms, ∀ (ac : AcNum) (m : EaField) (s s1 s2 s3 s4 u : State) (e src dst : VAddr) (v : Word),
    (p.2.2 = true → s.mayIo = true) → ea m s = .ok e s1 → src = lh (s.ac ac) → dst = rh (s.ac ac) →
    (dst = e ∨ (e.toNat < dst.toNat ∧ s.cfg.bltMinOne = true)) → accViol s1.ctxBstk src .read s1 = .ok false s2 →
    accViol s1.ctxData dst .write s2 = .ok false s3 → rdStk src s3 = .ok v s4 → wrE dst (p.2.1 s.cfg v) s4 = .ok () u →
    exec (p.1 ac m) s = .next (u.setAc ac (xwd (src + 1) (dst + 1)))) ∧
  (∀ p ∈ blockForms, ∀ (ac : AcNum) (m : EaField) (s s1 s2 t : State) (e src dst : VAddr),
    (p.2.2 = true → s.mayIo = true) → ea m s = .ok e s1 → src = lh (s.ac ac) → dst = rh (s.ac ac) →
    (dst.toNat ≤ e.toNat ∨ s.cfg.bltMinOne = true) →
    (accViol s1.ctxBstk src .read s1 = .ok true s1 ∧ rdStk src s1 = .error .pageFail t) ∨
      (accViol s1.ctxBstk src .read s1 = .ok false s2 ∧ accViol s1.ctxData dst .write s2 = .ok true s2 ∧
        rdmE dst s2 = .error .pageFail t) →
    exec (p.1 ac m) s = abortOutcome .pageFail t ∧ t.ac ac = xwd src dst) ∧
  (∀ p ∈ blockForms, ∀ (ac : AcNum) (m : EaField) (s s1 : State) (e : VAddr) (src dst k : Nat) (v : Nat → Word),
    ea m s = .ok e s1 → (p.2.2 = true → s.mayIo = true) → s1.base.ebr.pgon = false → s1.piPending = 0 →
    s1.env.arrivals = [] → src = (lh (s.ac ac)).toNat → dst = (rh (s.ac ac)).toNat →
    (e.toNat = dst + k ∨ (k = 0 ∧ e.toNat < dst ∧ s.cfg.bltMinOne = true)) → 0o20 ≤ src → 0o20 ≤ dst →
    src + k < s.cfg.memSize → src + k + 1 < 2 ^ 18 → dst + k < s.cfg.memSize → dst + k + 1 < 2 ^ 18 →
    (∀ i ≤ k, (src < dst → i < dst - src) → tblGet s1.mem (src + i) = some (v i)) →
    ∃ t, exec (p.1 ac m) s = .next t ∧
      (∀ i ≤ k, tblGet t.mem (dst + i) = some (blockWord (p.2.1 s.cfg) src dst v i)) ∧
      MemSameOutside (fun a => dst ≤ a ∧ a ≤ dst + k) s1 t ∧
      t.ac ac = xwd (BitVec.ofNat 18 (src + k + 1)) (BitVec.ofNat 18 (dst + k + 1)) ∧
      (∀ n, n ≠ ac → t.ac n = s.ac n) ∧ t.pc = s.pc ∧ t.flags = s.flags) ∧
  (∀ p ∈ blockForms, ∀ (ac : AcNum) (m : EaField) (s s1 : State) (e : VAddr), (p.2.2 = true → s.mayIo = true) →
    ea m s = .ok e s1 → e.toNat < (rh (s.ac ac)).toNat → s.cfg.bltMinOne = false → exec (p.1 ac m) s = .next s1) ∧
  ∀ p ∈ blockForms, ∀ (ac : AcNum) (m : EaField) (s s1 : State) (e src dst : VAddr) (v : Word),
    (p.2.2 = true → s.mayIo = true) → ea m s = .ok e s1 → s1.base.ebr.pgon = false → s1.piPending ≠ 0 →
    s.piCycle = false → src = lh (s.ac ac) → dst = rh (s.ac ac) → 0o20 ≤ src.toNat → 0o20 ≤ dst.toNat →
    dst.toNat < e.toNat → src.toNat < s.cfg.memSize → dst.toNat < s.cfg.memSize → tblGet s1.mem src.toNat = some v →
    ∃ t, exec (p.1 ac m) s = .next t ∧ t.report = .reenter ∧ t.pc = s.ipc ∧
      tblGet t.mem dst.toNat = some (p.2.1 s.cfg v) ∧ MemSameOutside (fun a => a = dst.toNat) s1 t ∧
      t.ac ac = xwd (src + 1) (dst + 1)

/-- JRST jumps; PORTAL clears PUBLIC and jumps; XJRST jumps to the right half of C(E) where it exists; JRST 10
dismisses and jumps; HALT in executive mode stops with PC = E; JFCL jumps when a selected flag of AOV, CRY0, CRY1
and FOV is set and clears the selected flags; nothing else changes. Rests on 45_shift_jump.md section 3, R673 to
R684; 45_shift_jump.md section 4, R685. -/
def Obligations.JrstForms : Prop :=
  (∀ (m : EaField) (s s1 : State) (e : VAddr), ea m s = .ok e s1 → exec (.jrst m) s = .next (s1.setPc e) ∧
    exec (.portal m) s = .next ({ s1 with flags := { s1.flags with pub := false }, pc := e }) ∧
    (s.mayIo = true → exec (.jrst10 m) s = .next ((dismissSt s1).setPc e)) ∧
    (s.mayExec = true → exec (.halt m) s = .next { s1 with pc := e, report := .stop .halt })) ∧
  (∀ (m : EaField) (s s1 s2 : State) (e : VAddr) (w : Word), s.cfg.its = true ∨ s.cfg.xjrstAlways = true →
    ea m s = .ok e s1 → rdE e s1 = .ok w s2 → exec (.xjrst m) s = .next (s2.setPc (rh w))) ∧
  ∀ (ac : AcNum) (m : EaField) (s s1 : State) (e : VAddr), ea m s = .ok e s1 →
    exec (.jfcl ac m) s = .next { s1 with
      pc := if (ac.getLsbD 3 && s.flags.aov) || (ac.getLsbD 2 && s.flags.cry0) || (ac.getLsbD 1 && s.flags.cry1) ||
        (ac.getLsbD 0 && s.flags.fov) then e else s1.pc
      flags := { s1.flags with
        aov := s.flags.aov && !ac.getLsbD 3
        cry0 := s.flags.cry0 && !ac.getLsbD 2
        cry1 := s.flags.cry1 && !ac.getLsbD 1
        fov := s.flags.fov && !ac.getLsbD 0 } }

/-- JRSTF, XJRSTF, XJEN and JEN restore flags under the guard and load PC, the last two after a dismiss; XPCW
stores flags and PC and loads new ones without the guard; SFM stores the flags. Rests on 45_shift_jump.md section
3, R676 to R683; 60_exceptions.md section 7, R1250. -/
def Obligations.FlagRestores : Prop :=
  (∀ (m : EaField) (s s1 : State) (r : EaResult) (w : Word), eaFull m s = .ok r s1 →
    w = (if r.idx = 0 then r.last.getD (pack 0o254 2 m) else s.acOf (s.block s.ctxEa) r.idx) →
    exec (.jrstf m) s = .next ((setNewflags (lh w) true s1).setPc r.addr)) ∧
  (∀ (m : EaField) (s s1 : State) (r : EaResult) (w : Word), s.mayIo = true → eaFull m s = .ok r s1 →
    w = (if r.idx = 0 then r.last.getD (pack 0o254 0o12 m) else s.acOf (s.block s.ctxEa) r.idx) →
    exec (.jen m) s = .next ((setNewflags (lh w) true (dismissSt s1)).setPc r.addr)) ∧
  (∀ (m : EaField) (s s1 s2 : State) (e : VAddr) (b : Word × Word), ea m s = .ok e s1 → rdE2 e s1 = .ok b s2 →
    exec (.xjrstf m) s = .next ((setNewflags (lh b.1) true s2).setPc (rh b.2)) ∧
    (s.mayExec = true →
      exec (.xjen m) s = .next ((setNewflags (lh b.1) true (dismissSt s2)).setPc (rh b.2)))) ∧
  (∀ (m : EaField) (s s1 s2 s3 s4 s5 : State) (e : VAddr) (f p : Word), s.mayExec = true → ea m s = .ok e s1 →
    wrE e (xwd s.flags.toHalf 0) s1 = .ok () s2 → wrE (e + 1) (xwd 0 s.pc) s2 = .ok () s3 →
    rdE (e + 2) s3 = .ok f s4 → rdE (e + 3) s4 = .ok p s5 →
    exec (.xpcw m) s = .next ((setNewflags (lh f) false s5).setPc (rh p))) ∧
  ∀ (m : EaField) (s s1 t : State) (e : VAddr), s.mayExec = true → ea m s = .ok e s1 →
    wrE e (xwd s.flags.toHalf 0) s1 = .ok () t → exec (.sfm m) s = .next t

/-- XCT, PXCT, XCTR and XCTRI read the word at E, XCT and PXCT in the context of their own effective address (log
entry 13), and leave it to be executed, with the selection bits that apply, and under ITS_XCTRI_INHIBIT XCTRI with
its page fail suppressed (log entry 40); the bits 0o10, 0o4, 0o2 and 0o1 put the effective address, the operand at
E, the address of a byte pointer, and bytes, stack words and the BLT source in the previous context, which is the
user space and the previous block where UIO (PCU) is set in executive mode; a local UUO stores its opcode, AC and E
at 0o40 and leaves the word at 0o41 to be executed, both in the current context and the level counted after them
(log entry 19, DEDUCED), but a user's under ITS with ITS_USER_LUUO = MUUO is the MUUO of its opcode; each of these
beyond XCT_MAX is a Stop(XCT), and from the second level on, outside the interrupt sequence, an interrupt pending, or
one that comes there (log entry 7), is a re-entry, both with PC = IPC. Rests on 45_shift_jump.md section 4, R686, R687; 20_memory.md section 2, R155, R156; 41_byte_double.md
sections 1 and 2, R452 to R454; 40_uuo.md section 1, R401; 60_exceptions.md sections 1 and 10, R1202, R1204, R1282;
92_eei_decisions.md D33, D37. -/
def Obligations.ExecuteForms : Prop :=
  (∀ (m : EaField) (s s1 s2 : State) (e : VAddr) (w : Word), ea m s = .ok e s1 →
    (s.cfg.xctMax = 0 ∨ s.xctCount + 1 ≤ s.cfg.xctMax) → (s.xctCount = 0 ∨ s1.piPending = 0 ∧ s1.env.arrivals = []) →
    (vread (if s.pxct.getLsbD 3 then .prev else .cur) e { s1 with xctCount := s.xctCount + 1 } = .ok w s2 →
      exec (.xct m) s = .next { s2 with pending := some ⟨w, 0, false⟩ } ∧
      ∀ ac : AcNum, exec (.pxct ac m) s = .next { s2 with pending := some ⟨w, if s.inUser then 0 else ac, false⟩ }) ∧
    (vread .cur e { s1 with xctCount := s.xctCount + 1 } = .ok w s2 →
      s.cfg.its = true → s.mayExec = true → ∀ ac : AcNum,
      exec (.xctr ac m) s = .next { s2 with pending := some ⟨w, ac, false⟩ } ∧
      exec (.xctri ac m) s = .next { s2 with pending := some ⟨w, ac, s.cfg.xctriInhibit⟩ })) ∧
  (∀ (m : EaField) (e : VAddr) (v bp : Word) (s : State) (c : Nat → Ctx),
    c = (fun i => if s.pxct.getLsbD i then .prev else .cur) →
    eaFull m s = eaIn (c 3) m s ∧ rdE e s = vread (c 2) e s ∧ rdmE e s = vreadM (c 2) e s ∧
    wrE e v s = vwrite (c 2) e v s ∧ rdStk e s = vread (c 0) e s ∧ rdmStk e s = vreadM (c 0) e s ∧
    wrStk e v s = vwrite (c 0) e v s ∧
    ∀ (r : EaResult) (t : State), eaIn (c 1) (eaField bp) s = .ok r t → bpAddr bp s = .ok r.addr t) ∧
  (∀ s : State, s.phase ≠ .forced → s.space .cur = s.flags.user ∧ s.space .prev = (s.flags.user || s.flags.uio) ∧
    s.space .execv = false ∧ s.block .cur = s.base.ubr.cab ∧
    s.block .prev = (if s.flags.user then s.base.ubr.cab else s.base.ubr.pab)) ∧
  (∀ (m : EaField) (s s1 u : State) (e : VAddr), ea m s = .ok e s1 →
    XctEnds s { s1 with xctCount := s.xctCount + 1 } u → exec (.xct m) s = .next u ∧
    ∀ ac : AcNum, exec (.pxct ac m) s = .next u ∧
      (s.cfg.its = true → s.mayExec = true → exec (.xctr ac m) s = .next u ∧ exec (.xctri ac m) s = .next u)) ∧
  (∀ p ∈ luuoForms, ∀ (ac : AcNum) (m : EaField) (s : State), s.cfg.its = true → s.inUser = true →
    s.cfg.itsUserLuuoMuuo = true → exec (p.1 ac m) s = exec (.muuo p.2 ac m) s) ∧
  (∀ p ∈ luuoForms, ∀ (ac : AcNum) (m : EaField) (s s1 s2 s3 u : State) (e : VAddr) (w : Word), ea m s = .ok e s1 →
    ¬ (s.cfg.its = true ∧ s.inUser = true ∧ s.cfg.itsUserLuuoMuuo = true) →
    vwrite .cur 0o40 (xwd (p.2 ++ ac ++ (0 : BitVec 5)) e) s1 = .ok () s2 → vread .cur 0o41 s2 = .ok w s3 →
    XctEnds s { s3 with xctCount := s.xctCount + 1 } u → exec (p.1 ac m) s = .next u) ∧
  ∀ p ∈ luuoForms, ∀ (ac : AcNum) (m : EaField) (s s1 s2 s3 : State) (e : VAddr) (w : Word), ea m s = .ok e s1 →
    ¬ (s.cfg.its = true ∧ s.inUser = true ∧ s.cfg.itsUserLuuoMuuo = true) →
    vwrite .cur 0o40 (xwd (p.2 ++ ac ++ (0 : BitVec 5)) e) s1 = .ok () s2 → vread .cur 0o41 s2 = .ok w s3 →
    (s.cfg.xctMax = 0 ∨ s.xctCount + 1 ≤ s.cfg.xctMax) → (s.xctCount = 0 ∨ s3.piPending = 0 ∧ s3.env.arrivals = []) →
    exec (p.1 ac m) s = .next { s3 with xctCount := s.xctCount + 1, pending := some ⟨w, 0, false⟩ }

/-- MAP loads AC with the success word of E, or with the page-fail word when the translation fails, and never
page-fails; that the success word has the bits U, A and W and the address and no other bit set, also with paging
off or E below 0o20, and that W is the bit a cache entry of the page has, is the model's reading of D34 (log entry
18). Rests on 45_shift_jump.md section 4, R688; 20_memory.md section 4, R200; 92_eei_decisions.md D34. -/
def Obligations.MapForm : Prop :=
  (∀ (ac : AcNum) (m : EaField) (s s1 : State) (e : VAddr), s.cfg.its = false → ea m s = .ok e s1 →
    (s.base.ebr.pgon = false ∨ e.toNat < 0o20 →
      exec (.map ac m) s = .next (s1.setAc ac (s.pfwWord (.mapped (s.space s.ctxData) true e.toNat)))) ∧
    (s.base.ebr.pgon = true → 0o20 ≤ e.toNat →
      (∀ (n : TlbEntry) (t : State), entryFor (s.space s.ctxData) .map e s1 = .ok n t →
        exec (.map ac m) s = .next (t.setAc ac
          (s.pfwWord (.mapped (s.space s.ctxData) n.writable (n.ppn.toNat * 0o1000 + e.toNat % 0o1000))))) ∧
      ∀ t : State, entryFor (s.space s.ctxData) .map e s1 = .error .pageFail t →
        exec (.map ac m) s = .next (t.setAc ac t.pagerWord))) ∧
  ∀ (s : State) (user w : Bool) (pa : Nat), s.cfg.pfwLayout = .standard →
    s.pfwWord (.mapped user w pa) = (if user then 0o400000000000 else 0) ||| 0o100000000000 |||
      (if w then 0o040000000000 else 0) ||| BitVec.ofNat 36 pa

/-- PUSHJ, PUSH, POP and POPJ: the word moved, the pointer with both halves stepped, TRAP2 when the left half of
the new pointer (push) or of the old one (pop) is 0, and PC; JSR and JSP save FLPC, clear FPD, AFI, TRAP1 and TRAP2
and jump; JSA and JRA save and restore AC. Rests on 45_shift_jump.md section 5, R689 to R697; 10_state.md section
4, R71. -/
def Obligations.StackForms : Prop :=
  (∀ (ac : AcNum) (m : EaField) (s s1 t : State) (e : VAddr) (n : Word), ea m s = .ok e s1 →
    n = xwd (lh (s.ac ac) + 1) (rh (s.ac ac) + 1) →
    wrStk (rh n) s.flpc s1 = .ok () t →
    exec (.pushj ac m) s = .next { t.setAc ac n with
      pc := e
      flags := { t.flags with fpd := false, afi := false, trap1 := false, trap2 := lh n == 0 } }) ∧
  (∀ (ac : AcNum) (m : EaField) (s s1 s2 t : State) (e : VAddr) (v n : Word), ea m s = .ok e s1 → rdE e s1 = .ok v s2 →
    n = xwd (lh (s.ac ac) + 1) (rh (s.ac ac) + 1) → wrStk (rh n) v s2 = .ok () t →
    exec (.push ac m) s = .next { t.setAc ac n with flags := { t.flags with trap2 := t.flags.trap2 || lh n == 0 } }) ∧
  (∀ (ac : AcNum) (m : EaField) (s s1 s2 t : State) (e : VAddr) (v : Word), ea m s = .ok e s1 →
    rdStk (rh (s.ac ac)) s1 = .ok v s2 →
    wrE e v s2 = .ok () t →
    exec (.pop ac m) s = .next { t.setAc ac (xwd (lh (t.ac ac) - 1) (rh (t.ac ac) - 1)) with
      flags := { t.flags with trap2 := t.flags.trap2 || lh (t.ac ac) == 0 } }) ∧
  (∀ (ac : AcNum) (m : EaField) (s s1 s2 : State) (e : VAddr) (v : Word), ea m s = .ok e s1 →
    rdStk (rh (s.ac ac)) s1 = .ok v s2 →
    exec (.popj ac m) s = .next { s2.setAc ac (xwd (lh (s.ac ac) - 1) (rh (s.ac ac) - 1)) with
      pc := rh v
      flags := { s2.flags with trap2 := s2.flags.trap2 || lh (s.ac ac) == 0 } }) ∧
  (∀ (ac : AcNum) (m : EaField) (s s1 t : State) (e : VAddr), ea m s = .ok e s1 → wrE e s.flpc s1 = .ok () t →
    exec (.jsr ac m) s = .next { t with
      pc := e + 1, flags := { t.flags with fpd := false, afi := false, trap1 := false, trap2 := false } }) ∧
  (∀ (ac : AcNum) (m : EaField) (s s1 : State) (e : VAddr), ea m s = .ok e s1 →
    exec (.jsp ac m) s = .next { s1.setAc ac s.flpc with
      pc := e, flags := { s.flags with fpd := false, afi := false, trap1 := false, trap2 := false } }) ∧
  (∀ (ac : AcNum) (m : EaField) (s s1 t : State) (e : VAddr), ea m s = .ok e s1 → wrE e (s.ac ac) s1 = .ok () t →
    exec (.jsa ac m) s = .next ((t.setAc ac (xwd e s.pc)).setPc (e + 1))) ∧
  ∀ (ac : AcNum) (m : EaField) (s s1 s2 : State) (e : VAddr) (v : Word), ea m s = .ok e s1 →
    rdE (lh (s.ac ac)) s1 = .ok v s2 →
    exec (.jra ac m) s = .next ((s2.setAc ac v).setPc e)

/-- The double-word integer instructions: operands, the accumulators or words that receive the result, and flags;
DDIV not performed sets AOV, TRAP1 and DCK and writes nothing. Rests on 41_byte_double.md sections 4 and 6, R456 to
R459, R462 to R465. -/
def Obligations.DoubleForms : Prop :=
  (∀ p ∈ [(Instr.dadd, dadd), (.dsub, dsub)], ∀ (ac : AcNum) (m : EaField) (s s1 s2 : State) (e : VAddr)
    (b : Word × Word) (r : PairFlags),
    ea m s = .ok e s1 → rdE2 e s1 = .ok b s2 → r = p.2 s.cfg (s.ac ac) (s.ac (ac + 1)) b.1 b.2 →
    exec (p.1 ac m) s = .next (((s2.setAc ac r.hi).setAc (ac + 1) r.lo).orFlags r.flags)) ∧
  (∀ (ac : AcNum) (m : EaField) (s s1 s2 : State) (e : VAddr) (b : Word × Word) (r : QuadFlags), ea m s = .ok e s1 →
    rdE2 e s1 = .ok b s2 →
    r = dmul s.cfg (s.ac ac) (s.ac (ac + 1)) b.1 b.2 →
    exec (.dmul ac m) s = .next (((((s2.setAc ac r.w0).setAc (ac + 1) r.w1).setAc (ac + 2) r.w2).setAc (ac + 2 + 1)
      r.w3).orFlags r.flags)) ∧
  (∀ (ac : AcNum) (m : EaField) (s s1 s2 : State) (e : VAddr) (b : Word × Word), ea m s = .ok e s1 →
    rdE2 e s1 = .ok b s2 →
    (∀ qh ql rh rl : Word,
      ddiv s.cfg (s.ac ac) (s.ac (ac + 1)) (s.ac (ac + 2)) (s.ac (ac + 3)) b.1 b.2 = some (qh, ql, rh, rl) →
      exec (.ddiv ac m) s = .next ((((s2.setAc ac qh).setAc (ac + 1) ql).setAc (ac + 2) rh).setAc (ac + 2 + 1) rl)) ∧
    (ddiv s.cfg (s.ac ac) (s.ac (ac + 1)) (s.ac (ac + 2)) (s.ac (ac + 3)) b.1 b.2 = none →
      exec (.ddiv ac m) s = .next (s2.orFlags { Flags.zero with aov := true, trap1 := true, dck := true }))) ∧
  (∀ (ac : AcNum) (m : EaField) (s s1 s2 : State) (e : VAddr) (b : Word × Word), ea m s = .ok e s1 →
    rdE2 e s1 = .ok b s2 →
    exec (.dmove ac m) s = .next ((s2.setAc ac b.1).setAc (ac + 1) b.2) ∧
    exec (.dmovn ac m) s =
      .next (((s2.setAc ac (dneg s.cfg b.1 b.2).hi).setAc (ac + 1)
        (dneg s.cfg b.1 b.2).lo).orFlags (dneg s.cfg b.1 b.2).flags)) ∧
  (∀ (ac : AcNum) (m : EaField) (s s1 t : State) (e : VAddr), ea m s = .ok e s1 →
    wrE2 e (s.ac ac) (s.ac (ac + 1)) s1 = .ok () t →
    exec (.dmovem ac m) s = .next t) ∧
  ∀ (ac : AcNum) (m : EaField) (s s1 t : State) (e : VAddr) (r : PairFlags), ea m s = .ok e s1 →
    r = dneg s.cfg (s.ac ac) (s.ac (ac + 1)) →
    wrE2 e r.hi r.lo s1 = .ok () t → exec (.dmovnm ac m) s = .next (t.orFlags r.flags)

/-- Double-word arithmetic as exact integers, with flags and low signs: DADD and DSUB modulo 2^71 with the flags of
the high-word addition, the negative and the product exact but for the most negative value, whose flags are stated,
DDIV the truncated quotient and a remainder of the dividend's sign, not performed exactly when the quotient does
not fit. Rests on 41_byte_double.md sections 1, 4 and 6, R451, R456 to R459, R463; 44_move_arith.md section 1,
R600. -/
def Obligations.DoubleValues : Prop :=
  ∀ c : Config,
    (∀ (ah al bh bl : Word) (r : PairFlags) (cin : Bool), r = dadd c ah al bh bl →
      cin = decide (2 ^ 35 ≤ al.toNat % 2 ^ 35 + bl.toNat % 2 ^ 35) →
      (dval r.hi r.lo - (dval ah al + dval bh bl)) % 2 ^ 71 = 0 ∧ r.flags = (add36 ah bh cin).flags ∧
      negative r.lo = (c.dlowArith && negative r.hi)) ∧
    (∀ (ah al bh bl : Word) (r : PairFlags) (cin : Bool), r = dsub c ah al bh bl →
      cin = decide (bl.toNat % 2 ^ 35 ≤ al.toNat % 2 ^ 35) →
      (dval r.hi r.lo - (dval ah al - dval bh bl)) % 2 ^ 71 = 0 ∧ r.flags = (add36 ah (~~~bh) cin).flags ∧
      negative r.lo = (c.dlowArith && negative r.hi)) ∧
    (∀ (hi lo : Word) (r : PairFlags), r = dneg c hi lo →
      dval r.hi r.lo = (if dval hi lo = -2 ^ 70 then -2 ^ 70 else -dval hi lo) ∧
      negative r.lo = (c.dlowNeg && negative r.hi) ∧
      r.flags = if dval hi lo = 0 then { Flags.zero with cry0 := true, cry1 := true }
        else if dval hi lo = -2 ^ 70 then { Flags.zero with cry1 := true, aov := true, trap1 := true }
        else Flags.zero) ∧
    (∀ (ah al bh bl : Word) (p : Int) (r : QuadFlags), p = dval ah al * dval bh bl → r = dmul c ah al bh bl →
      (dval ah al = -2 ^ 70 ∧ dval bh bl = -2 ^ 70 → r.flags = { Flags.zero with aov := true, trap1 := true } ∧
        r.w0 = 0o400000000000 ∧ ∀ w ∈ [r.w1, r.w2, r.w3], w = if c.dlowArith then 0o400000000000 else 0) ∧
      (¬ (dval ah al = -2 ^ 70 ∧ dval bh bl = -2 ^ 70) → r.flags = Flags.zero ∧ qval r.w0 r.w1 r.w2 r.w3 = p ∧
        ∀ w ∈ [r.w1, r.w2, r.w3], negative w = (c.dlowArith && decide (p < 0)))) ∧
    ∀ (w0 w1 w2 w3 bh bl : Word) (n b : Int), n = qval w0 w1 w2 w3 → b = dval bh bl →
      (ddiv c w0 w1 w2 w3 bh bl = none ↔ |b| * 2 ^ 70 ≤ |n|) ∧
      ∀ qh ql rh rl : Word, ddiv c w0 w1 w2 w3 bh bl = some (qh, ql, rh, rl) →
        n = dval qh ql * b + dval rh rl ∧ |dval rh rl| < |b| ∧ 0 ≤ dval rh rl * n ∧
        negative ql = (c.dlowArith && decide (dval qh ql < 0)) ∧ negative rl = (c.dlowArith && decide (dval rh rl < 0))

/-- IBP, ADJBP and ADJSP adjust pointers; LDB and ILDB load the byte the pointer names, DPB and IDPB deposit AC
there, the I forms stepping the pointer once however often they restart. Rests on 41_byte_double.md sections 3, 5
and 7, R455, R460, R461, R466 to R471; 10_state.md section 4, R64. -/
def Obligations.ByteForms : Prop :=
  (∀ (m : EaField) (s s1 s2 t : State) (e : VAddr) (bp : Word), ea m s = .ok e s1 → rdmE e s1 = .ok bp s2 →
    wrE e (bpIncr bp) s2 = .ok () t → exec (.ibp m) s = .next t) ∧
  (∀ (ac : AcNum) (m : EaField) (s s1 s2 : State) (e : VAddr) (bp : Word), ea m s = .ok e s1 → rdE e s1 = .ok bp s2 →
    (∀ r : Word, adjbp bp (signed (s.ac ac)) = some r → exec (.adjbp ac m) s = .next (s2.setAc ac r)) ∧
    (adjbp bp (signed (s.ac ac)) = none →
      exec (.adjbp ac m) s = .next (s2.orFlags { Flags.zero with aov := true, trap1 := true, dck := true }))) ∧
  (∀ (ac : AcNum) (m : EaField) (s s1 : State) (e : VAddr), ea m s = .ok e s1 →
    exec (.adjsp ac m) s = .next ((s1.setAc ac (xwd (lh (s.ac ac) + e) (rh (s.ac ac) + e))).orFlags
      (adjsp (s.ac ac) e).flags)) ∧
  (∀ (ac : AcNum) (m : EaField) (s s1 s2 s3 s4 : State) (e a : VAddr) (bp w : Word), ea m s = .ok e s1 →
    rdE e s1 = .ok bp s2 →
    bpAddr bp s2 = .ok a s3 → rdStk a s3 = .ok w s4 →
    exec (.ldb ac m) s = .next (s4.setAc ac (bpByte (bpP bp) (bpS bp) w))) ∧
  (∀ (ac : AcNum) (m : EaField) (s s1 s2 s3 s4 t : State) (e a : VAddr) (bp w : Word), ea m s = .ok e s1 →
    rdE e s1 = .ok bp s2 →
    bpAddr bp s2 = .ok a s3 → rdmStk a s3 = .ok w s4 →
    wrStk a (bpDeposit (bpP bp) (bpS bp) w (s.ac ac)) s4 = .ok () t → exec (.dpb ac m) s = .next t) ∧
  (∀ (ac : AcNum) (m : EaField) (s s1 s2 s3 s4 s5 s6 : State) (e a : VAddr) (old bp w : Word), ea m s = .ok e s1 →
    (if s.flags.fpd then s1 = s3 else rdmE e s1 = .ok old s2 ∧ wrE e (bpIncr old) s2 = .ok () s3) →
    rdE e { s3 with flags := { s3.flags with fpd := true } } = .ok bp s4 → bpAddr bp s4 = .ok a s5 →
    rdStk a s5 = .ok w s6 →
    exec (.ildb ac m) s = .next { s6.setAc ac (bpByte (bpP bp) (bpS bp) w) with
      flags := { s6.flags with fpd := false } }) ∧
  ∀ (ac : AcNum) (m : EaField) (s s1 s2 s3 s4 s5 s6 t : State) (e a : VAddr) (old bp w : Word), ea m s = .ok e s1 →
    (if s.flags.fpd then s1 = s3 else rdmE e s1 = .ok old s2 ∧ wrE e (bpIncr old) s2 = .ok () s3) →
    rdE e { s3 with flags := { s3.flags with fpd := true } } = .ok bp s4 → bpAddr bp s4 = .ok a s5 →
    rdmStk a s5 = .ok w s6 → wrStk a (bpDeposit (bpP bp) (bpS bp) w (s4.ac ac)) s6 = .ok () t →
    exec (.idpb ac m) s = .next { t with flags := { t.flags with fpd := false } }

/-- The byte of a pointer is bits P to P+S-1 of the word, 0 when P is 36 or more; a deposit changes those bits and
no other; the increment moves S bits to the right or to the first byte of the next word; ADJBP moves the pointer
over the bytes of words with the alignment of the pointer, or not at all when a word holds none; ADJSP adds E to
each half, with TRAP2 on a sign change of the left half in the direction of the adjustment. Rests on
41_byte_double.md sections 3, 5 and 7, R455, R460, R461, R467, R470. -/
def Obligations.ByteValues : Prop :=
  (∀ (p n i : Nat) (w : Word), i < 36 →
    (bpByte p n w).getLsbD i = (decide (p < 36) && decide (i < n) && w.getLsbD (p + i))) ∧
  (∀ (p n i : Nat) (w v : Word), i < 36 →
    (bpDeposit p n w v).getLsbD i = if p ≤ i ∧ i < p + n then v.getLsbD (i - p) else w.getLsbD i) ∧
  (∀ bp : Word, bpS bp ≤ bpP bp → bpP (bpIncr bp) = bpP bp - bpS bp ∧ rh (bpIncr bp) = rh bp) ∧
  (∀ bp : Word, bpP bp < bpS bp → bpS bp ≤ 36 → bpP (bpIncr bp) = 36 - bpS bp ∧ rh (bpIncr bp) = rh bp + 1) ∧
  (∀ bp : Word, (bpIncr bp).extractLsb' 18 12 = bp.extractLsb' 18 12) ∧
  (∀ (bp : Word) (count left perWord : Int), left = (36 - (bpP bp : Int)).tdiv (bpS bp) →
    perWord = left + (bpP bp : Int).tdiv (bpS bp) →
    (bpS bp = 0 → adjbp bp count = some bp) ∧ (bpS bp ≠ 0 → perWord = 0 → adjbp bp count = none) ∧
    (bpS bp ≠ 0 → perWord ≠ 0 → ∃ j k : Int, left + count = k * perWord + j ∧ 1 ≤ j ∧ j ≤ perWord ∧
      adjbp bp count = some (BitVec.ofInt 6 (36 - j * bpS bp - (36 - (bpP bp : Int)).tmod (bpS bp)) ++
        bp.extractLsb' 18 12 ++ (rh bp + BitVec.ofInt 18 k)))) ∧
  ∀ (old : Word) (e : VAddr), (adjsp old e).word = xwd (lh old + e) (rh old + e) ∧
    (adjsp old e).flags = if (0 ≤ e.toInt ∧ (lh old).toInt < 0 ∧ 0 ≤ (lh old + e).toInt) ∨
        (e.toInt < 0 ∧ 0 ≤ (lh old).toInt ∧ (lh old + e).toInt < 0)
      then { Flags.zero with trap2 := true } else Flags.zero

/-- EXTEND runs the operation of the word at E0 with its own AC and E0; an undefined sub-opcode is the MUUO of the
EXTEND. Rests on 43_extend.md sections 1 and 4, R550, R568. -/
def Obligations.ExtendForms : Prop :=
  (∀ (ac : AcNum) (m : EaField) (s s1 s2 t : State) (e0 : VAddr) (x : Word) (i : Instr), ea m s = .ok e0 s1 →
    vread .cur e0 s1 = .ok x s2 →
    decodeExtended ac e0 x = some i → exec i s2 = .next t → exec (.extend ac m) s = .next t) ∧
  ∀ (ac : AcNum) (m : EaField) (s s1 s2 : State) (e0 : VAddr) (x : Word), ea m s = .ok e0 s1 →
    vread .cur e0 s1 = .ok x s2 →
    (opField x = 0 ∨ 0o20 ≤ (opField x).toNat) → exec (.extend ac m) s = finish (muuoSeq 0o123 ac e0) s2

/-- The string operations under the default EXTEND_DETAIL: when their loop over the bytes ends, FPD is cleared and
the next instruction is skipped as the rule of each says; MOVSRJ first loses its surplus source bytes; a conversion
to decimal too long for the string ends with only N changed. The model's choices are log entries 20 to 26, 43 and
44. Rests on 43_extend.md sections 1 to 4, R551, R552, R556, R560 to R567. -/
def Obligations.StringForms : Prop :=
  (∀ p ∈ compareStrings, ∀ (ac : AcNum) (e0 : VAddr) (m : EaField) (s s1 s2 s3 s4 t : State) (r : EaResult)
    (f1 f2 : Word)
    (o : Ordering), s.cfg.extendDetail = .standard → eaIn .cur m s = .ok r s1 → rdE (e0 + 1) s1 = .ok f1 s2 →
    rdE (e0 + 2) s2 = .ok f2 s3 →
    cmpsLoop f1 f2 ac (strLen (s3.ac ac) + strLen (s3.ac (ac + 3))) true s3 = .ok o s4 →
    t = { s4 with flags := { s4.flags with fpd := false } } →
    (p.2 o → exec (p.1 ac e0 m) s = .next (t.setPc (t.pc + 1))) ∧ (¬ p.2 o → exec (p.1 ac e0 m) s = .next t)) ∧
  (∀ p ∈ moveStrings, ∀ (ac : AcNum) (e0 : VAddr) (m : EaField) (s s1 s2 t : State) (r : EaResult) (whole : Bool),
    s.cfg.extendDetail = .standard → eaIn .cur m s = .ok r s1 →
    movsLoop (p.2 r.addr) (fun l1 _ => l1 == 0) ac e0 (strLen (s1.ac ac) + strLen (s1.ac (ac + 3))) true s1 =
      .ok whole s2 → t = { s2 with flags := { s2.flags with fpd := false } } →
    exec (p.1 ac e0 m) s = .next (if whole = true ∧ strLen (s2.ac ac) = 0 then t.setPc (t.pc + 1) else t)) ∧
  (∀ (ac : AcNum) (e0 : VAddr) (m : EaField) (s s1 s2 s3 t : State) (r : EaResult) (whole : Bool) (l1 l2 : Nat),
    s.cfg.extendDetail = .standard → eaIn .cur m s = .ok r s1 → l1 = strLen (s1.ac ac) → l2 = strLen (s1.ac (ac + 3)) →
    s2 = (if l1 ≤ l2 then s1
      else (s1.setAc ac (withLen (s1.ac ac) l2)).setAc (ac + 1) (bpIncr^[l1 - l2] (s1.ac (ac + 1)))) →
    movsLoop asIs (fun l1 l2 => l1 < l2) ac e0 (l1 + l2) (decide (l1 ≤ l2)) s2 = .ok whole s3 →
    t = { s3 with flags := { s3.flags with fpd := false } } →
    exec (.movsrj ac e0 m) s = .next (t.setPc (t.pc + 1))) ∧
  (∀ p ∈ toBinaryStrings, ∀ (ac : AcNum) (e0 : VAddr) (m : EaField) (s s1 s2 s3 t : State) (r : EaResult)
    (whole : Bool),
    s.cfg.extendDetail = .standard → eaIn .cur m s = .ok r s1 →
    cvtdbLoop (p.2 r.addr) ac (strLen (s1.ac ac)) true s1 = .ok whole s2 →
    (if whole && (s2.ac ac).getLsbD 34 then putResult ac (-dval (s2.ac (ac + 3)) (s2.ac (ac + 4))) s2 else .ok () s2) =
      .ok () s3 → t = { s3 with flags := { s3.flags with fpd := false } } →
    exec (p.1 ac e0 m) s = .next (if whole then t.setPc (t.pc + 1) else t)) ∧
  (∀ p ∈ toDecimalStrings, ∀ (ac : AcNum) (e0 : VAddr) (m : EaField) (s s1 s2 : State) (r : EaResult) (v : Int)
    (len : Word) (ds : List Nat), s.cfg.extendDetail = .standard → eaIn .cur m s = .ok r s1 →
    v = dval (s1.ac ac) (s1.ac (ac + 1)) → len = s1.ac (ac + 3) →
    s2 = s1.setAc (ac + 3) (if v < 0 then len ||| 0o200000000000 else len) →
    ds = digitsToStore s.flags.fpd (len.getLsbD 35) (strLen len) v.natAbs →
    (strLen len < ds.length → exec (p.1 ac e0 m) s = .next { s2 with flags := { s2.flags with fpd := false } }) ∧
    ∀ t : State, ds.length ≤ strLen len →
      storeDigits (p.2 r.addr) ac (len.getLsbD 35) (decide (v < 0)) ds true s2 = .ok () t →
      exec (p.1 ac e0 m) s = .next { t with flags := { t.flags with fpd := false }, pc := t.pc + 1 }) ∧
  ∀ (ac : AcNum) (e0 : VAddr) (m : EaField) (s s1 s2 t : State) (r : EaResult) (stopped : Bool),
    s.cfg.extendDetail = .standard → eaIn .cur m s = .ok r s1 →
    editLoop ac e0 r.addr (2 ^ 20) true s1 = .ok stopped s2 →
    t = { s2 with flags := { s2.flags with fpd := false } } →
    exec (.edit ac e0 m) s = .next (if stopped then t.setPc (t.pc + 1) else t)

/-- What the loops of the string operations do with one byte: CMPS compares the next bytes, or fills, and counts
them off; MOVSO, MOVST, MOVSLJ and MOVSRJ store the byte moved, end at one that is too big or whose code aborts, or
store the fill; the conversions take in every digit up to 9, whatever its control code, or store one, leaving in
the accumulators what a restart needs; and MOVSRJ drops the first of two bytes. A byte too big for the destination
leaves MOVSLJ and MOVSRJ with a length that counts it, so MOVSLJ never ends at a byte with L1 = 0; the other ends
count the byte off. The points log entries 21 to 26, 43 and 44 name are the model's choices. Rests on 43_extend.md
sections 1 to 4, R551, R552, R560 to R567; 60_exceptions.md section 1, R1207. -/
def Obligations.StringBytes : Prop :=
  (∀ (ac : AcNum) (e0 : VAddr) (k : Nat) (first : Bool) (s t : State),
    movsLoop asIs (fun l1 _ => l1 == 0) ac e0 k first s = .ok false t → strLen (t.ac ac) ≠ 0) ∧
  (∀ (f1 f2 x y : Word) (ac : AcNum) (k : Nat) (first : Bool) (s s1 s2 t : State) (a b p q p' q' : Word),
    a = s.ac ac → p = s.ac (ac + 1) → b = s.ac (ac + 3) → q = s.ac (ac + 4) → ¬ (strLen a = 0 ∧ strLen b = 0) →
    (first = true ∨ Quiet s) →
    (if strLen a = 0 then x = f1 &&& BitVec.ofNat 36 (2 ^ bpS p - 1) ∧ p' = p ∧ s1 = atByte first s
      else loadByte (bpIncr p) (atByte first s) = .ok x s1 ∧ p' = bpIncr p) →
    (if strLen b = 0 then y = f2 &&& BitVec.ofNat 36 (2 ^ bpS q - 1) ∧ q' = q ∧ s2 = s1
      else loadByte (bpIncr q) s1 = .ok y s2 ∧ q' = bpIncr q) →
    t = (((s2.setAc ac (withLen a (strLen a - 1))).setAc (ac + 1) p').setAc (ac + 3) (withLen b (strLen b - 1))).setAc
      (ac + 4) q' →
    cmpsLoop f1 f2 ac (k + 1) first s =
      if x = y then cmpsLoop f1 f2 ac k false t else .ok (if x.toNat < y.toNat then .lt else .gt) t) ∧
  (∀ (tr : Word → Word → M Moved) (pad : Nat → Nat → Bool) (ac : AcNum) (e0 : VAddr) (k : Nat) (first : Bool)
    (s s1 s2 s3 : State) (a b p q f x : Word) (r : Moved),
    a = s.ac ac → p = s.ac (ac + 1) → b = s.ac (ac + 3) → q = s.ac (ac + 4) → (first = true ∨ Quiet s) →
    (strLen b = 0 → movsLoop tr pad ac e0 (k + 1) first s = .ok true s) ∧
    (strLen b ≠ 0 → pad (strLen a) (strLen b) = true → rdE (e0 + 1) (atByte first s) = .ok f s1 →
      depositByte (bpIncr q) f s1 = .ok () s2 → movsLoop tr pad ac e0 (k + 1) first s =
        movsLoop tr pad ac e0 k false ((s2.setAc (ac + 3) (withLen b (strLen b - 1))).setAc (ac + 4) (bpIncr q))) ∧
    (strLen b ≠ 0 → pad (strLen a) (strLen b) = false → loadByte (bpIncr p) (atByte first s) = .ok x s1 →
      tr a x s1 = .ok r s2 → s2.ac (ac + 4) = q →
      (r.ends = true → movsLoop tr pad ac e0 (k + 1) first s =
        .ok false ((s2.setAc ac (withLen a (strLen a - 1))).setAc (ac + 1) (bpIncr p))) ∧
      (r.ends = false → r.stores = true → 2 ^ bpS q ≤ r.val.toNat → movsLoop tr pad ac e0 (k + 1) first s =
        .ok false ((s2.setAc ac (withLen r.len (if r.stays then strLen a else strLen a - 1))).setAc (ac + 1)
          (bpIncr p))) ∧
      (r.ends = false → r.stores = false → movsLoop tr pad ac e0 (k + 1) first s = movsLoop tr pad ac e0 k false
        ((s2.setAc ac (withLen r.len (strLen a - 1))).setAc (ac + 1) (bpIncr p))) ∧
      (r.ends = false → r.stores = true → r.val.toNat < 2 ^ bpS q → depositByte (bpIncr q) r.val s2 = .ok () s3 →
        movsLoop tr pad ac e0 (k + 1) first s = movsLoop tr pad ac e0 k false
          ((((s3.setAc ac (withLen r.len (strLen a - 1))).setAc (ac + 1) (bpIncr p)).setAc (ac + 3)
            (withLen b (strLen b - 1))).setAc (ac + 4) (bpIncr q))))) ∧
  (∀ (e1 : VAddr) (a b w : Word) (h : Half) (code : BitVec 3) (s t : State),
    rdE (e1 + (b >>> 1).setWidth 18) s = .ok w t → h = (if b.getLsbD 0 then rh w else lh w) →
      code = h.extractLsb' 15 3 →
    (∃ r, byTable e1 a b s = .ok r t ∧ r.stays = false ∧ r.val = (h.extractLsb' 0 12).setWidth 36 ∧
      r.ends = (code == 1 || code == 5) ∧
      (r.ends = false → r.len = codeFlags code 33 a ∧
        r.stores = (code == 0 || code == 4 || code == 6 || code == 7 || (codeFlags code 33 a).getLsbD 35))) ∧
    ∃ d, digitByTable e1 a b s = .ok d t ∧ d.val = (h.extractLsb' 0 4).setWidth 36 ∧
      d.ends = (code == 1 || code == 5 || decide (9 < (h.extractLsb' 0 4).toNat)) ∧
      (d.ends = false → d.len = codeFlags code 34 a)) ∧
  (∀ p ∈ toBinaryStrings, ∀ (ac : AcNum) (e0 : VAddr) (m : EaField) (s s1 s2 s3 : State) (r : EaResult) (x : Word)
    (d : Digit) (n : Int), s.cfg.extendDetail = .standard → strLen (s.ac ac) = 1 → eaIn .cur m s = .ok r s1 →
    loadByte (bpIncr (s.ac (ac + 1))) s1 = .ok x s2 → p.2 r.addr (s.ac ac) x s2 = .ok d s3 →
    n = dval (s.ac (ac + 3)) (s.ac (ac + 4)) * 10 + d.val.toNat →
    (d.ends = true → exec (p.1 ac e0 m) s = .next { s3.setAc (ac + 1) (bpIncr (s.ac (ac + 1))) with
      flags := { s3.flags with fpd := false } }) ∧
    (d.ends = false → ∃ t, exec (p.1 ac e0 m) s = .next t ∧ t.pc = s.pc + 1 ∧ t.mem = s3.mem ∧
      t.ac ac = setBit 35 true (withLen d.len 0) ∧ t.ac (ac + 1) = bpIncr (s.ac (ac + 1)) ∧
      (∀ i : AcNum, i ≠ ac → i ≠ ac + 1 → i ≠ ac + 3 → i ≠ ac + 4 → t.ac i = s.ac i) ∧
      (-2 ^ 70 < n ∧ n < 2 ^ 70 → dval (t.ac (ac + 3)) (t.ac (ac + 4)) = (if d.len.getLsbD 34 then -n else n) ∧
        t.flags = { s.flags with fpd := false }) ∧
      (n < -2 ^ 70 ∨ 2 ^ 70 ≤ n → t.flags = { s.flags with fpd := false, aov := true, trap1 := true }))) ∧
  (∀ (off a b : Word) (s : State), digitByOffset off a b s = .ok ⟨a, b + off, decide (9 < (b + off).toNat)⟩ s ∧
    byOffset off a b s = .ok ⟨a, b + off, true, false, false⟩ s ∧ asIs a b s = .ok ⟨a, b, true, false, true⟩ s) ∧
  (∀ (dg : Nat → M Word) (ac : AcNum) (signif neg first : Bool) (d : Nat) (ds : List Nat) (s s1 s2 : State)
    (v len bp : Word) (left : Int), (first = true ∨ Quiet s) → dg d (atByte first s) = .ok v s1 → bp = s1.ac (ac + 4) →
    depositByte (bpIncr bp) v s1 = .ok () s2 → len = s2.ac (ac + 3) →
    left = (if neg then -1 else 1) * ((if signif then 0 else 10 ^ ds.length) + digitsVal ds : Nat) →
    storeDigits dg ac signif neg (d :: ds) first s =
      storeDigits dg ac signif neg ds false ((((s2.setAc (ac + 3) (withLen len (strLen len - 1))).setAc (ac + 4)
        (bpIncr bp)).setAc ac (dhi left)).setAc (ac + 1) (dlo left)) ∧
    storeDigits dg ac signif neg [] first s = .ok () ((s.setAc ac 0).setAc (ac + 1) 0)) ∧
  (∀ n : Nat, n ≤ 2 ^ 70 → digitsVal (decimals n) = n ∧ (∀ d ∈ decimals n, d < 10) ∧ decimals n ≠ [] ∧
    (n ≠ 0 → (decimals n).head? ≠ some 0) ∧ ∀ room : Nat, digitsToStore false false room n = decimals n ∧
      ∀ restart : Bool, digitsToStore restart true room n =
        List.replicate (room - (decimals n).length) 0 ++ decimals n) ∧
  (∀ ds : List Nat, ds ≠ [] → ds.length ≤ 21 → (∀ d ∈ ds, d < 10) → ∀ room : Nat,
    digitsToStore true false room (10 ^ ds.length + digitsVal ds) = ds ∧
    digitsToStore true true ds.length (digitsVal ds) = ds) ∧
  ∀ (ac : AcNum) (e0 : VAddr) (m : EaField) (s s1 s2 s3 t : State) (r : EaResult) (a p b q x : Word),
    s.cfg.extendDetail = .standard → a = s.ac ac → p = s.ac (ac + 1) → b = s.ac (ac + 3) → q = s.ac (ac + 4) →
    strLen a = 2 → strLen b = 1 → eaIn .cur m s = .ok r s1 → Quiet s1 →
    loadByte (bpIncr (bpIncr p)) (atByte false ((s1.setAc ac (withLen a 1)).setAc (ac + 1) (bpIncr p))) = .ok x s2 →
    x.toNat < 2 ^ bpS q → depositByte (bpIncr q) x s2 = .ok () s3 →
    t = (((s3.setAc ac (withLen a 0)).setAc (ac + 1) (bpIncr (bpIncr p))).setAc (ac + 3) (withLen b 0)).setAc (ac + 4)
      (bpIncr q) →
    exec (.movsrj ac e0 m) s = .next { t with flags := { t.flags with fpd := false }, pc := t.pc + 1 }

/-- The pattern operators of EDIT: SELECT, SIGST, FLDSEP, EXCHMD, MESSAG, SKPM, SKPN, SKPA, STOP and the codes that
do nothing, each with the accumulators and bytes it changes, and how the pattern pointer moves over bytes. That FPD
is set and an interrupt looked for before every pattern byte but the first (log entries 21 and 26) and the points
log entry 25 names are the model's choices. Rests on 43_extend.md sections 1 and 2, R551, R556. -/
def Obligations.EditSteps : Prop :=
  (∀ (a : Word) (n : Nat), patPlace (patNext a n) = (patPlace a + n) % 2 ^ 20 ∧
    (patNext a n).extractLsb' 32 4 = a.extractLsb' 32 4 ∧ (patNext a n).extractLsb' 18 12 = a.extractLsb' 18 12) ∧
  (∀ (ac : AcNum) (e0 e1 : VAddr) (k : Nat) (first : Bool) (s s1 : State) (a w : Word) (p : BitVec 9),
    (first = true ∨ Quiet s) → a = s.ac ac → rdE (rh a) (atByte first s) = .ok w s1 →
    p = w.extractLsb' (27 - 9 * (a.extractLsb' 30 2).toNat) 9 →
    (p = 0 → editLoop ac e0 e1 (k + 1) first s = .ok true (s1.setAc ac (patNext a 1))) ∧
    (∀ (go : Bool) (t : State), p = 1 → editSelect ac e0 e1 a s1 = .ok go t →
      editLoop ac e0 e1 (k + 1) first s = if go then editLoop ac e0 e1 k false t else .ok false t) ∧
    ∀ t : State, 2 ≤ p.toNat → editPlain ac e0 a p s1 = .ok () t →
      editLoop ac e0 e1 (k + 1) first s = editLoop ac e0 e1 k false t) ∧
  (∀ (ac : AcNum) (e0 e1 : VAddr) (s s1 s2 : State) (a b w bp src : Word) (h : Half) (code : BitVec 3),
    src = s.ac (ac + 1) → loadByte (bpIncr src) s = .ok b s1 → rdE (e1 + (b >>> 1).setWidth 18) s1 = .ok w s2 →
    h = (if b.getLsbD 0 then rh w else lh w) → code = h.extractLsb' 15 3 → bp = s2.ac (ac + 4) →
    (code = 1 ∨ code = 5 → editSelect ac e0 e1 a s =
      .ok false ((s2.setAc ac (patNext a 1)).setAc (ac + 1) (bpIncr src))) ∧
    (code ≠ 1 → code ≠ 5 → (codeFlags code 33 a).getLsbD 35 = true → ∀ t : State,
      depositByte (bpIncr bp) ((h.extractLsb' 0 12).setWidth 36) s2 = .ok () t → editSelect ac e0 e1 a s =
        .ok true (((t.setAc (ac + 4) (bpIncr bp)).setAc ac (patNext (codeFlags code 33 a) 1)).setAc (ac + 1)
          (bpIncr src))) ∧
    (code ≠ 1 → code ≠ 5 → (codeFlags code 33 a).getLsbD 35 = false → ∀ (fill : Word) (t u : State),
      rdE (e0 + 1) s2 = .ok fill t →
      (if fill = 0 then u = t else ∃ v, t.ac (ac + 4) = bp ∧ depositByte (bpIncr bp) fill t = .ok () v ∧
        u = v.setAc (ac + 4) (bpIncr bp)) →
      editSelect ac e0 e1 a s =
        .ok true ((u.setAc ac (patNext (codeFlags code 33 a) 1)).setAc (ac + 1) (bpIncr src)))) ∧
  (∀ (ac : AcNum) (e0 : VAddr) (s : State) (a : Word),
    (a.getLsbD 35 = true → editPlain ac e0 a 2 s = .ok () (s.setAc ac (patNext (setBit 35 true a) 1))) ∧
    (∀ (f : Word) (s1 s2 u : State), a.getLsbD 35 = false → wrE (rh (s.ac (ac + 3))) (s.ac (ac + 4)) s = .ok () s1 →
      rdE (e0 + 2) s1 = .ok f s2 →
      (if f = 0 then u = s2 else ∃ v, depositByte (bpIncr (s2.ac (ac + 4))) f s2 = .ok () v ∧
        u = v.setAc (ac + 4) (bpIncr (s2.ac (ac + 4)))) →
      editPlain ac e0 a 2 s = .ok () (u.setAc ac (patNext (setBit 35 true a) 1))) ∧
    editPlain ac e0 a 3 s =
      .ok () (s.setAc ac (patNext (setBit 35 false (setBit 34 false (setBit 33 false a))) 1)) ∧
    editPlain ac e0 a 4 s =
      .ok () (((s.setAc (ac + 3) (s.ac (ac + 4))).setAc (ac + 4) (s.ac (ac + 3))).setAc ac (patNext a 1)) ∧
    ∀ (n : Nat), n < 64 →
      (∀ (f : Word) (s1 s2 : State),
        rdE (e0 + (if a.getLsbD 35 then BitVec.ofNat 18 (n + 2) else 1)) s = .ok f s1 →
        depositByte (bpIncr (s1.ac (ac + 4))) f s1 = .ok () s2 → editPlain ac e0 a (0o100 + BitVec.ofNat 9 n) s =
          .ok () ((s2.setAc (ac + 4) (bpIncr (s1.ac (ac + 4)))).setAc ac (patNext a 1))) ∧
      editPlain ac e0 a (0o500 + BitVec.ofNat 9 n) s =
        .ok () (s.setAc ac (patNext a (if a.getLsbD 33 then n + 2 else 1))) ∧
      editPlain ac e0 a (0o600 + BitVec.ofNat 9 n) s =
        .ok () (s.setAc ac (patNext a (if a.getLsbD 34 then n + 2 else 1))) ∧
      editPlain ac e0 a (0o700 + BitVec.ofNat 9 n) s = .ok () (s.setAc ac (patNext a (n + 2))) ∧
      (5 ≤ n → editPlain ac e0 a (BitVec.ofNat 9 n) s = .ok () (s.setAc ac (patNext a 1))) ∧
      ∀ q : BitVec 9, q ∈ [(0o200 : BitVec 9), 0o300, 0o400] →
        editPlain ac e0 a (q + BitVec.ofNat 9 n) s = .ok () (s.setAc ac (patNext a 1)))

/-- String operations on empty strings, EDIT at a STOP, EXTEND of an empty MOVSLJ, and MOVSLJ of one byte: the
whole next state. That EDIT moves its pattern pointer past the STOP (log entry 25), that a conversion to decimal
with no room still sets N and starts at its first digit when FPD is clear (log entry 24), that FPD is cleared (log
entry 26), and that a move without fill does not read the fill word and writes the accumulators after the
references of the byte (log entry 21) are the model's choices. Rests on 43_extend.md sections 1 to 4, R550, R551,
R552, R556, R560 to R567. -/
def Obligations.ShortStrings : Prop :=
  (∀ p ∈ compareStrings, ∀ (ac : AcNum) (e0 : VAddr) (m : EaField) (s s1 s2 s3 t : State) (r : EaResult) (f1 f2 : Word),
    strLen (s.ac ac) = 0 → strLen (s.ac (ac + 3)) = 0 → s.cfg.extendDetail = .standard → eaIn .cur m s = .ok r s1 →
      rdE (e0 + 1) s1 = .ok f1 s2 →
    rdE (e0 + 2) s2 = .ok f2 s3 → t = { s3 with flags := { s3.flags with fpd := false } } →
    (p.2 .eq → exec (p.1 ac e0 m) s = .next (t.setPc (t.pc + 1))) ∧ (¬ p.2 .eq → exec (p.1 ac e0 m) s = .next t)) ∧
  (∀ i ∈ [Instr.movso, .movst, .movslj, .movsrj], ∀ (ac : AcNum) (e0 : VAddr) (m : EaField) (s s1 t : State)
    (r : EaResult), strLen (s.ac ac) = 0 → strLen (s.ac (ac + 3)) = 0 → s.cfg.extendDetail = .standard →
      eaIn .cur m s = .ok r s1 →
    t = { s1 with flags := { s1.flags with fpd := false } } → exec (i ac e0 m) s = .next (t.setPc (t.pc + 1))) ∧
  (∀ i ∈ [Instr.cvtdbo, .cvtdbt], ∀ (ac : AcNum) (e0 : VAddr) (m : EaField) (s s1 t : State) (r : EaResult),
    strLen (s.ac ac) = 0 → (s.ac ac).getLsbD 34 = false → s.cfg.extendDetail = .standard → eaIn .cur m s = .ok r s1 →
    t = { s1 with flags := { s1.flags with fpd := false } } → exec (i ac e0 m) s = .next (t.setPc (t.pc + 1))) ∧
  (∀ i ∈ [Instr.cvtbdo, .cvtbdt], ∀ (ac : AcNum) (e0 : VAddr) (m : EaField) (s s1 t : State) (r : EaResult),
    strLen (s.ac (ac + 3)) = 0 → s.flags.fpd = false → s.cfg.extendDetail = .standard → eaIn .cur m s = .ok r s1 →
    t = s1.setAc (ac + 3) (if dval (s.ac ac) (s.ac (ac + 1)) < 0 then s.ac (ac + 3) ||| 0o200000000000
      else s.ac (ac + 3)) →
    exec (i ac e0 m) s = .next { t with flags := { t.flags with fpd := false } }) ∧
  (∀ (ac : AcNum) (e0 : VAddr) (m : EaField) (s s1 s2 t : State) (r : EaResult) (w : Word),
    s.cfg.extendDetail = .standard → eaIn .cur m s = .ok r s1 → rdE (rh (s.ac ac)) s1 = .ok w s2 →
    w.extractLsb' (27 - 9 * ((s.ac ac).extractLsb' 30 2).toNat) 9 = 0 → t = s2.setAc ac (patNext (s.ac ac) 1) →
    exec (.edit ac e0 m) s = .next { t with flags := { t.flags with fpd := false }, pc := t.pc + 1 }) ∧
  (∀ (ac : AcNum) (m : EaField) (s s1 s2 s3 t : State) (e0 : VAddr) (x : Word) (r : EaResult),
    s.cfg.extendDetail = .standard → ea m s = .ok e0 s1 → vread .cur e0 s1 = .ok x s2 → opField x = 0o16 →
      eaIn .cur (eaField x) s2 = .ok r s3 →
    strLen (s.ac ac) = 0 → strLen (s.ac (ac + 3)) = 0 →
    t = { s3 with flags := { s3.flags with fpd := false } } → exec (.extend ac m) s = .next (t.setPc (t.pc + 1))) ∧
  ∀ (ac : AcNum) (e0 : VAddr) (m : EaField) (s s1 s2 s3 t : State) (r : EaResult) (b : Word),
    strLen (s.ac ac) = 1 → strLen (s.ac (ac + 3)) = 1 → s.cfg.extendDetail = .standard → eaIn .cur m s = .ok r s1 →
    loadByte (bpIncr (s.ac (ac + 1))) s1 = .ok b s2 → b.toNat < 2 ^ bpS (s.ac (ac + 4)) →
      depositByte (bpIncr (s.ac (ac + 4))) b s2 = .ok () s3 →
    t = (((s3.setAc ac (withLen (s.ac ac) 0)).setAc (ac + 1) (bpIncr (s.ac (ac + 1)))).setAc (ac + 3)
      (withLen (s.ac (ac + 3)) 0)).setAc (ac + 4) (bpIncr (s.ac (ac + 4))) →
    exec (.movslj ac e0 m) s = .next { t with flags := { t.flags with fpd := false }, pc := t.pc + 1 }

/-- With the I/O privilege, the functions of 0o700 to 0o702 store and load the processor registers, test status
bits, and change what their E says; nothing else changes; and bit by bit what WRAPR and WRPI set and clear, what
the words of RDAPR, RDPI, RDUBR and RDEBR hold, and what WRUBR and WREBR load. Rests on 49_io.md sections 2 to 5
and 7, R1101 to R1144; 10_state.md sections 6 to 8, R80, R81, R85, R87. -/
def Obligations.RegisterForms : Prop :=
  (∀ p ∈ registerReads, ∀ (m : EaField) (s s1 t : State) (e : VAddr), s.mayIo = true →
    (∀ b, p.2.1 = some b → s.cfg.its = b) → ea m s = .ok e s1 → wrE e (p.2.2 s1) s1 = .ok () t →
    exec (p.1 m) s = .next t) ∧
  (∀ p ∈ registerLoads, ∀ (m : EaField) (s s1 s2 : State) (e : VAddr) (w : Word), s.mayIo = true →
    (∀ b, p.2.1 = some b → s.cfg.its = b) → ea m s = .ok e s1 → rdE e s1 = .ok w s2 →
    exec (p.1 m) s = .next (p.2.2 w s2)) ∧
  (∀ p ∈ addressFunctions, ∀ (m : EaField) (s s1 : State) (e : VAddr), s.mayIo = true →
    (∀ b, p.2.1 = some b → s.cfg.its = b) → ea m s = .ok e s1 → exec (p.1 m) s = .next (p.2.2 e s1)) ∧
  (∀ p ∈ statusTests, ∀ (m : EaField) (s s1 : State) (e : VAddr), s.mayIo = true → ea m s = .ok e s1 →
    exec (p.1 m) s = .next (if (p.2.1 s1 &&& e == 0) = p.2.2 then s1.setPc (s1.pc + 1) else s1)) ∧
  (∀ (m : EaField) (s s1 t : State) (e : VAddr), s.mayIo = true → ea m s = .ok e s1 →
    wrE2 e (s1.timeBase.extractLsb' 36 36) (s1.timeBase.extractLsb' 0 36) s1 = .ok () t → exec (.rdtim m) s = .next t) ∧
  (∀ (m : EaField) (s s1 s2 : State) (e : VAddr) (b : Word × Word), s.mayIo = true → ea m s = .ok e s1 →
    rdE2 e s1 = .ok b s2 → exec (.wrtim m) s = .next { s2 with timeBase := b.1 ++ b.2 }) ∧
  (∀ (m : EaField) (s s1 s2 t : State) (e : VAddr), s.mayIo = true → s.cfg.its = true → ea m s = .ok e s1 →
    wrE2 e (s1.base.dbr1.setWidth 36) (s1.base.dbr2.setWidth 36) s1 = .ok () s2 → wrE2 (e + 2) 0 0 s2 = .ok () t →
    exec (.spm m) s = .next t) ∧
  (∀ (m : EaField) (s s1 s2 s3 : State) (e : VAddr) (b d : Word × Word), s.mayIo = true → s.cfg.its = true →
    ea m s = .ok e s1 → rdE2 e s1 = .ok b s2 → rdE2 (e + 2) s2 = .ok d s3 →
    exec (.lpmr m) s = .next ({ s3 with base :=
      { s3.base with dbr1 := physBits s3 b.1, dbr2 := physBits s3 b.2 } } : State).invalidateAll) ∧
  (∀ (e : VAddr) (a : Apr) (i : Nat), i < 8 →
    (wraprApr e a).enb.getLsbD i = ((a.enb.getLsbD i || e.getLsbD 15 && e.getLsbD (i + 4)) &&
      !(e.getLsbD 14 && e.getLsbD (i + 4))) ∧
    (wraprApr e a).flg.getLsbD i = ((a.flg.getLsbD i || e.getLsbD 12 && e.getLsbD (i + 4)) &&
      !(e.getLsbD 13 && e.getLsbD (i + 4))) ∧ (wraprApr e a).lvl = e.extractLsb' 0 3) ∧
  (∀ (e : VAddr) (p q : PiSys) (i : Nat), i < 7 → q = (if e.getLsbD 12 then ⟨false, 0, 0, 0, p.ioq⟩ else p) →
    (wrpiPi e p).prq.getLsbD i = ((q.prq.getLsbD i || e.getLsbD 11 && e.getLsbD i) && !(e.getLsbD 13 && e.getLsbD i)) ∧
    (wrpiPi e p).enb.getLsbD i = ((q.enb.getLsbD i || e.getLsbD 10 && e.getLsbD i) && !(e.getLsbD 9 && e.getLsbD i)) ∧
    (wrpiPi e p).on = ((q.on || e.getLsbD 7) && !e.getLsbD 8) ∧ (wrpiPi e p).act = q.act ∧ (wrpiPi e p).ioq = p.ioq) ∧
  (∀ (s : State) (i : Nat), i < 18 →
    (aprStatus s).getLsbD i = (if 12 ≤ i then false else if 4 ≤ i then s.apr.flg.getLsbD (i - 4)
      else if i = 3 then s.apr.flg &&& s.apr.enb != 0 else s.apr.lvl.getLsbD i) ∧
    (piStatus s).getLsbD i = (if 15 ≤ i then false else if 8 ≤ i then s.pi.act.getLsbD (i - 8)
      else if i = 7 then s.pi.on else s.pi.enb.getLsbD i)) ∧
  (∀ (s : State) (i : Nat), i < 36 →
    s.ubrWord.getLsbD i = (if i = 35 ∨ i = 33 then true else if 30 ≤ i then false
      else if 27 ≤ i then s.base.ubr.cab.getLsbD (i - 27) else if 24 ≤ i then s.base.ubr.pab.getLsbD (i - 24)
      else decide (i < 13) && s.base.ubr.uptPg.getLsbD i) ∧
    (rdebr s).getLsbD i = (if i = 14 then s.base.ebr.t20 else if i = 13 then s.base.ebr.pgon
      else decide (i < 13) && s.base.ebr.eptPg.getLsbD i)) ∧
  (∀ (w : Word) (s t : State), t = (if w.getLsbD 35 then { s with base := { s.base with
      ubr := { s.base.ubr with cab := w.extractLsb' 27 3, pab := w.extractLsb' 24 3 } } } else s) →
    wrubrSt w s = if w.getLsbD 33 then { t with
      cache := ⟨[], [], none, none⟩
      base := { t.base with
        ubr := { t.base.ubr with uptPg := BitVec.ofNat 13 (w.toNat % 2 ^ (s.cfg.paWidth - 9)) } } } else t) ∧
  ∀ (e : VAddr) (s : State), wrebrSt e s = { s with
    cache := ⟨[], [], none, none⟩
    base := { s.base with
      ebr := ⟨e.getLsbD 14, e.getLsbD 13, BitVec.ofNat 13 (e.toNat % 2 ^ (s.cfg.paWidth - 9))⟩ } }

/-- With the I/O privilege, the bus instructions perform one operation on the bus at their I/O address, with the
answer of the I/O subsystem in AC, tested, or modified and written back; the I and Q forms address the controllers
ITS_IO_CTL_I (3) and ITS_IO_CTL_Q (1) at register E; where nothing answers the read or the write, the write of a
read-modify-write too, they page-fail with the status word of R1149 and change no accumulator; and UMOVE and UMOVEM
move between AC and the previous context. The model's own: that the ordinary E is computed before the I/O address,
so that an indirect form reads its word twice (log entry 15, DEDUCED), and that a script of answers that is used up
is no device (log entry 8, DESIGN CHOICE). Rests on 49_io.md sections 5 to 9, R1140, R1145 to R1155, R1158 to R1176. -/
def Obligations.BusForms : Prop :=
  (∀ p ∈ busModifies, ∀ (ac : AcNum) (m : EaField) (s s1 s2 : State) (e : VAddr) (a : BitVec 22) (v w : Word)
    (vs : List (Option Word)), s.mayIo = true → s.cfg.its = false → ea m s = .ok e s1 → ioea m e s1 = .ok a s2 →
    s2.env.reads = some v :: vs → (s2.env.writes = [] ∨ ∃ ws, s2.env.writes = false :: ws) →
    w = (if p.2.2 = .byte then p.2.1 v (s.ac ac) &&& 0o377 else p.2.1 v (s.ac ac)) →
    exec (p.1 ac m) s = abortOutcome .pageFail { s2 with
      pagerWord := s2.pfwWord (.io s2.flags.user a)
      env := { s2.env with
        reads := vs
        writes := s2.env.writes.drop 1
        log := .write a w p.2.2 :: .read a p.2.2 :: s2.env.log } }) ∧
  (∀ (m : EaField) (e : VAddr) (s : State), IoAddr.plain.get m e s = ioea m e s ∧
    IoAddr.formI.get m e s = .ok (s.cfg.ioCtlI.setWidth 22 <<< 18 ||| e.setWidth 22) s ∧
    IoAddr.formQ.get m e s = .ok (s.cfg.ioCtlQ.setWidth 22 <<< 18 ||| e.setWidth 22) s ∧
    Config.default.ioCtlI = 3 ∧ Config.default.ioCtlQ = 1) ∧
  (∀ p ∈ busReads, ∀ (ac : AcNum) (m : EaField) (s s1 s2 : State) (e : VAddr) (a : BitVec 22) (v : Word)
    (vs : List (Option Word)),
    s.mayIo = true → s.cfg.its = p.2.1 → ea m s = .ok e s1 → p.2.2.1.get m e s1 = .ok a s2 →
    s2.env.reads = some v :: vs →
    exec (p.1 ac m) s = .next (({ s2 with env := { s2.env with
      reads := vs, log := .read a p.2.2.2 :: s2.env.log } } : State).setAc ac
        (if p.2.2.2 = .byte then v &&& 0o377 else v))) ∧
  (∀ p ∈ busWrites, ∀ (ac : AcNum) (m : EaField) (s s1 s2 : State) (e : VAddr) (a : BitVec 22) (ws : List Bool),
    s.mayIo = true → s.cfg.its = p.2.1 → ea m s = .ok e s1 → p.2.2.1.get m e s1 = .ok a s2 →
    s2.env.writes = true :: ws →
    exec (p.1 ac m) s = .next { s2 with env := { s2.env with
      writes := ws
      log := .write a (if p.2.2.2 = .byte then s.ac ac &&& 0o377 else s.ac ac) p.2.2.2 :: s2.env.log } }) ∧
  (∀ p ∈ busTests, ∀ (ac : AcNum) (m : EaField) (s s1 s2 t : State) (e : VAddr) (a : BitVec 22) (v : Word)
    (vs : List (Option Word)),
    s.mayIo = true → s.cfg.its = false → ea m s = .ok e s1 → ioea m e s1 = .ok a s2 → s2.env.reads = some v :: vs →
    t = { s2 with env := { s2.env with reads := vs, log := .read a p.2.1 :: s2.env.log } } →
    exec (p.1 ac m) s =
      .next (if (decide ((if p.2.1 = .byte then v &&& 0o377 else v) &&& s.ac ac = 0)) = p.2.2 then t.setPc (t.pc + 1)
        else t)) ∧
  (∀ p ∈ busModifies, ∀ (ac : AcNum) (m : EaField) (s s1 s2 : State) (e : VAddr) (a : BitVec 22) (v : Word)
    (vs : List (Option Word))
    (ws : List Bool), s.mayIo = true → s.cfg.its = false → ea m s = .ok e s1 → ioea m e s1 = .ok a s2 →
    s2.env.reads = some v :: vs → s2.env.writes = true :: ws →
    exec (p.1 ac m) s = .next { s2 with env := { s2.env with
      reads := vs
      writes := ws
      log := .write a (if p.2.2 = .byte then p.2.1 v (s.ac ac) &&& 0o377 else p.2.1 v (s.ac ac)) p.2.2 ::
        .read a p.2.2 :: s2.env.log } }) ∧
  (∀ (ac : AcNum) (m : EaField) (s s1 s2 : State) (e : VAddr) (w : Word), s.mayIo = true → ea m s = .ok e s1 →
    vread .prev e s1 = .ok w s2 →
    exec (.umove ac m) s = .next (s2.setAc ac w)) ∧
  (∀ (ac : AcNum) (m : EaField) (s s1 t : State) (e : VAddr), s.mayIo = true → ea m s = .ok e s1 →
    vwrite .prev e (s.ac ac) s1 = .ok () t →
    exec (.umovem ac m) s = .next t) ∧
  (∀ (m : EaField) (e : VAddr) (s s1 : State) (a : BitVec 22) (w : Word), s.cfg.ioeaMode = .standard →
    a = m.y.setWidth 22 + (if m.idx = 0 then 0 else (s.ac m.idx).setWidth 22) →
    (m.ind = false → ioea m e s = .ok a s) ∧
    (m.ind = true → vread s.ctxEa (a.setWidth 18) s = .ok w s1 → ioea m e s = .ok (w.setWidth 22) s1)) ∧
  (∀ (ac : AcNum) (m : EaField) (s s1 s2 t : State) (e : VAddr) (a : BitVec 22) (size : IoSize), s.mayIo = true →
    ea m s = .ok e s1 →
    t = { s2 with
      pagerWord := s2.pfwWord (.io s2.flags.user a)
      env := { s2.env with reads := s2.env.reads.drop 1, log := .read a size :: s2.env.log } } →
    (s2.env.reads = [] ∨ ∃ vs, s2.env.reads = none :: vs) →
    (∀ p ∈ busReads, s.cfg.its = p.2.1 → p.2.2.1.get m e s1 = .ok a s2 → size = p.2.2.2 →
      exec (p.1 ac m) s = abortOutcome .pageFail t) ∧
    (∀ p ∈ busTests, s.cfg.its = false → ioea m e s1 = .ok a s2 → size = p.2.1 →
      exec (p.1 ac m) s = abortOutcome .pageFail t) ∧
    ∀ p ∈ busModifies, s.cfg.its = false → ioea m e s1 = .ok a s2 → size = p.2.2 →
      exec (p.1 ac m) s = abortOutcome .pageFail t) ∧
  (∀ p ∈ busWrites, ∀ (ac : AcNum) (m : EaField) (s s1 s2 : State) (e : VAddr) (a : BitVec 22) (v : Word),
    s.mayIo = true → s.cfg.its = p.2.1 → ea m s = .ok e s1 → p.2.2.1.get m e s1 = .ok a s2 →
    (s2.env.writes = [] ∨ ∃ ws, s2.env.writes = false :: ws) →
    v = (if p.2.2.2 = .byte then s.ac ac &&& 0o377 else s.ac ac) →
    exec (p.1 ac m) s = abortOutcome .pageFail { s2 with
      pagerWord := s2.pfwWord (.io s2.flags.user a)
      env := { s2.env with writes := s2.env.writes.drop 1, log := .write a v p.2.2.2 :: s2.env.log } }) ∧
  ∀ (s : State) (user : Bool) (a : BitVec 22), s.cfg.pfwLayout = .standard → s.pfwWord (.io user a) =
    0o370000000000 ||| 0o000100000000 ||| (if user then 0o400000000000 else 0) ||| a.setWidth 36

/-- The external actions of step 1 and the host's questions: a step first performs the actions due, in order (the
list of them is the model's, log entry 7); TIMEBASE advances modulo 2^72 (log entry 32), an elapsed interval sets TIM
and nothing else when INTERVAL is not 0, the APR inputs set their flags, the host reads INT80 and clears it and no
other flag, a deposit reaches the named accumulator, memory word or register alone, one of the flags without AFI
under ITS (log entry 28), and conmap answers the physical address of a translation or Fail. A fetch from a marked
address is Stop(IBKPT) with nothing else changed, unless the host has asked to skip it, which that fetch uses up
(log entry 46); a fatal error is Stop(IOERR) at the step 1 it stands in (log entry 32), both with PC as it is (log
entry 29). A later reset leaves the configuration, accumulators, memory, TIMEBASE and breakpoints, and by the
model's choice the I/O requests and the request to skip (log entry 34), and sets everything else as the first reset
does. Rests on 60_exceptions.md sections 8 to 10, R1260, R1270, R1275, R1280, R1282, R1290 to R1292;
70_reset_and_hazards.md section 1, R1400. -/
def Obligations.ClockAndHost : Prop :=
  (∀ (s : State) (l : List AgentEvent) (rest : List (List AgentEvent)), s.pending = none →
    (s.env.agenda = [] → Sys2Proof.Machine.step s = boundary { s with report := .ok }) ∧
    (s.env.agenda = l :: rest → Sys2Proof.Machine.step s =
      boundary (l.foldl applyEvent { s with report := .ok, env := { s.env with agenda := rest } }))) ∧
  (∀ s : State, s.pending = none → s.env.agenda = [] → s.env.fatal = false → s.forcedExec = none →
    s.piPending = 0 → s.trapDue = false → s.pc ∈ s.breakpoints → s.bkptSkip = false →
    Sys2Proof.Machine.step s = .next { s with report := .stop .ibkpt }) ∧
  (∀ (s s1 t : State) (w : Word), s.bkptSkip = true → AtFetch { s with breakpoints := [] } →
    vread .cur s.pc { s with report := .ok, ipc := s.pc, indCount := 0, xctCount := 0, bkptSkip := false } = .ok w s1 →
    exec (decode s.cfg w) { s1 with pc := s1.pc + 1, pxct := 0, inhibit := false } = .next t → t.pending = none →
      t.its2pr = false →
    Sys2Proof.Machine.step s = .next { t with pxct := 0, inhibit := false, phase := .fetch }) ∧
  (∀ (s : State) (l : List VAddr), applyEvent s (.setBreakpoints l) = { s with breakpoints := l } ∧
    applyEvent s .skipBreakpoint = { s with bkptSkip := true } ∧
    applyEvent s .ioFatal = { s with env := { s.env with fatal := true } }) ∧
  (∀ s : State, s.pending = none → s.env.agenda = [] → s.env.fatal = true → Sys2Proof.Machine.step s =
    .next { s with env := { s.env with fatal := false }, report := .stop .ioerr }) ∧
  (∀ s t : State, t = applyEvent s .reset →
    t.acb = s.acb ∧ t.mem = s.mem ∧ t.timeBase = s.timeBase ∧ t.cfg = s.cfg ∧ t.breakpoints = s.breakpoints ∧
    t.pc = s.cfg.startPc ∧ t.ipc = s.cfg.startPc ∧ t.base.hsb = s.cfg.hsbReset ∧ t.pi.ioq = s.pi.ioq ∧
    t.bkptSkip = s.bkptSkip ∧ t.env = s.env ∧
    { t with
      acb := State.reset.acb, mem := State.reset.mem, timeBase := State.reset.timeBase, cfg := State.reset.cfg
      breakpoints := State.reset.breakpoints, pc := State.reset.pc, ipc := State.reset.ipc
      base := { t.base with hsb := State.reset.base.hsb }, pi := { t.pi with ioq := State.reset.pi.ioq }
      bkptSkip := State.reset.bkptSkip, env := State.reset.env } = State.reset) ∧
  (∀ (s : State) (w : Half) (f : Flags), f = Flags.ofHalf w → applyEvent s (.depositFlags w) =
    { s with flags := if s.cfg.its then { f with afi := false } else f }) ∧
  (∀ (s t : State) (pwf bmd ecc con : Bool), t = applyEvent s (.aprInput pwf bmd ecc con) →
    { t with apr := s.apr } = s ∧ t.apr.enb = s.apr.enb ∧ t.apr.lvl = s.apr.lvl ∧
    ∀ i < 8, t.apr.flg.getLsbD i = (s.apr.flg.getLsbD i || (pwf && i == s.cfg.aprBits.pwf.toNat) ||
      (bmd && i == s.cfg.aprBits.bmd.toNat) || (ecc && i == s.cfg.aprBits.ecc.toNat) ||
      (con && i == s.cfg.aprBits.con.toNat))) ∧
  (∀ (s : State) (n : Nat), applyEvent s (.tick n) = { s with timeBase := s.timeBase + BitVec.ofNat 72 n }) ∧
  (∀ s : State, s.interval ≠ 0 → applyEvent s .intervalDone =
    { s with apr := { s.apr with flg := s.apr.flg ||| 1 <<< s.cfg.aprBits.tim.toNat } }) ∧
  (∀ s : State, s.interval = 0 → applyEvent s .intervalDone = s) ∧
  (∀ s : State, readInt80 s = s.apr.flg.getLsbD s.cfg.aprBits.int80.toNat ∧
    readInt80 (applyEvent s .clearInt80) = false ∧
    { applyEvent s .clearInt80 with apr := s.apr } = s ∧
    (applyEvent s .clearInt80).apr.enb = s.apr.enb ∧ (applyEvent s .clearInt80).apr.lvl = s.apr.lvl ∧
    ∀ i < 8, i ≠ s.cfg.aprBits.int80.toNat →
      (applyEvent s .clearInt80).apr.flg.getLsbD i = s.apr.flg.getLsbD i) ∧
  (∀ (s : State) (b : BitVec 3) (n : AcNum) (v : Word), (applyEvent s (.depositAc b n v)).acOf b n = v ∧
    (∀ (b' : BitVec 3) (n' : AcNum), ¬ (b' = b ∧ n' = n) →
      (applyEvent s (.depositAc b n v)).acOf b' n' = s.acOf b' n') ∧
    { applyEvent s (.depositAc b n v) with acb := s.acb } = s) ∧
  (∀ (s : State) (pa : Nat) (v : Word), ∀ ev ∈ [AgentEvent.depositPhys pa v, .dma pa v],
    (pa < s.cfg.memSize → tblGet (applyEvent s ev).mem pa = some v ∧ MemSameOutside (· = pa) s (applyEvent s ev) ∧
      { applyEvent s ev with mem := s.mem } = s) ∧
    (s.cfg.memSize ≤ pa → applyEvent s ev = s)) ∧
  (∀ (s : State) (v : VAddr) (a : Nat) (mask : BitVec 7), applyEvent s (.depositPc v) = { s with pc := v } ∧
    applyEvent s (.forceExec a) = { s with forcedExec := some a } ∧
    applyEvent s (.ioRequest mask) = { s with pi := { s.pi with ioq := mask } }) ∧
  ∀ (s : State) (user : Bool) (va : VAddr), 0o20 ≤ va.toNat →
    (∀ (pa : Nat) (t : State), translate user .map va s = .ok pa t → conmap user va s = .phys pa) ∧
    ∀ t : State, translate user .map va s = .error .pageFail t → conmap user va s = .fail

end
end

