-- ==== Sys2Proof/Laws/Bits.lean ====
section
/-! SUPPORT. The fields of an instruction word, and the halves of a word. -/

namespace Sys2Proof

/-! ### Fields of a packed word (R301) -/

@[simp] theorem opField_pack (op : BitVec 9) (ac : AcNum) (m : EaField) : opField (pack op ac m) = op := by
  apply BitVec.eq_of_getLsbD_eq
  intro i hi
  simp only [opField, pack, BitVec.getLsbD_extractLsb', hi, decide_true, Bool.true_and, BitVec.getLsbD_append]
  rw [if_neg (by omega), if_neg (by omega), if_neg (by omega), if_neg (by omega)]
  congr 1
  omega

@[simp] theorem acField_pack (op : BitVec 9) (ac : AcNum) (m : EaField) : acField (pack op ac m) = ac := by
  apply BitVec.eq_of_getLsbD_eq
  intro i hi
  simp only [acField, pack, BitVec.getLsbD_extractLsb', hi, decide_true, Bool.true_and, BitVec.getLsbD_append]
  rw [if_neg (by omega), if_neg (by omega), if_neg (by omega), if_pos (by omega)]
  congr 1
  omega

@[simp] theorem eaField_pack (op : BitVec 9) (ac : AcNum) (m : EaField) : eaField (pack op ac m) = m := by
  obtain ⟨ind, idx, y⟩ := m
  simp only [eaField, pack, EaField.mk.injEq]
  refine ⟨?_, ?_, ?_⟩
  · simp only [BitVec.getLsbD_append]
    rw [if_neg (by omega), if_neg (by omega), if_pos (by omega)]
    cases ind <;> rfl
  · apply BitVec.eq_of_getLsbD_eq
    intro i hi
    simp only [BitVec.getLsbD_extractLsb', hi, decide_true, Bool.true_and, BitVec.getLsbD_append]
    rw [if_neg (by omega), if_pos (by omega)]
    congr 1
    omega
  · apply BitVec.eq_of_getLsbD_eq
    intro i hi
    simp only [BitVec.getLsbD_extractLsb', hi, decide_true, Bool.true_and, BitVec.getLsbD_append]
    rw [if_pos (by omega)]
    congr 1
    omega

/-- A word is its fields. -/
theorem pack_fields (w : Word) : pack (opField w) (acField w) (eaField w) = w := by
  apply BitVec.eq_of_getLsbD_eq
  intro i hi
  simp only [pack, opField, acField, eaField, BitVec.getLsbD_append, BitVec.getLsbD_extractLsb']
  split
  · simp_all
  · split
    · simp only [show i - 18 < 4 by assumption, decide_true, Bool.true_and]
      congr 1
      omega
    · split
      · obtain rfl : i = 22 := by omega
        cases h : w.getLsbD 22 <;> rfl
      · split
        · simp only [show i - 18 - 4 - 1 < 4 by assumption, decide_true, Bool.true_and]
          congr 1
          omega
        · simp only [show i - 18 - 4 - 1 - 4 < 9 by omega, decide_true, Bool.true_and]
          congr 1
          omega

/-! ### Halves (R13) -/

@[simp] theorem lh_xwd (l r : Half) : lh (xwd l r) = l := by
  apply BitVec.eq_of_getLsbD_eq
  intro i hi
  simp only [lh, xwd, BitVec.getLsbD_extractLsb', hi, decide_true, Bool.true_and, BitVec.getLsbD_append]
  rw [if_neg (by omega)]
  congr 1
  omega

@[simp] theorem rh_xwd (l r : Half) : rh (xwd l r) = r := by
  apply BitVec.eq_of_getLsbD_eq
  intro i hi
  simp only [rh, xwd, BitVec.getLsbD_extractLsb', hi, decide_true, Bool.true_and, BitVec.getLsbD_append]
  rw [if_pos (by omega)]
  congr 1
  omega

@[simp] theorem xwd_halves (w : Word) : xwd (lh w) (rh w) = w := by
  apply BitVec.eq_of_getLsbD_eq
  intro i hi
  simp only [lh, rh, xwd, BitVec.getLsbD_append, BitVec.getLsbD_extractLsb']
  split
  · simp_all
  · simp only [show i - 18 < 18 by omega, decide_true, Bool.true_and]
    congr 1
    omega

/-! ### Decoding packed words -/

theorem decode_pack (c : Config) (op : BitVec 9) (ac : AcNum) (m : EaField) :
    decode c (pack op ac m) = (opcodeTable c).getD op.toNat (.muuo op) ac m := by
  simp [decode]

theorem decodeWords_single (c : Config) (w : Word) : decodeWords c [w.toNat] = .ok (decode c w) := by
  simp [decodeWords, Nat.not_le.mpr w.isLt, BitVec.ofNat_toNat]

end Sys2Proof
end

