-- ==== Sys2Proof/Laws/Run.lean ====
section
/-! SUPPORT. Running an operation of the abort monad: one equation per combinator and per primitive. -/

namespace Sys2Proof.Machine

open Sys2Proof

@[simp] theorem run_pure {α : Type} (a : α) (s : State) : (pure a : M α) s = .ok a s := rfl

@[simp] theorem run_bind {α β : Type} (x : M α) (f : α → M β) (s : State) :
    (x >>= f) s = match x s with
      | .ok a t => f a t
      | .error e t => .error e t := by
  simp only [Bind.bind, EStateM.bind]
  cases x s <;> rfl

@[simp] theorem run_getS (s : State) : getS s = .ok s s := rfl

@[simp] theorem run_modS (f : State → State) (s : State) : modS f s = .ok () (f s) := rfl

@[simp] theorem run_raise {α : Type} (a : Abort) (s : State) : (raise a : M α) s = .error a s := rfl

@[simp] theorem run_getAc (n : AcNum) (s : State) : getAc n s = .ok (s.ac n) s := rfl

@[simp] theorem run_putAc (n : AcNum) (v : Word) (s : State) : putAc n v s = .ok () (s.setAc n v) := rfl

@[simp] theorem run_setFlags (f : Flags) (s : State) : setFlags f s = .ok () (s.orFlags f) := rfl

@[simp] theorem run_jump (v : VAddr) (s : State) : jump v s = .ok () (s.setPc v) := rfl

@[simp] theorem run_skipNext (s : State) : skipNext s = .ok () (s.setPc (s.pc + 1)) := rfl

@[simp] theorem run_onlyIf (c : Bool) (act : M Unit) (s : State) :
    onlyIf c act s = if c then act s else .ok () s := by
  cases c <;> rfl

@[simp] theorem run_skipIf (c : Bool) (s : State) :
    skipIf c s = .ok () (if c then s.setPc (s.pc + 1) else s) := by
  cases c <;> rfl

@[simp] theorem run_ite {α : Type} (c : Prop) [Decidable c] (x y : M α) (s : State) :
    (if c then x else y) s = if c then x s else y s := by
  split <;> rfl

@[simp] theorem run_setPagerWord (w : Word) (s : State) : setPagerWord w s = .ok () { s with pagerWord := w } := rfl

@[simp] theorem run_notePfw (ev : PfwEvent) (s : State) :
    notePfw ev s = .ok () { s with pagerWord := s.pfwWord ev } := rfl

@[simp] theorem run_failWith {α : Type} (ev : PfwEvent) (s : State) :
    (failWith ev : M α) s = .error .pageFail { s with pagerWord := s.pfwWord ev } := rfl

@[simp] theorem run_leaveWord (p : Pending) (s : State) : leaveWord p s = .ok () { s with pending := some p } := rfl

@[simp] theorem run_setPending (w : Word) (bits : BitVec 4) (s : State) :
    setPending w bits s = .ok () { s with pending := some ⟨w, bits, false⟩ } := rfl

@[simp] theorem run_raisePageFail {α : Type} (w : Word) (s : State) :
    (raisePageFail w : M α) s = .error .pageFail { s with pagerWord := w } := rfl

@[simp] theorem run_stopIlleg (start s : State) : stopIlleg start s = .error (.stop .illeg) start := rfl

@[simp] theorem run_putAc2 (n : AcNum) (hi lo : Word) (s : State) :
    putAc2 n hi lo s = .ok () ((s.setAc n hi).setAc (n + 1) lo) := rfl

@[simp] theorem run_dismiss (s : State) : dismiss s = .ok () (dismissSt s) := rfl

@[simp] theorem run_restoreFlpc (f : Half) (v : VAddr) (s : State) :
    restoreFlpc f v s = .ok () ((setNewflags f true s).setPc v) := rfl

/-- Passing a checkpoint where nothing was to come changes nothing. -/
theorem passCheckpoint_quiet {s : State} (h : s.env.arrivals = []) : s.passCheckpoint = s := by
  have key (e : Environment) (he : e.arrivals = []) : { e with arrivals := e.arrivals.drop 1 } = e := by
    cases e
    simp_all
  rw [State.passCheckpoint, key s.env h]

/-- A checkpoint with no interrupt pending and none to come. -/
theorem reenterIfPending_quiet {s : State} (h : s.piPending = 0) (h2 : s.env.arrivals = []) :
    reenterIfPending s = .ok () s := by
  have : s.arrival = false := by simp [State.arrival, h2]
  simp [reenterIfPending, h, this, passCheckpoint_quiet h2]

/-- A checkpoint with an interrupt pending, or one that comes there, outside the interrupt sequence. -/
theorem reenterIfPending_due {s : State} (hc : s.piCycle = false) (h : s.piPending ≠ 0 ∨ s.arrival = true) :
    reenterIfPending s = .error .reenter s.passCheckpoint := by
  rw [reenterIfPending, hc, if_neg Bool.false_ne_true, if_pos h]

/-- A checkpoint in the interrupt sequence (R1202). -/
theorem reenterIfPending_cycle {s : State} (hc : s.piCycle = true) : reenterIfPending s = .ok () s := by
  rw [reenterIfPending, hc, if_pos rfl]

@[simp] theorem run_countIndirect (s : State) :
    countIndirect s = .ok () { s with indCount := s.indCount + 1 } := rfl

/-- The checks of an indirect step within the limit count it, and from the second on are a checkpoint (R95, R312). -/
theorem indirectChecks_within {n : Nat} {s : State} (h : s.cfg.indMax = 0 ∨ n ≤ s.cfg.indMax) :
    indirectChecks n s = (if 2 ≤ n then reenterIfPending else pure ()) { s with indCount := s.indCount + 1 } := by
  have : ¬ (s.cfg.indMax ≠ 0 ∧ s.cfg.indMax < n) := by omega
  simp only [indirectChecks, run_bind, run_countIndirect, indLimit, this, if_false]

/-- The indirect step beyond the limit is a stop (R312). -/
theorem indirectChecks_beyond {n : Nat} {s : State} (h : s.cfg.indMax ≠ 0) (h2 : s.cfg.indMax < n) :
    indirectChecks n s = .error (.stop .ind) { s with indCount := s.indCount + 1 } := by
  simp only [indirectChecks, run_bind, run_countIndirect, indLimit, h, h2, ne_eq, not_false_eq_true, and_self, if_true]

/-- A page fail of an instruction whose page fail is not suppressed enters the page-fail sequence (R1203). -/
theorem abortOutcome_pageFail {s t : State} (hi : s.inhibit = false) (h : pageFailSeq s = .ok () t) :
    abortOutcome .pageFail s = .next { t with report := .pageFail } := by
  simp [abortOutcome, hi, h]

/-- A meaning that completes answers its state. -/
theorem finish_of_ok {m : M Unit} {s t : State} (h : m s = .ok () t) : finish m s = .next t := by
  simp [finish, h]

/-- A meaning that aborts answers what the loop makes of the abort. -/
theorem finish_of_error {m : M Unit} {s t : State} {a : Abort} (h : m s = .error a t) :
    finish m s = abortOutcome a t := by
  simp [finish, h]

/-- What a sequence of two operations can do. -/
theorem bind_ok {α β : Type} {x : M α} {f : α → M β} {s u : State} {b : β}
    (h : (x >>= f) s = .ok b u) : ∃ a t, x s = .ok a t ∧ f a t = .ok b u := by
  rw [run_bind] at h
  split at h
  · exact ⟨_, _, by assumption, h⟩
  · cases h

end Sys2Proof.Machine
end

