-- ==== Sys2Proof/Laws/Memory.lean ====
section
/-! SUPPORT. The sparse tables: read after write, and the canonical form every memory operation keeps (R99). -/

namespace Sys2Proof.Machine

open Sys2Proof

variable {α : Type}

/-! ### Read after write -/

/-- A read after a write of a table. -/
theorem tblGet_tblSet (t : List (Nat × α)) (a b : Nat) (v : α) :
    tblGet (tblSet t a v) b = if b = a then some v else tblGet t b := by
  induction t with
  | nil => simp [tblSet, tblGet]
  | cons p t ih =>
    obtain ⟨k, w⟩ := p
    simp only [tblSet]
    split
    · simp [tblGet]
    · split
      · subst_vars
        by_cases hb : b = k <;> simp [tblGet, hb]
      · by_cases hb : b = k
        · subst hb
          simp [tblGet, Ne.symm ‹_›]
        · simp [tblGet, hb, ih]

/-- A read after a removal. -/
theorem tblGet_tblDrop (t : List (Nat × α)) (a b : Nat) :
    tblGet (tblDrop t a) b = if b = a then none else tblGet t b := by
  induction t with
  | nil => simp [tblDrop, tblGet]
  | cons p t ih =>
    obtain ⟨k, w⟩ := p
    simp only [tblDrop]
    split
    · subst_vars
      by_cases hb : b = k
      · subst hb
        simpa using ih
      · simp [tblGet, hb, ih]
    · by_cases hb : b = k
      · subst hb
        simp [tblGet, Ne.symm ‹_›]
      · simp [tblGet, hb, ih]

/-! ### The canonical form -/

theorem risingFrom_mono {b c : Nat} (h : b ≤ c) : ∀ t : List (Nat × α), risingFrom c t = true → risingFrom b t = true
  | [], _ => rfl
  | (k, _) :: t, h' => by
    simp only [risingFrom, Bool.and_eq_true, decide_eq_true_eq] at h' ⊢
    exact ⟨h.trans h'.1, h'.2⟩

theorem risingFrom_tblSet (t : List (Nat × α)) (b a : Nat) (v : α) (h : risingFrom b t = true) (hb : b ≤ a) :
    risingFrom b (tblSet t a v) = true := by
  induction t generalizing b with
  | nil => simp [tblSet, risingFrom, hb]
  | cons p t ih =>
    obtain ⟨k, w⟩ := p
    simp only [risingFrom, Bool.and_eq_true, decide_eq_true_eq] at h
    simp only [tblSet]
    split
    · simp only [risingFrom, Bool.and_eq_true, decide_eq_true_eq]
      exact ⟨hb, by omega, h.2⟩
    · split
      · subst_vars
        simpa [risingFrom] using h
      · simp only [risingFrom, Bool.and_eq_true, decide_eq_true_eq]
        exact ⟨h.1, ih _ h.2 (by omega)⟩

theorem risingFrom_tblDrop (t : List (Nat × α)) (b a : Nat) (h : risingFrom b t = true) :
    risingFrom b (tblDrop t a) = true := by
  induction t generalizing b with
  | nil => rfl
  | cons p t ih =>
    obtain ⟨k, w⟩ := p
    simp only [risingFrom, Bool.and_eq_true, decide_eq_true_eq] at h
    simp only [tblDrop]
    split
    · exact risingFrom_mono (by omega) _ (ih _ h.2)
    · simp only [risingFrom, Bool.and_eq_true, decide_eq_true_eq]
      exact ⟨h.1, ih _ h.2⟩

theorem keysBelow_tblSet (t : List (Nat × α)) (b a : Nat) (v : α) (h : keysBelow b t = true) (hb : a < b) :
    keysBelow b (tblSet t a v) = true := by
  induction t with
  | nil => simp [tblSet, keysBelow, hb]
  | cons p t ih =>
    obtain ⟨k, w⟩ := p
    have h' := h
    simp only [keysBelow, Bool.and_eq_true, decide_eq_true_eq] at h'
    simp only [tblSet]
    split
    · simp [keysBelow, hb, h'.1, h'.2]
    · split
      · simp [keysBelow, hb, h'.2]
      · simp [keysBelow, h'.1, ih h'.2]

theorem keysBelow_tblDrop (t : List (Nat × α)) (b a : Nat) (h : keysBelow b t = true) :
    keysBelow b (tblDrop t a) = true := by
  induction t with
  | nil => rfl
  | cons p t ih =>
    obtain ⟨k, w⟩ := p
    simp only [keysBelow, Bool.and_eq_true, decide_eq_true_eq] at h
    simp only [tblDrop]
    split
    · exact ih h.2
    · simp [keysBelow, h.1, ih h.2]

theorem tblGet_none_of_rising : ∀ (t : List (Nat × α)) (b a : Nat), risingFrom b t = true → a < b → tblGet t a = none
  | [], _, _, _, _ => rfl
  | (k, _) :: t, b, a, h, hlt => by
    simp only [risingFrom, Bool.and_eq_true, decide_eq_true_eq] at h
    have hk : a ≠ k := by omega
    simp only [tblGet, hk, if_false]
    exact tblGet_none_of_rising t _ a h.2 (by omega)

/-- Two tables in canonical form that read alike are equal. -/
theorem tbl_ext : ∀ (t u : List (Nat × α)) (b : Nat), risingFrom b t = true → risingFrom b u = true →
    (∀ a, tblGet t a = tblGet u a) → t = u
  | [], [], _, _, _, _ => rfl
  | [], (k, w) :: u, _, _, _, h => by simpa [tblGet] using h k
  | (k, w) :: t, [], _, _, _, h => by simpa [tblGet] using h k
  | (k, w) :: t, (l, x) :: u, b, ht, hu, h => by
    simp only [risingFrom, Bool.and_eq_true, decide_eq_true_eq] at ht hu
    have hkl : k = l := by
      rcases Nat.lt_trichotomy k l with hlt | heq | hgt
      · have := h k
        rw [tblGet_none_of_rising ((l, x) :: u) l k (by simp [risingFrom, hu.2]) hlt] at this
        simp [tblGet] at this
      · exact heq
      · have := h l
        rw [tblGet_none_of_rising ((k, w) :: t) k l (by simp [risingFrom, ht.2]) hgt] at this
        simp [tblGet] at this
    subst hkl
    have hw : w = x := by simpa [tblGet] using h k
    subst hw
    have : t = u := tbl_ext t u (k + 1) ht.2 hu.2 fun a => by
      by_cases ha : a = k
      · subst ha
        rw [tblGet_none_of_rising t _ a ht.2 (by omega), tblGet_none_of_rising u _ a hu.2 (by omega)]
      · simpa [tblGet, ha] using h a
    rw [this]

/-! ### The operations on memory -/

/-- Memory in canonical form stays so when an existing word is written. -/
theorem wf_tblSet {n : Nat} {m : List (Nat × Word)} {pa : Nat} (v : Word) (h : Memory.wf n m = true) (hpa : pa < n) :
    Memory.wf n (tblSet m pa v) = true := by
  simp only [Memory.wf, Bool.and_eq_true] at h ⊢
  exact ⟨risingFrom_tblSet _ _ _ _ h.1 (Nat.zero_le _), keysBelow_tblSet _ _ _ _ h.2 hpa⟩

theorem reset_mem_wf : Memory.wf State.reset.cfg.memSize State.reset.mem = true := by decide

/-- What a physical read can do (R166, R169). -/
theorem physRead_cases (pa : Nat) (s : State) :
    (pa < s.cfg.memSize ∧ ∃ w, tblGet s.mem pa = some w ∧ physRead pa s = .ok (some w) s) ∨
    (pa < s.cfg.memSize ∧ tblGet s.mem pa = none ∧ physRead pa s = .error (.fault (.unwritten pa)) s) ∨
    (s.cfg.memSize ≤ pa ∧
      physRead pa s = .ok (if s.base.ebr.pgon then none else some 0) s.signalNxm) := by
  unfold physRead
  by_cases h : pa < s.cfg.memSize
  · cases tblGet s.mem pa <;> simp [h]
  · simp [h]
    omega

/-- What a physical write can do (R166, R169). -/
theorem physWrite_cases (pa : Nat) (v : Word) (s : State) :
    (pa < s.cfg.memSize ∧ physWrite pa v s = .ok true (s.setMem pa v)) ∨
    (s.cfg.memSize ≤ pa ∧ physWrite pa v s = .ok (!s.base.ebr.pgon) s.signalNxm) := by
  unfold physWrite
  by_cases h : pa < s.cfg.memSize
  · simp [h]
  · simp [h]
    omega

/-- A physical write keeps the canonical form of memory. -/
theorem physWrite_wf {pa : Nat} {v : Word} {s t : State} {b : Bool} (h : physWrite pa v s = .ok b t)
    (hw : Memory.wf s.cfg.memSize s.mem = true) : Memory.wf t.cfg.memSize t.mem = true := by
  rcases physWrite_cases pa v s with ⟨hpa, he⟩ | ⟨-, he⟩ <;> rw [he] at h <;> cases h
  · exact wf_tblSet v hw hpa
  · exact hw

/-- A physical read leaves memory as it is. -/
theorem physRead_mem {pa : Nat} {s t : State} {o : Option Word} (h : physRead pa s = .ok o t) : t.mem = s.mem := by
  rcases physRead_cases pa s with ⟨-, w, -, he⟩ | ⟨-, -, he⟩ | ⟨-, he⟩ <;> rw [he] at h <;> cases h <;> rfl

/-- A write of memory by the host or a device keeps the canonical form. -/
theorem poke_wf {s : State} (pa : Nat) (v : Word) (hw : Memory.wf s.cfg.memSize s.mem = true) :
    Memory.wf (s.poke pa v).cfg.memSize (s.poke pa v).mem = true := by
  unfold State.poke
  split
  · exact wf_tblSet v hw ‹_›
  · exact hw

/-- A later reset keeps the canonical form. -/
theorem laterReset_wf {s : State} (hw : Memory.wf s.cfg.memSize s.mem = true) :
    Memory.wf s.laterReset.cfg.memSize s.laterReset.mem = true := hw

end Sys2Proof.Machine
end

