-- ==== Sys2Proof/Laws/State.lean ====
section
/-! SUPPORT. One lemma per field per update of the state, so that no proof unfolds a record update. -/

namespace Sys2Proof.Machine

open Sys2Proof

/-! ### `setPc` -/

@[simp] theorem setPc_cfg (v : VAddr) (s : State) :
    (s.setPc v).cfg = s.cfg := rfl

@[simp] theorem setPc_acb (v : VAddr) (s : State) :
    (s.setPc v).acb = s.acb := rfl

@[simp] theorem setPc_pc (v : VAddr) (s : State) :
    (s.setPc v).pc = v := rfl

@[simp] theorem setPc_ipc (v : VAddr) (s : State) :
    (s.setPc v).ipc = s.ipc := rfl

@[simp] theorem setPc_flags (v : VAddr) (s : State) :
    (s.setPc v).flags = s.flags := rfl

@[simp] theorem setPc_its1pr (v : VAddr) (s : State) :
    (s.setPc v).its1pr = s.its1pr := rfl

@[simp] theorem setPc_its2pr (v : VAddr) (s : State) :
    (s.setPc v).its2pr = s.its2pr := rfl

@[simp] theorem setPc_base (v : VAddr) (s : State) :
    (s.setPc v).base = s.base := rfl

@[simp] theorem setPc_apr (v : VAddr) (s : State) :
    (s.setPc v).apr = s.apr := rfl

@[simp] theorem setPc_timeBase (v : VAddr) (s : State) :
    (s.setPc v).timeBase = s.timeBase := rfl

@[simp] theorem setPc_interval (v : VAddr) (s : State) :
    (s.setPc v).interval = s.interval := rfl

@[simp] theorem setPc_pi (v : VAddr) (s : State) :
    (s.setPc v).pi = s.pi := rfl

@[simp] theorem setPc_cache (v : VAddr) (s : State) :
    (s.setPc v).cache = s.cache := rfl

@[simp] theorem setPc_pagerWord (v : VAddr) (s : State) :
    (s.setPc v).pagerWord = s.pagerWord := rfl

@[simp] theorem setPc_piCycle (v : VAddr) (s : State) :
    (s.setPc v).piCycle = s.piCycle := rfl

@[simp] theorem setPc_indCount (v : VAddr) (s : State) :
    (s.setPc v).indCount = s.indCount := rfl

@[simp] theorem setPc_xctCount (v : VAddr) (s : State) :
    (s.setPc v).xctCount = s.xctCount := rfl

@[simp] theorem setPc_forcedExec (v : VAddr) (s : State) :
    (s.setPc v).forcedExec = s.forcedExec := rfl

@[simp] theorem setPc_mem (v : VAddr) (s : State) :
    (s.setPc v).mem = s.mem := rfl

@[simp] theorem setPc_breakpoints (v : VAddr) (s : State) :
    (s.setPc v).breakpoints = s.breakpoints := rfl

@[simp] theorem setPc_bkptSkip (v : VAddr) (s : State) :
    (s.setPc v).bkptSkip = s.bkptSkip := rfl

@[simp] theorem setPc_report (v : VAddr) (s : State) :
    (s.setPc v).report = s.report := rfl

@[simp] theorem setPc_pxct (v : VAddr) (s : State) :
    (s.setPc v).pxct = s.pxct := rfl

@[simp] theorem setPc_inhibit (v : VAddr) (s : State) :
    (s.setPc v).inhibit = s.inhibit := rfl

@[simp] theorem setPc_pending (v : VAddr) (s : State) :
    (s.setPc v).pending = s.pending := rfl

@[simp] theorem setPc_phase (v : VAddr) (s : State) :
    (s.setPc v).phase = s.phase := rfl

@[simp] theorem setPc_env (v : VAddr) (s : State) :
    (s.setPc v).env = s.env := rfl

/-! ### `setAcOf` -/

@[simp] theorem setAcOf_cfg (b : BitVec 3) (n : AcNum) (v : Word) (s : State) :
    (s.setAcOf b n v).cfg = s.cfg := rfl

@[simp] theorem setAcOf_pc (b : BitVec 3) (n : AcNum) (v : Word) (s : State) :
    (s.setAcOf b n v).pc = s.pc := rfl

@[simp] theorem setAcOf_ipc (b : BitVec 3) (n : AcNum) (v : Word) (s : State) :
    (s.setAcOf b n v).ipc = s.ipc := rfl

@[simp] theorem setAcOf_flags (b : BitVec 3) (n : AcNum) (v : Word) (s : State) :
    (s.setAcOf b n v).flags = s.flags := rfl

@[simp] theorem setAcOf_its1pr (b : BitVec 3) (n : AcNum) (v : Word) (s : State) :
    (s.setAcOf b n v).its1pr = s.its1pr := rfl

@[simp] theorem setAcOf_its2pr (b : BitVec 3) (n : AcNum) (v : Word) (s : State) :
    (s.setAcOf b n v).its2pr = s.its2pr := rfl

@[simp] theorem setAcOf_base (b : BitVec 3) (n : AcNum) (v : Word) (s : State) :
    (s.setAcOf b n v).base = s.base := rfl

@[simp] theorem setAcOf_apr (b : BitVec 3) (n : AcNum) (v : Word) (s : State) :
    (s.setAcOf b n v).apr = s.apr := rfl

@[simp] theorem setAcOf_timeBase (b : BitVec 3) (n : AcNum) (v : Word) (s : State) :
    (s.setAcOf b n v).timeBase = s.timeBase := rfl

@[simp] theorem setAcOf_interval (b : BitVec 3) (n : AcNum) (v : Word) (s : State) :
    (s.setAcOf b n v).interval = s.interval := rfl

@[simp] theorem setAcOf_pi (b : BitVec 3) (n : AcNum) (v : Word) (s : State) :
    (s.setAcOf b n v).pi = s.pi := rfl

@[simp] theorem setAcOf_cache (b : BitVec 3) (n : AcNum) (v : Word) (s : State) :
    (s.setAcOf b n v).cache = s.cache := rfl

@[simp] theorem setAcOf_pagerWord (b : BitVec 3) (n : AcNum) (v : Word) (s : State) :
    (s.setAcOf b n v).pagerWord = s.pagerWord := rfl

@[simp] theorem setAcOf_piCycle (b : BitVec 3) (n : AcNum) (v : Word) (s : State) :
    (s.setAcOf b n v).piCycle = s.piCycle := rfl

@[simp] theorem setAcOf_indCount (b : BitVec 3) (n : AcNum) (v : Word) (s : State) :
    (s.setAcOf b n v).indCount = s.indCount := rfl

@[simp] theorem setAcOf_xctCount (b : BitVec 3) (n : AcNum) (v : Word) (s : State) :
    (s.setAcOf b n v).xctCount = s.xctCount := rfl

@[simp] theorem setAcOf_forcedExec (b : BitVec 3) (n : AcNum) (v : Word) (s : State) :
    (s.setAcOf b n v).forcedExec = s.forcedExec := rfl

@[simp] theorem setAcOf_mem (b : BitVec 3) (n : AcNum) (v : Word) (s : State) :
    (s.setAcOf b n v).mem = s.mem := rfl

@[simp] theorem setAcOf_breakpoints (b : BitVec 3) (n : AcNum) (v : Word) (s : State) :
    (s.setAcOf b n v).breakpoints = s.breakpoints := rfl

@[simp] theorem setAcOf_bkptSkip (b : BitVec 3) (n : AcNum) (v : Word) (s : State) :
    (s.setAcOf b n v).bkptSkip = s.bkptSkip := rfl

@[simp] theorem setAcOf_report (b : BitVec 3) (n : AcNum) (v : Word) (s : State) :
    (s.setAcOf b n v).report = s.report := rfl

@[simp] theorem setAcOf_pxct (b : BitVec 3) (n : AcNum) (v : Word) (s : State) :
    (s.setAcOf b n v).pxct = s.pxct := rfl

@[simp] theorem setAcOf_inhibit (b : BitVec 3) (n : AcNum) (v : Word) (s : State) :
    (s.setAcOf b n v).inhibit = s.inhibit := rfl

@[simp] theorem setAcOf_pending (b : BitVec 3) (n : AcNum) (v : Word) (s : State) :
    (s.setAcOf b n v).pending = s.pending := rfl

@[simp] theorem setAcOf_phase (b : BitVec 3) (n : AcNum) (v : Word) (s : State) :
    (s.setAcOf b n v).phase = s.phase := rfl

@[simp] theorem setAcOf_env (b : BitVec 3) (n : AcNum) (v : Word) (s : State) :
    (s.setAcOf b n v).env = s.env := rfl

/-! ### `setAc` -/

@[simp] theorem setAc_cfg (n : AcNum) (v : Word) (s : State) :
    (s.setAc n v).cfg = s.cfg := rfl

@[simp] theorem setAc_pc (n : AcNum) (v : Word) (s : State) :
    (s.setAc n v).pc = s.pc := rfl

@[simp] theorem setAc_ipc (n : AcNum) (v : Word) (s : State) :
    (s.setAc n v).ipc = s.ipc := rfl

@[simp] theorem setAc_flags (n : AcNum) (v : Word) (s : State) :
    (s.setAc n v).flags = s.flags := rfl

@[simp] theorem setAc_its1pr (n : AcNum) (v : Word) (s : State) :
    (s.setAc n v).its1pr = s.its1pr := rfl

@[simp] theorem setAc_its2pr (n : AcNum) (v : Word) (s : State) :
    (s.setAc n v).its2pr = s.its2pr := rfl

@[simp] theorem setAc_base (n : AcNum) (v : Word) (s : State) :
    (s.setAc n v).base = s.base := rfl

@[simp] theorem setAc_apr (n : AcNum) (v : Word) (s : State) :
    (s.setAc n v).apr = s.apr := rfl

@[simp] theorem setAc_timeBase (n : AcNum) (v : Word) (s : State) :
    (s.setAc n v).timeBase = s.timeBase := rfl

@[simp] theorem setAc_interval (n : AcNum) (v : Word) (s : State) :
    (s.setAc n v).interval = s.interval := rfl

@[simp] theorem setAc_pi (n : AcNum) (v : Word) (s : State) :
    (s.setAc n v).pi = s.pi := rfl

@[simp] theorem setAc_cache (n : AcNum) (v : Word) (s : State) :
    (s.setAc n v).cache = s.cache := rfl

@[simp] theorem setAc_pagerWord (n : AcNum) (v : Word) (s : State) :
    (s.setAc n v).pagerWord = s.pagerWord := rfl

@[simp] theorem setAc_piCycle (n : AcNum) (v : Word) (s : State) :
    (s.setAc n v).piCycle = s.piCycle := rfl

@[simp] theorem setAc_indCount (n : AcNum) (v : Word) (s : State) :
    (s.setAc n v).indCount = s.indCount := rfl

@[simp] theorem setAc_xctCount (n : AcNum) (v : Word) (s : State) :
    (s.setAc n v).xctCount = s.xctCount := rfl

@[simp] theorem setAc_forcedExec (n : AcNum) (v : Word) (s : State) :
    (s.setAc n v).forcedExec = s.forcedExec := rfl

@[simp] theorem setAc_mem (n : AcNum) (v : Word) (s : State) :
    (s.setAc n v).mem = s.mem := rfl

@[simp] theorem setAc_breakpoints (n : AcNum) (v : Word) (s : State) :
    (s.setAc n v).breakpoints = s.breakpoints := rfl

@[simp] theorem setAc_bkptSkip (n : AcNum) (v : Word) (s : State) :
    (s.setAc n v).bkptSkip = s.bkptSkip := rfl

@[simp] theorem setAc_report (n : AcNum) (v : Word) (s : State) :
    (s.setAc n v).report = s.report := rfl

@[simp] theorem setAc_pxct (n : AcNum) (v : Word) (s : State) :
    (s.setAc n v).pxct = s.pxct := rfl

@[simp] theorem setAc_inhibit (n : AcNum) (v : Word) (s : State) :
    (s.setAc n v).inhibit = s.inhibit := rfl

@[simp] theorem setAc_pending (n : AcNum) (v : Word) (s : State) :
    (s.setAc n v).pending = s.pending := rfl

@[simp] theorem setAc_phase (n : AcNum) (v : Word) (s : State) :
    (s.setAc n v).phase = s.phase := rfl

@[simp] theorem setAc_env (n : AcNum) (v : Word) (s : State) :
    (s.setAc n v).env = s.env := rfl

/-! ### `orFlags` -/

@[simp] theorem orFlags_cfg (f : Flags) (s : State) :
    (s.orFlags f).cfg = s.cfg := rfl

@[simp] theorem orFlags_acb (f : Flags) (s : State) :
    (s.orFlags f).acb = s.acb := rfl

@[simp] theorem orFlags_pc (f : Flags) (s : State) :
    (s.orFlags f).pc = s.pc := rfl

@[simp] theorem orFlags_ipc (f : Flags) (s : State) :
    (s.orFlags f).ipc = s.ipc := rfl

@[simp] theorem orFlags_flags (f : Flags) (s : State) :
    (s.orFlags f).flags = s.flags.union f := rfl

@[simp] theorem orFlags_its1pr (f : Flags) (s : State) :
    (s.orFlags f).its1pr = s.its1pr := rfl

@[simp] theorem orFlags_its2pr (f : Flags) (s : State) :
    (s.orFlags f).its2pr = s.its2pr := rfl

@[simp] theorem orFlags_base (f : Flags) (s : State) :
    (s.orFlags f).base = s.base := rfl

@[simp] theorem orFlags_apr (f : Flags) (s : State) :
    (s.orFlags f).apr = s.apr := rfl

@[simp] theorem orFlags_timeBase (f : Flags) (s : State) :
    (s.orFlags f).timeBase = s.timeBase := rfl

@[simp] theorem orFlags_interval (f : Flags) (s : State) :
    (s.orFlags f).interval = s.interval := rfl

@[simp] theorem orFlags_pi (f : Flags) (s : State) :
    (s.orFlags f).pi = s.pi := rfl

@[simp] theorem orFlags_cache (f : Flags) (s : State) :
    (s.orFlags f).cache = s.cache := rfl

@[simp] theorem orFlags_pagerWord (f : Flags) (s : State) :
    (s.orFlags f).pagerWord = s.pagerWord := rfl

@[simp] theorem orFlags_piCycle (f : Flags) (s : State) :
    (s.orFlags f).piCycle = s.piCycle := rfl

@[simp] theorem orFlags_indCount (f : Flags) (s : State) :
    (s.orFlags f).indCount = s.indCount := rfl

@[simp] theorem orFlags_xctCount (f : Flags) (s : State) :
    (s.orFlags f).xctCount = s.xctCount := rfl

@[simp] theorem orFlags_forcedExec (f : Flags) (s : State) :
    (s.orFlags f).forcedExec = s.forcedExec := rfl

@[simp] theorem orFlags_mem (f : Flags) (s : State) :
    (s.orFlags f).mem = s.mem := rfl

@[simp] theorem orFlags_breakpoints (f : Flags) (s : State) :
    (s.orFlags f).breakpoints = s.breakpoints := rfl

@[simp] theorem orFlags_bkptSkip (f : Flags) (s : State) :
    (s.orFlags f).bkptSkip = s.bkptSkip := rfl

@[simp] theorem orFlags_report (f : Flags) (s : State) :
    (s.orFlags f).report = s.report := rfl

@[simp] theorem orFlags_pxct (f : Flags) (s : State) :
    (s.orFlags f).pxct = s.pxct := rfl

@[simp] theorem orFlags_inhibit (f : Flags) (s : State) :
    (s.orFlags f).inhibit = s.inhibit := rfl

@[simp] theorem orFlags_pending (f : Flags) (s : State) :
    (s.orFlags f).pending = s.pending := rfl

@[simp] theorem orFlags_phase (f : Flags) (s : State) :
    (s.orFlags f).phase = s.phase := rfl

@[simp] theorem orFlags_env (f : Flags) (s : State) :
    (s.orFlags f).env = s.env := rfl

/-! ### `setMem` -/

@[simp] theorem setMem_cfg (pa : Nat) (v : Word) (s : State) :
    (s.setMem pa v).cfg = s.cfg := rfl

@[simp] theorem setMem_acb (pa : Nat) (v : Word) (s : State) :
    (s.setMem pa v).acb = s.acb := rfl

@[simp] theorem setMem_pc (pa : Nat) (v : Word) (s : State) :
    (s.setMem pa v).pc = s.pc := rfl

@[simp] theorem setMem_ipc (pa : Nat) (v : Word) (s : State) :
    (s.setMem pa v).ipc = s.ipc := rfl

@[simp] theorem setMem_flags (pa : Nat) (v : Word) (s : State) :
    (s.setMem pa v).flags = s.flags := rfl

@[simp] theorem setMem_its1pr (pa : Nat) (v : Word) (s : State) :
    (s.setMem pa v).its1pr = s.its1pr := rfl

@[simp] theorem setMem_its2pr (pa : Nat) (v : Word) (s : State) :
    (s.setMem pa v).its2pr = s.its2pr := rfl

@[simp] theorem setMem_base (pa : Nat) (v : Word) (s : State) :
    (s.setMem pa v).base = s.base := rfl

@[simp] theorem setMem_apr (pa : Nat) (v : Word) (s : State) :
    (s.setMem pa v).apr = s.apr := rfl

@[simp] theorem setMem_timeBase (pa : Nat) (v : Word) (s : State) :
    (s.setMem pa v).timeBase = s.timeBase := rfl

@[simp] theorem setMem_interval (pa : Nat) (v : Word) (s : State) :
    (s.setMem pa v).interval = s.interval := rfl

@[simp] theorem setMem_pi (pa : Nat) (v : Word) (s : State) :
    (s.setMem pa v).pi = s.pi := rfl

@[simp] theorem setMem_cache (pa : Nat) (v : Word) (s : State) :
    (s.setMem pa v).cache = s.cache := rfl

@[simp] theorem setMem_pagerWord (pa : Nat) (v : Word) (s : State) :
    (s.setMem pa v).pagerWord = s.pagerWord := rfl

@[simp] theorem setMem_piCycle (pa : Nat) (v : Word) (s : State) :
    (s.setMem pa v).piCycle = s.piCycle := rfl

@[simp] theorem setMem_indCount (pa : Nat) (v : Word) (s : State) :
    (s.setMem pa v).indCount = s.indCount := rfl

@[simp] theorem setMem_xctCount (pa : Nat) (v : Word) (s : State) :
    (s.setMem pa v).xctCount = s.xctCount := rfl

@[simp] theorem setMem_forcedExec (pa : Nat) (v : Word) (s : State) :
    (s.setMem pa v).forcedExec = s.forcedExec := rfl

@[simp] theorem setMem_mem (pa : Nat) (v : Word) (s : State) :
    (s.setMem pa v).mem = tblSet s.mem pa v := rfl

@[simp] theorem setMem_breakpoints (pa : Nat) (v : Word) (s : State) :
    (s.setMem pa v).breakpoints = s.breakpoints := rfl

@[simp] theorem setMem_bkptSkip (pa : Nat) (v : Word) (s : State) :
    (s.setMem pa v).bkptSkip = s.bkptSkip := rfl

@[simp] theorem setMem_report (pa : Nat) (v : Word) (s : State) :
    (s.setMem pa v).report = s.report := rfl

@[simp] theorem setMem_pxct (pa : Nat) (v : Word) (s : State) :
    (s.setMem pa v).pxct = s.pxct := rfl

@[simp] theorem setMem_inhibit (pa : Nat) (v : Word) (s : State) :
    (s.setMem pa v).inhibit = s.inhibit := rfl

@[simp] theorem setMem_pending (pa : Nat) (v : Word) (s : State) :
    (s.setMem pa v).pending = s.pending := rfl

@[simp] theorem setMem_phase (pa : Nat) (v : Word) (s : State) :
    (s.setMem pa v).phase = s.phase := rfl

@[simp] theorem setMem_env (pa : Nat) (v : Word) (s : State) :
    (s.setMem pa v).env = s.env := rfl

/-! ### `signalNxm` -/

@[simp] theorem signalNxm_cfg (s : State) :
    (s.signalNxm).cfg = s.cfg := rfl

@[simp] theorem signalNxm_acb (s : State) :
    (s.signalNxm).acb = s.acb := rfl

@[simp] theorem signalNxm_pc (s : State) :
    (s.signalNxm).pc = s.pc := rfl

@[simp] theorem signalNxm_ipc (s : State) :
    (s.signalNxm).ipc = s.ipc := rfl

@[simp] theorem signalNxm_flags (s : State) :
    (s.signalNxm).flags = s.flags := rfl

@[simp] theorem signalNxm_its1pr (s : State) :
    (s.signalNxm).its1pr = s.its1pr := rfl

@[simp] theorem signalNxm_its2pr (s : State) :
    (s.signalNxm).its2pr = s.its2pr := rfl

@[simp] theorem signalNxm_base (s : State) :
    (s.signalNxm).base = s.base := rfl

@[simp] theorem signalNxm_apr (s : State) :
    (s.signalNxm).apr = { s.apr with flg := s.apr.flg ||| aprMask s.cfg.aprBits.nxm } := rfl

@[simp] theorem signalNxm_timeBase (s : State) :
    (s.signalNxm).timeBase = s.timeBase := rfl

@[simp] theorem signalNxm_interval (s : State) :
    (s.signalNxm).interval = s.interval := rfl

@[simp] theorem signalNxm_pi (s : State) :
    (s.signalNxm).pi = s.pi := rfl

@[simp] theorem signalNxm_cache (s : State) :
    (s.signalNxm).cache = s.cache := rfl

@[simp] theorem signalNxm_pagerWord (s : State) :
    (s.signalNxm).pagerWord = s.pagerWord := rfl

@[simp] theorem signalNxm_piCycle (s : State) :
    (s.signalNxm).piCycle = s.piCycle := rfl

@[simp] theorem signalNxm_indCount (s : State) :
    (s.signalNxm).indCount = s.indCount := rfl

@[simp] theorem signalNxm_xctCount (s : State) :
    (s.signalNxm).xctCount = s.xctCount := rfl

@[simp] theorem signalNxm_forcedExec (s : State) :
    (s.signalNxm).forcedExec = s.forcedExec := rfl

@[simp] theorem signalNxm_mem (s : State) :
    (s.signalNxm).mem = s.mem := rfl

@[simp] theorem signalNxm_breakpoints (s : State) :
    (s.signalNxm).breakpoints = s.breakpoints := rfl

@[simp] theorem signalNxm_bkptSkip (s : State) :
    (s.signalNxm).bkptSkip = s.bkptSkip := rfl

@[simp] theorem signalNxm_report (s : State) :
    (s.signalNxm).report = s.report := rfl

@[simp] theorem signalNxm_pxct (s : State) :
    (s.signalNxm).pxct = s.pxct := rfl

@[simp] theorem signalNxm_inhibit (s : State) :
    (s.signalNxm).inhibit = s.inhibit := rfl

@[simp] theorem signalNxm_pending (s : State) :
    (s.signalNxm).pending = s.pending := rfl

@[simp] theorem signalNxm_phase (s : State) :
    (s.signalNxm).phase = s.phase := rfl

@[simp] theorem signalNxm_env (s : State) :
    (s.signalNxm).env = s.env := rfl

/-! ### `setTlb` -/

@[simp] theorem setTlb_cfg (user : Bool) (vpn : Nat) (e : TlbEntry) (s : State) :
    (s.setTlb user vpn e).cfg = s.cfg := rfl

@[simp] theorem setTlb_acb (user : Bool) (vpn : Nat) (e : TlbEntry) (s : State) :
    (s.setTlb user vpn e).acb = s.acb := rfl

@[simp] theorem setTlb_pc (user : Bool) (vpn : Nat) (e : TlbEntry) (s : State) :
    (s.setTlb user vpn e).pc = s.pc := rfl

@[simp] theorem setTlb_ipc (user : Bool) (vpn : Nat) (e : TlbEntry) (s : State) :
    (s.setTlb user vpn e).ipc = s.ipc := rfl

@[simp] theorem setTlb_flags (user : Bool) (vpn : Nat) (e : TlbEntry) (s : State) :
    (s.setTlb user vpn e).flags = s.flags := rfl

@[simp] theorem setTlb_its1pr (user : Bool) (vpn : Nat) (e : TlbEntry) (s : State) :
    (s.setTlb user vpn e).its1pr = s.its1pr := rfl

@[simp] theorem setTlb_its2pr (user : Bool) (vpn : Nat) (e : TlbEntry) (s : State) :
    (s.setTlb user vpn e).its2pr = s.its2pr := rfl

@[simp] theorem setTlb_base (user : Bool) (vpn : Nat) (e : TlbEntry) (s : State) :
    (s.setTlb user vpn e).base = s.base := rfl

@[simp] theorem setTlb_apr (user : Bool) (vpn : Nat) (e : TlbEntry) (s : State) :
    (s.setTlb user vpn e).apr = s.apr := rfl

@[simp] theorem setTlb_timeBase (user : Bool) (vpn : Nat) (e : TlbEntry) (s : State) :
    (s.setTlb user vpn e).timeBase = s.timeBase := rfl

@[simp] theorem setTlb_interval (user : Bool) (vpn : Nat) (e : TlbEntry) (s : State) :
    (s.setTlb user vpn e).interval = s.interval := rfl

@[simp] theorem setTlb_pi (user : Bool) (vpn : Nat) (e : TlbEntry) (s : State) :
    (s.setTlb user vpn e).pi = s.pi := rfl

@[simp] theorem setTlb_pagerWord (user : Bool) (vpn : Nat) (e : TlbEntry) (s : State) :
    (s.setTlb user vpn e).pagerWord = s.pagerWord := rfl

@[simp] theorem setTlb_piCycle (user : Bool) (vpn : Nat) (e : TlbEntry) (s : State) :
    (s.setTlb user vpn e).piCycle = s.piCycle := rfl

@[simp] theorem setTlb_indCount (user : Bool) (vpn : Nat) (e : TlbEntry) (s : State) :
    (s.setTlb user vpn e).indCount = s.indCount := rfl

@[simp] theorem setTlb_xctCount (user : Bool) (vpn : Nat) (e : TlbEntry) (s : State) :
    (s.setTlb user vpn e).xctCount = s.xctCount := rfl

@[simp] theorem setTlb_forcedExec (user : Bool) (vpn : Nat) (e : TlbEntry) (s : State) :
    (s.setTlb user vpn e).forcedExec = s.forcedExec := rfl

@[simp] theorem setTlb_mem (user : Bool) (vpn : Nat) (e : TlbEntry) (s : State) :
    (s.setTlb user vpn e).mem = s.mem := rfl

@[simp] theorem setTlb_breakpoints (user : Bool) (vpn : Nat) (e : TlbEntry) (s : State) :
    (s.setTlb user vpn e).breakpoints = s.breakpoints := rfl

@[simp] theorem setTlb_bkptSkip (user : Bool) (vpn : Nat) (e : TlbEntry) (s : State) :
    (s.setTlb user vpn e).bkptSkip = s.bkptSkip := rfl

@[simp] theorem setTlb_report (user : Bool) (vpn : Nat) (e : TlbEntry) (s : State) :
    (s.setTlb user vpn e).report = s.report := rfl

@[simp] theorem setTlb_pxct (user : Bool) (vpn : Nat) (e : TlbEntry) (s : State) :
    (s.setTlb user vpn e).pxct = s.pxct := rfl

@[simp] theorem setTlb_inhibit (user : Bool) (vpn : Nat) (e : TlbEntry) (s : State) :
    (s.setTlb user vpn e).inhibit = s.inhibit := rfl

@[simp] theorem setTlb_pending (user : Bool) (vpn : Nat) (e : TlbEntry) (s : State) :
    (s.setTlb user vpn e).pending = s.pending := rfl

@[simp] theorem setTlb_phase (user : Bool) (vpn : Nat) (e : TlbEntry) (s : State) :
    (s.setTlb user vpn e).phase = s.phase := rfl

@[simp] theorem setTlb_env (user : Bool) (vpn : Nat) (e : TlbEntry) (s : State) :
    (s.setTlb user vpn e).env = s.env := rfl

/-! ### `setSect` -/

@[simp] theorem setSect_cfg (user : Bool) (r : PageRef) (s : State) :
    (s.setSect user r).cfg = s.cfg := rfl

@[simp] theorem setSect_acb (user : Bool) (r : PageRef) (s : State) :
    (s.setSect user r).acb = s.acb := rfl

@[simp] theorem setSect_pc (user : Bool) (r : PageRef) (s : State) :
    (s.setSect user r).pc = s.pc := rfl

@[simp] theorem setSect_ipc (user : Bool) (r : PageRef) (s : State) :
    (s.setSect user r).ipc = s.ipc := rfl

@[simp] theorem setSect_flags (user : Bool) (r : PageRef) (s : State) :
    (s.setSect user r).flags = s.flags := rfl

@[simp] theorem setSect_its1pr (user : Bool) (r : PageRef) (s : State) :
    (s.setSect user r).its1pr = s.its1pr := rfl

@[simp] theorem setSect_its2pr (user : Bool) (r : PageRef) (s : State) :
    (s.setSect user r).its2pr = s.its2pr := rfl

@[simp] theorem setSect_base (user : Bool) (r : PageRef) (s : State) :
    (s.setSect user r).base = s.base := rfl

@[simp] theorem setSect_apr (user : Bool) (r : PageRef) (s : State) :
    (s.setSect user r).apr = s.apr := rfl

@[simp] theorem setSect_timeBase (user : Bool) (r : PageRef) (s : State) :
    (s.setSect user r).timeBase = s.timeBase := rfl

@[simp] theorem setSect_interval (user : Bool) (r : PageRef) (s : State) :
    (s.setSect user r).interval = s.interval := rfl

@[simp] theorem setSect_pi (user : Bool) (r : PageRef) (s : State) :
    (s.setSect user r).pi = s.pi := rfl

@[simp] theorem setSect_pagerWord (user : Bool) (r : PageRef) (s : State) :
    (s.setSect user r).pagerWord = s.pagerWord := rfl

@[simp] theorem setSect_piCycle (user : Bool) (r : PageRef) (s : State) :
    (s.setSect user r).piCycle = s.piCycle := rfl

@[simp] theorem setSect_indCount (user : Bool) (r : PageRef) (s : State) :
    (s.setSect user r).indCount = s.indCount := rfl

@[simp] theorem setSect_xctCount (user : Bool) (r : PageRef) (s : State) :
    (s.setSect user r).xctCount = s.xctCount := rfl

@[simp] theorem setSect_forcedExec (user : Bool) (r : PageRef) (s : State) :
    (s.setSect user r).forcedExec = s.forcedExec := rfl

@[simp] theorem setSect_mem (user : Bool) (r : PageRef) (s : State) :
    (s.setSect user r).mem = s.mem := rfl

@[simp] theorem setSect_breakpoints (user : Bool) (r : PageRef) (s : State) :
    (s.setSect user r).breakpoints = s.breakpoints := rfl

@[simp] theorem setSect_bkptSkip (user : Bool) (r : PageRef) (s : State) :
    (s.setSect user r).bkptSkip = s.bkptSkip := rfl

@[simp] theorem setSect_report (user : Bool) (r : PageRef) (s : State) :
    (s.setSect user r).report = s.report := rfl

@[simp] theorem setSect_pxct (user : Bool) (r : PageRef) (s : State) :
    (s.setSect user r).pxct = s.pxct := rfl

@[simp] theorem setSect_inhibit (user : Bool) (r : PageRef) (s : State) :
    (s.setSect user r).inhibit = s.inhibit := rfl

@[simp] theorem setSect_pending (user : Bool) (r : PageRef) (s : State) :
    (s.setSect user r).pending = s.pending := rfl

@[simp] theorem setSect_phase (user : Bool) (r : PageRef) (s : State) :
    (s.setSect user r).phase = s.phase := rfl

@[simp] theorem setSect_env (user : Bool) (r : PageRef) (s : State) :
    (s.setSect user r).env = s.env := rfl

/-! ### `invalidateAll` -/

@[simp] theorem invalidateAll_cfg (s : State) :
    (s.invalidateAll).cfg = s.cfg := rfl

@[simp] theorem invalidateAll_acb (s : State) :
    (s.invalidateAll).acb = s.acb := rfl

@[simp] theorem invalidateAll_pc (s : State) :
    (s.invalidateAll).pc = s.pc := rfl

@[simp] theorem invalidateAll_ipc (s : State) :
    (s.invalidateAll).ipc = s.ipc := rfl

@[simp] theorem invalidateAll_flags (s : State) :
    (s.invalidateAll).flags = s.flags := rfl

@[simp] theorem invalidateAll_its1pr (s : State) :
    (s.invalidateAll).its1pr = s.its1pr := rfl

@[simp] theorem invalidateAll_its2pr (s : State) :
    (s.invalidateAll).its2pr = s.its2pr := rfl

@[simp] theorem invalidateAll_base (s : State) :
    (s.invalidateAll).base = s.base := rfl

@[simp] theorem invalidateAll_apr (s : State) :
    (s.invalidateAll).apr = s.apr := rfl

@[simp] theorem invalidateAll_timeBase (s : State) :
    (s.invalidateAll).timeBase = s.timeBase := rfl

@[simp] theorem invalidateAll_interval (s : State) :
    (s.invalidateAll).interval = s.interval := rfl

@[simp] theorem invalidateAll_pi (s : State) :
    (s.invalidateAll).pi = s.pi := rfl

@[simp] theorem invalidateAll_cache (s : State) :
    (s.invalidateAll).cache = PagerCache.empty := rfl

@[simp] theorem invalidateAll_pagerWord (s : State) :
    (s.invalidateAll).pagerWord = s.pagerWord := rfl

@[simp] theorem invalidateAll_piCycle (s : State) :
    (s.invalidateAll).piCycle = s.piCycle := rfl

@[simp] theorem invalidateAll_indCount (s : State) :
    (s.invalidateAll).indCount = s.indCount := rfl

@[simp] theorem invalidateAll_xctCount (s : State) :
    (s.invalidateAll).xctCount = s.xctCount := rfl

@[simp] theorem invalidateAll_forcedExec (s : State) :
    (s.invalidateAll).forcedExec = s.forcedExec := rfl

@[simp] theorem invalidateAll_mem (s : State) :
    (s.invalidateAll).mem = s.mem := rfl

@[simp] theorem invalidateAll_breakpoints (s : State) :
    (s.invalidateAll).breakpoints = s.breakpoints := rfl

@[simp] theorem invalidateAll_bkptSkip (s : State) :
    (s.invalidateAll).bkptSkip = s.bkptSkip := rfl

@[simp] theorem invalidateAll_report (s : State) :
    (s.invalidateAll).report = s.report := rfl

@[simp] theorem invalidateAll_pxct (s : State) :
    (s.invalidateAll).pxct = s.pxct := rfl

@[simp] theorem invalidateAll_inhibit (s : State) :
    (s.invalidateAll).inhibit = s.inhibit := rfl

@[simp] theorem invalidateAll_pending (s : State) :
    (s.invalidateAll).pending = s.pending := rfl

@[simp] theorem invalidateAll_phase (s : State) :
    (s.invalidateAll).phase = s.phase := rfl

@[simp] theorem invalidateAll_env (s : State) :
    (s.invalidateAll).env = s.env := rfl

/-! ### `dropPage` -/

@[simp] theorem dropPage_cfg (vpn : Nat) (s : State) :
    (s.dropPage vpn).cfg = s.cfg := rfl

@[simp] theorem dropPage_acb (vpn : Nat) (s : State) :
    (s.dropPage vpn).acb = s.acb := rfl

@[simp] theorem dropPage_pc (vpn : Nat) (s : State) :
    (s.dropPage vpn).pc = s.pc := rfl

@[simp] theorem dropPage_ipc (vpn : Nat) (s : State) :
    (s.dropPage vpn).ipc = s.ipc := rfl

@[simp] theorem dropPage_flags (vpn : Nat) (s : State) :
    (s.dropPage vpn).flags = s.flags := rfl

@[simp] theorem dropPage_its1pr (vpn : Nat) (s : State) :
    (s.dropPage vpn).its1pr = s.its1pr := rfl

@[simp] theorem dropPage_its2pr (vpn : Nat) (s : State) :
    (s.dropPage vpn).its2pr = s.its2pr := rfl

@[simp] theorem dropPage_base (vpn : Nat) (s : State) :
    (s.dropPage vpn).base = s.base := rfl

@[simp] theorem dropPage_apr (vpn : Nat) (s : State) :
    (s.dropPage vpn).apr = s.apr := rfl

@[simp] theorem dropPage_timeBase (vpn : Nat) (s : State) :
    (s.dropPage vpn).timeBase = s.timeBase := rfl

@[simp] theorem dropPage_interval (vpn : Nat) (s : State) :
    (s.dropPage vpn).interval = s.interval := rfl

@[simp] theorem dropPage_pi (vpn : Nat) (s : State) :
    (s.dropPage vpn).pi = s.pi := rfl

@[simp] theorem dropPage_pagerWord (vpn : Nat) (s : State) :
    (s.dropPage vpn).pagerWord = s.pagerWord := rfl

@[simp] theorem dropPage_piCycle (vpn : Nat) (s : State) :
    (s.dropPage vpn).piCycle = s.piCycle := rfl

@[simp] theorem dropPage_indCount (vpn : Nat) (s : State) :
    (s.dropPage vpn).indCount = s.indCount := rfl

@[simp] theorem dropPage_xctCount (vpn : Nat) (s : State) :
    (s.dropPage vpn).xctCount = s.xctCount := rfl

@[simp] theorem dropPage_forcedExec (vpn : Nat) (s : State) :
    (s.dropPage vpn).forcedExec = s.forcedExec := rfl

@[simp] theorem dropPage_mem (vpn : Nat) (s : State) :
    (s.dropPage vpn).mem = s.mem := rfl

@[simp] theorem dropPage_breakpoints (vpn : Nat) (s : State) :
    (s.dropPage vpn).breakpoints = s.breakpoints := rfl

@[simp] theorem dropPage_bkptSkip (vpn : Nat) (s : State) :
    (s.dropPage vpn).bkptSkip = s.bkptSkip := rfl

@[simp] theorem dropPage_report (vpn : Nat) (s : State) :
    (s.dropPage vpn).report = s.report := rfl

@[simp] theorem dropPage_pxct (vpn : Nat) (s : State) :
    (s.dropPage vpn).pxct = s.pxct := rfl

@[simp] theorem dropPage_inhibit (vpn : Nat) (s : State) :
    (s.dropPage vpn).inhibit = s.inhibit := rfl

@[simp] theorem dropPage_pending (vpn : Nat) (s : State) :
    (s.dropPage vpn).pending = s.pending := rfl

@[simp] theorem dropPage_phase (vpn : Nat) (s : State) :
    (s.dropPage vpn).phase = s.phase := rfl

@[simp] theorem dropPage_env (vpn : Nat) (s : State) :
    (s.dropPage vpn).env = s.env := rfl

/-! ### `setNewflags` -/

@[simp] theorem setNewflags_cfg (w : Half) (j : Bool) (s : State) :
    (setNewflags w j s).cfg = s.cfg := rfl

@[simp] theorem setNewflags_acb (w : Half) (j : Bool) (s : State) :
    (setNewflags w j s).acb = s.acb := rfl

@[simp] theorem setNewflags_pc (w : Half) (j : Bool) (s : State) :
    (setNewflags w j s).pc = s.pc := rfl

@[simp] theorem setNewflags_ipc (w : Half) (j : Bool) (s : State) :
    (setNewflags w j s).ipc = s.ipc := rfl

@[simp] theorem setNewflags_its2pr (w : Half) (j : Bool) (s : State) :
    (setNewflags w j s).its2pr = s.its2pr := rfl

@[simp] theorem setNewflags_base (w : Half) (j : Bool) (s : State) :
    (setNewflags w j s).base = s.base := rfl

@[simp] theorem setNewflags_apr (w : Half) (j : Bool) (s : State) :
    (setNewflags w j s).apr = s.apr := rfl

@[simp] theorem setNewflags_timeBase (w : Half) (j : Bool) (s : State) :
    (setNewflags w j s).timeBase = s.timeBase := rfl

@[simp] theorem setNewflags_interval (w : Half) (j : Bool) (s : State) :
    (setNewflags w j s).interval = s.interval := rfl

@[simp] theorem setNewflags_pi (w : Half) (j : Bool) (s : State) :
    (setNewflags w j s).pi = s.pi := rfl

@[simp] theorem setNewflags_cache (w : Half) (j : Bool) (s : State) :
    (setNewflags w j s).cache = s.cache := rfl

@[simp] theorem setNewflags_pagerWord (w : Half) (j : Bool) (s : State) :
    (setNewflags w j s).pagerWord = s.pagerWord := rfl

@[simp] theorem setNewflags_piCycle (w : Half) (j : Bool) (s : State) :
    (setNewflags w j s).piCycle = s.piCycle := rfl

@[simp] theorem setNewflags_indCount (w : Half) (j : Bool) (s : State) :
    (setNewflags w j s).indCount = s.indCount := rfl

@[simp] theorem setNewflags_xctCount (w : Half) (j : Bool) (s : State) :
    (setNewflags w j s).xctCount = s.xctCount := rfl

@[simp] theorem setNewflags_forcedExec (w : Half) (j : Bool) (s : State) :
    (setNewflags w j s).forcedExec = s.forcedExec := rfl

@[simp] theorem setNewflags_mem (w : Half) (j : Bool) (s : State) :
    (setNewflags w j s).mem = s.mem := rfl

@[simp] theorem setNewflags_breakpoints (w : Half) (j : Bool) (s : State) :
    (setNewflags w j s).breakpoints = s.breakpoints := rfl

@[simp] theorem setNewflags_bkptSkip (w : Half) (j : Bool) (s : State) :
    (setNewflags w j s).bkptSkip = s.bkptSkip := rfl

@[simp] theorem setNewflags_report (w : Half) (j : Bool) (s : State) :
    (setNewflags w j s).report = s.report := rfl

@[simp] theorem setNewflags_pxct (w : Half) (j : Bool) (s : State) :
    (setNewflags w j s).pxct = s.pxct := rfl

@[simp] theorem setNewflags_inhibit (w : Half) (j : Bool) (s : State) :
    (setNewflags w j s).inhibit = s.inhibit := rfl

@[simp] theorem setNewflags_pending (w : Half) (j : Bool) (s : State) :
    (setNewflags w j s).pending = s.pending := rfl

@[simp] theorem setNewflags_phase (w : Half) (j : Bool) (s : State) :
    (setNewflags w j s).phase = s.phase := rfl

@[simp] theorem setNewflags_env (w : Half) (j : Bool) (s : State) :
    (setNewflags w j s).env = s.env := rfl

/-! ### Accumulators -/

/-- Reading an accumulator after writing one (R52). -/
theorem acOf_setAcOf (b c : BitVec 3) (n k : AcNum) (v : Word) (s : State) :
    (s.setAcOf b n v).acOf c k = if c = b ∧ k = n then v else s.acOf c k := by
  have key : (acIndex b n).val = (acIndex c k).val ↔ c = b ∧ k = n := by
    simp only [acIndex, BitVec.val_toFin, BitVec.toNat_append]
    constructor
    · intro h
      have h1 := b.isLt
      have h2 := n.isLt
      have h3 := c.isLt
      have h4 := k.isLt
      rw [← Nat.shiftLeft_add_eq_or_of_lt h2, ← Nat.shiftLeft_add_eq_or_of_lt h4] at h
      simp only [Nat.shiftLeft_eq] at h
      exact ⟨BitVec.eq_of_toNat_eq (by omega), BitVec.eq_of_toNat_eq (by omega)⟩
    · rintro ⟨rfl, rfl⟩
      rfl
  simp only [State.acOf, State.setAcOf, Vector.get_eq_getElem]
  rw [Vector.getElem_set]
  simp only [key]

@[simp] theorem ac_setAc (n k : AcNum) (v : Word) (s : State) :
    (s.setAc n v).ac k = if k = n then v else s.ac k := by
  simp [State.ac, State.setAc, acOf_setAcOf]

@[simp] theorem ac_setPc (k : AcNum) (v : VAddr) (s : State) : (s.setPc v).ac k = s.ac k := rfl

@[simp] theorem ac_orFlags (k : AcNum) (f : Flags) (s : State) : (s.orFlags f).ac k = s.ac k := rfl

@[simp] theorem ac_setMem (k : AcNum) (pa : Nat) (v : Word) (s : State) : (s.setMem pa v).ac k = s.ac k := rfl

@[simp] theorem acOf_setPc (b : BitVec 3) (k : AcNum) (v : VAddr) (s : State) : (s.setPc v).acOf b k = s.acOf b k := rfl

@[simp] theorem acOf_setMem (b : BitVec 3) (k : AcNum) (pa : Nat) (v : Word) (s : State) :
    (s.setMem pa v).acOf b k = s.acOf b k := rfl

end Sys2Proof.Machine
end

