-- ==== Sys2Proof/Laws/Frame.lean ====
section
/-! SUPPORT. What a reference to memory leaves unchanged: every register, however the reference ends. -/

namespace Sys2Proof.Machine

open Sys2Proof

theorem SameRegisters.refl (s : State) : SameRegisters s s :=
  ⟨rfl, rfl, rfl, rfl, rfl, rfl, rfl, rfl, rfl, rfl, rfl, rfl, rfl, rfl, Nat.le_refl _, rfl, rfl, rfl, rfl, rfl, rfl, rfl, rfl, rfl, 0, rfl⟩

theorem SameRegisters.trans {s t u : State} (h : SameRegisters s t) (k : SameRegisters t u) : SameRegisters s u where
  cfg := k.cfg.trans h.cfg
  acb := k.acb.trans h.acb
  pc := k.pc.trans h.pc
  ipc := k.ipc.trans h.ipc
  flags := k.flags.trans h.flags
  its1pr := k.its1pr.trans h.its1pr
  its2pr := k.its2pr.trans h.its2pr
  base := k.base.trans h.base
  aprEnb := k.aprEnb.trans h.aprEnb
  aprLvl := k.aprLvl.trans h.aprLvl
  timeBase := k.timeBase.trans h.timeBase
  interval := k.interval.trans h.interval
  pi := k.pi.trans h.pi
  piCycle := k.piCycle.trans h.piCycle
  indCount := h.indCount.trans k.indCount
  xctCount := k.xctCount.trans h.xctCount
  forcedExec := k.forcedExec.trans h.forcedExec
  breakpoints := k.breakpoints.trans h.breakpoints
  bkptSkip := k.bkptSkip.trans h.bkptSkip
  report := k.report.trans h.report
  pxct := k.pxct.trans h.pxct
  inhibit := k.inhibit.trans h.inhibit
  pending := k.pending.trans h.pending
  phase := k.phase.trans h.phase
  env := by
    obtain ⟨a, ha⟩ := h.env
    obtain ⟨b, hb⟩ := k.env
    exact ⟨a + b, by rw [hb, ha, ← List.drop_drop]⟩

/-- The operation leaves every register unchanged, whether it completes or aborts. -/
def Frames {α : Type} (x : M α) : Prop :=
  ∀ s : State,
    match x s with
    | .ok _ t => SameRegisters s t
    | .error _ t => SameRegisters s t

theorem Frames.ok {α : Type} {x : M α} (hx : Frames x) {s t : State} {a : α} (h : x s = .ok a t) : SameRegisters s t := by
  have := hx s
  rwa [h] at this

theorem Frames.pure {α : Type} (a : α) : Frames (Pure.pure a : M α) := fun s => SameRegisters.refl s

theorem Frames.raise {α : Type} (a : Abort) : Frames (Machine.raise a : M α) := fun s => SameRegisters.refl s

theorem Frames.getS : Frames Machine.getS := fun s => SameRegisters.refl s

theorem Frames.modS {f : State → State} (hf : ∀ s, SameRegisters s (f s)) : Frames (Machine.modS f) := fun s => hf s

theorem Frames.bind {α β : Type} {x : M α} {f : α → M β} (hx : Frames x) (hf : ∀ a, Frames (f a)) : Frames (x >>= f) := by
  intro s
  rw [run_bind]
  have := hx s
  cases hs : x s with
  | error e t => rw [hs] at this; exact this
  | ok a t =>
    rw [hs] at this
    have k := hf a t
    simp only
    cases ht : f a t with
    | ok b u => rw [ht] at k; exact this.trans k
    | error e u => rw [ht] at k; exact this.trans k

theorem Frames.ite {α : Type} {c : Prop} [Decidable c] {x y : M α} (hx : Frames x) (hy : Frames y) :
    Frames (if c then x else y) := by
  split <;> assumption

theorem Frames.onlyIf {c : Bool} {x : M Unit} (hx : Frames x) : Frames (Machine.onlyIf c x) := by
  unfold Machine.onlyIf
  exact Frames.ite hx (Frames.pure ())

theorem same_mem (s : State) (m : List (Nat × Word)) : SameRegisters s { s with mem := m } :=
  ⟨rfl, rfl, rfl, rfl, rfl, rfl, rfl, rfl, rfl, rfl, rfl, rfl, rfl, rfl, Nat.le_refl _, rfl, rfl, rfl, rfl, rfl, rfl, rfl, rfl, rfl, 0, rfl⟩

theorem same_cache (s : State) (c : PagerCache) : SameRegisters s { s with cache := c } :=
  ⟨rfl, rfl, rfl, rfl, rfl, rfl, rfl, rfl, rfl, rfl, rfl, rfl, rfl, rfl, Nat.le_refl _, rfl, rfl, rfl, rfl, rfl, rfl, rfl, rfl, rfl, 0, rfl⟩

theorem same_pagerWord (s : State) (w : Word) : SameRegisters s { s with pagerWord := w } :=
  ⟨rfl, rfl, rfl, rfl, rfl, rfl, rfl, rfl, rfl, rfl, rfl, rfl, rfl, rfl, Nat.le_refl _, rfl, rfl, rfl, rfl, rfl, rfl, rfl, rfl, rfl, 0, rfl⟩

theorem same_countIndirect (s : State) : SameRegisters s { s with indCount := s.indCount + 1 } :=
  ⟨rfl, rfl, rfl, rfl, rfl, rfl, rfl, rfl, rfl, rfl, rfl, rfl, rfl, rfl, Nat.le_succ _, rfl, rfl, rfl, rfl, rfl, rfl, rfl, rfl, rfl, 0, rfl⟩

theorem same_signalNxm (s : State) : SameRegisters s s.signalNxm :=
  ⟨rfl, rfl, rfl, rfl, rfl, rfl, rfl, rfl, rfl, rfl, rfl, rfl, rfl, rfl, Nat.le_refl _, rfl, rfl, rfl, rfl, rfl, rfl, rfl, rfl, rfl, 0, rfl⟩

theorem same_passCheckpoint (s : State) : SameRegisters s s.passCheckpoint :=
  ⟨rfl, rfl, rfl, rfl, rfl, rfl, rfl, rfl, rfl, rfl, rfl, rfl, rfl, rfl, Nat.le_refl _, rfl, rfl, rfl, rfl, rfl, rfl, rfl, rfl, rfl, 1, rfl⟩

theorem Frames.setPagerWord (w : Word) : Frames (Machine.setPagerWord w) := Frames.modS fun s => same_pagerWord s w

theorem Frames.raisePageFail {α : Type} (w : Word) : Frames (Machine.raisePageFail w : M α) :=
  Frames.bind (Frames.setPagerWord w) fun _ => Frames.raise _

theorem Frames.notePfw (ev : PfwEvent) : Frames (Machine.notePfw ev) := fun s => same_pagerWord s _

theorem Frames.failWith {α : Type} (ev : PfwEvent) : Frames (Machine.failWith ev : M α) := fun s => same_pagerWord s _

theorem Frames.physRead (pa : Nat) : Frames (Machine.physRead pa) := by
  intro s
  rcases physRead_cases pa s with ⟨-, w, -, he⟩ | ⟨-, -, he⟩ | ⟨-, he⟩ <;> rw [he]
  · exact SameRegisters.refl s
  · exact SameRegisters.refl s
  · exact same_signalNxm s

theorem Frames.physWrite (pa : Nat) (v : Word) : Frames (Machine.physWrite pa v) := by
  intro s
  rcases physWrite_cases pa v s with ⟨-, he⟩ | ⟨-, he⟩ <;> rw [he]
  · exact same_mem s _
  · exact same_signalNxm s

theorem Frames.readP (user : Bool) (pa : Nat) : Frames (Machine.readP user pa) :=
  Frames.bind (Frames.physRead pa) fun o => by
    cases o
    · exact Frames.failWith _
    · exact Frames.pure _

theorem Frames.writeP (user : Bool) (pa : Nat) (v : Word) : Frames (Machine.writeP user pa v) :=
  Frames.bind (Frames.physWrite pa v) fun _ => Frames.ite (Frames.pure _) (Frames.failWith _)

theorem Frames.countIndirect : Frames Machine.countIndirect := Frames.modS same_countIndirect

theorem Frames.indLimit (n : Nat) : Frames (Machine.indLimit n) := by
  intro s
  unfold Machine.indLimit
  by_cases h : s.cfg.indMax ≠ 0 ∧ s.cfg.indMax < n
  · rw [if_pos h]
    exact SameRegisters.refl s
  · rw [if_neg h]
    exact SameRegisters.refl s

theorem Frames.reenterIfPending : Frames Machine.reenterIfPending := by
  intro s
  by_cases hc : s.piCycle = true
  · rw [reenterIfPending_cycle hc]
    exact SameRegisters.refl s
  unfold Machine.reenterIfPending
  rw [if_neg hc]
  by_cases h : s.piPending ≠ 0 ∨ s.arrival = true
  · rw [if_pos h]
    exact same_passCheckpoint s
  · rw [if_neg h]
    exact same_passCheckpoint s

theorem Frames.fillT10 (user : Bool) (mode : AccMode) (va : VAddr) : Frames (Machine.fillT10 user mode va) := by
  unfold Machine.fillT10
  refine Frames.bind Frames.getS fun s => Frames.bind (Frames.readP _ _) fun w => Frames.bind (Frames.notePfw _) fun _ => ?_
  exact Frames.ite (Frames.raise _) (Frames.bind (Frames.onlyIf (Frames.modS fun s => same_cache s _)) fun _ => Frames.pure _)

theorem Frames.pointerCheck (mode : AccMode) (n : Nat) : Frames (Machine.pointerCheck mode n) := by
  unfold Machine.pointerCheck
  refine Frames.ite ?_ (Frames.bind Frames.getS fun _ => Frames.pure _)
  exact Frames.bind Frames.countIndirect fun _ => Frames.bind (Frames.indLimit n) fun _ =>
    Frames.bind Frames.reenterIfPending fun _ => Frames.pure _

theorem Frames.readSpt (user : Bool) (ptr : Word) : Frames (Machine.readSpt user ptr) :=
  Frames.bind Frames.getS fun _ => Frames.readP _ _

theorem Frames.tableAge (user : Bool) (mode : AccMode) (ppn : BitVec 13) : Frames (Machine.tableAge user mode ppn) := by
  unfold Machine.tableAge
  refine Frames.bind Frames.getS fun s => Frames.ite (Frames.bind (Frames.readP _ _) fun cst => ?_) (Frames.pure _)
  exact Frames.ite (Frames.pure _) (Frames.bind (Frames.onlyIf (Frames.writeP _ _ _)) fun _ => Frames.pure _)

theorem Frames.resolve (user : Bool) (mode : AccMode) :
    ∀ (fuel n : Nat) (ptr : Word) (accW accC : Bool), Frames (Machine.resolve user mode fuel n ptr accW accC)
  | 0, _, _, _, _ => Frames.raise _
  | fuel + 1, n, ptr, accW, accC => by
    unfold Machine.resolve
    refine Frames.bind Frames.getS fun s => Frames.ite (Frames.pure _) (Frames.ite ?_ (Frames.ite ?_ (Frames.pure _)))
    · exact Frames.bind (Frames.readSpt _ _) fun _ => Frames.pure _
    · refine Frames.bind (Frames.readSpt _ _) fun t => Frames.ite (Frames.pure _) ?_
      refine Frames.bind (Frames.pointerCheck _ _) fun b => Frames.ite ?_ (Frames.pure _)
      refine Frames.bind (Frames.tableAge _ _ _) fun b => Frames.ite ?_ (Frames.pure _)
      exact Frames.bind (Frames.readP _ _) fun _ => Frames.resolve user mode fuel _ _ _ _

theorem Frames.sectionRef (user : Bool) (mode : AccMode) (va : VAddr) : Frames (Machine.sectionRef user mode va) := by
  unfold Machine.sectionRef
  refine Frames.bind Frames.getS fun s => ?_
  cases s.cache.sect user with
  | some r => exact Frames.pure _
  | none =>
    refine Frames.bind (Frames.readP _ _) fun ptr => Frames.bind (Frames.resolve _ _ _ _ _ _ _) fun o => ?_
    cases o with
    | some r => exact Frames.bind (Frames.onlyIf (Frames.modS fun s => same_cache s _)) fun _ => Frames.pure _
    | none => exact Frames.failWith _

theorem Frames.pageRef (user : Bool) (mode : AccMode) (va : VAddr) (sec : PageRef) :
    Frames (Machine.pageRef user mode va sec) := by
  unfold Machine.pageRef
  refine Frames.bind Frames.getS fun s => Frames.bind (Frames.tableAge _ _ _) fun b => Frames.ite ?_ (Frames.pure _)
  exact Frames.bind (Frames.readP _ _) fun _ => Frames.resolve _ _ _ _ _ _ _

theorem Frames.fillT20 (user : Bool) (mode : AccMode) (va : VAddr) : Frames (Machine.fillT20 user mode va) := by
  unfold Machine.fillT20
  refine Frames.bind (Frames.sectionRef _ _ _) fun sec => Frames.bind (Frames.pageRef _ _ _ _) fun o => ?_
  cases o with
  | none => exact Frames.failWith _
  | some pg =>
    refine Frames.bind Frames.getS fun s => Frames.bind (Frames.readP _ _) fun cst =>
      Frames.ite (Frames.failWith _) (Frames.ite (Frames.failWith _) ?_)
    exact Frames.bind (Frames.onlyIf (Frames.writeP _ _ _)) fun _ => Frames.bind (Frames.notePfw _) fun _ =>
      Frames.bind (Frames.onlyIf (Frames.modS fun s => same_cache s _)) fun _ => Frames.pure _

theorem Frames.fillIts (user : Bool) (mode : AccMode) (va : VAddr) : Frames (Machine.fillIts user mode va) := by
  unfold Machine.fillIts
  refine Frames.bind Frames.getS fun s => Frames.bind (Frames.readP _ _) fun w => Frames.bind (Frames.setPagerWord _) fun _ => ?_
  exact Frames.ite (Frames.raise _) (Frames.bind (Frames.onlyIf (Frames.bind (Frames.writeP _ _ _) fun _ =>
    Frames.modS fun s => same_cache s _)) fun _ => Frames.pure _)

theorem Frames.fill (user : Bool) (mode : AccMode) (va : VAddr) : Frames (Machine.fill user mode va) := by
  intro s
  unfold Machine.fill
  by_cases h1 : s.cfg.its = true
  · simpa [h1] using Frames.fillIts user mode va s
  · by_cases h2 : s.base.ebr.t20 = true
    · simpa [h1, h2] using Frames.fillT20 user mode va s
    · simpa [h1, h2] using Frames.fillT10 user mode va s

theorem Frames.entryFor (user : Bool) (mode : AccMode) (va : VAddr) : Frames (Machine.entryFor user mode va) := by
  intro s
  unfold Machine.entryFor
  cases tblGet (s.cache.table user) (vpnOf va) with
  | none => simpa using Frames.fill user mode va s
  | some e =>
    by_cases h1 : (mode != .write || e.writable) = true
    · simpa only [h1, if_true] using SameRegisters.refl s
    · simpa only [h1, Bool.false_eq_true, if_false] using Frames.fill user mode va s

theorem Frames.translate (user : Bool) (mode : AccMode) (va : VAddr) : Frames (Machine.translate user mode va) := by
  intro s
  unfold Machine.translate
  by_cases h1 : s.base.ebr.pgon = true
  · simp only [h1, if_true]
    exact Frames.bind (Frames.entryFor user mode va) (fun _ => Frames.pure _) s
  · simpa [h1] using SameRegisters.refl s

theorem Frames.readAs (mode : AccMode) (c : Ctx) (va : VAddr) : Frames (Machine.readAs mode c va) := by
  intro s
  unfold Machine.readAs
  by_cases h1 : isAc va = true
  · simpa [h1] using SameRegisters.refl s
  · simp only [h1]
    exact Frames.bind (Frames.translate _ _ _) (fun _ => Frames.readP _ _) s

theorem Frames.vread (c : Ctx) (va : VAddr) : Frames (Machine.vread c va) := Frames.readAs _ _ _

theorem Frames.vreadM (c : Ctx) (va : VAddr) : Frames (Machine.vreadM c va) := Frames.readAs _ _ _

/-- A virtual write to an address that names no accumulator. -/
theorem vwrite_same {c : Ctx} {va : VAddr} {v : Word} {s t : State} (hva : isAc va = false)
    (h : Machine.vwrite c va v s = .ok () t) : SameRegisters s t := by
  simp only [Machine.vwrite, hva] at h
  exact (Frames.bind (Frames.translate _ _ _) fun _ => Frames.writeP _ _ _).ok h

theorem Frames.rdEa (e : VAddr) : Frames (Machine.rdEa e) := fun s => Frames.vread s.ctxEa e s

theorem Frames.rdE (e : VAddr) : Frames (Machine.rdE e) := fun s => Frames.vread s.ctxData e s

theorem Frames.rdmE (e : VAddr) : Frames (Machine.rdmE e) := fun s => Frames.vreadM s.ctxData e s

theorem Frames.rdStk (e : VAddr) : Frames (Machine.rdStk e) := fun s => Frames.vread s.ctxBstk e s

theorem Frames.rdmStk (e : VAddr) : Frames (Machine.rdmStk e) := fun s => Frames.vreadM s.ctxBstk e s

theorem Frames.rdE2 (e : VAddr) : Frames (Machine.rdE2 e) :=
  Frames.bind (Frames.rdE _) fun _ => Frames.bind (Frames.rdE _) fun _ => Frames.pure _

theorem Frames.indirectChecks (n : Nat) : Frames (Machine.indirectChecks n) :=
  Frames.bind Frames.countIndirect fun _ => Frames.bind (Frames.indLimit _) fun _ =>
    Frames.ite Frames.reenterIfPending (Frames.pure _)

theorem Frames.eaLoop (c : Ctx) :
    ∀ (fuel n : Nat) (last : Option Word) (m : EaField), Frames (Machine.eaLoop c fuel n last m)
  | 0, _, _, _ => Frames.raise _
  | fuel + 1, n, last, m => by
    unfold Machine.eaLoop
    refine Frames.bind Frames.getS fun s => Frames.ite ?_ (Frames.pure _)
    exact Frames.bind (Frames.indirectChecks _) fun _ => Frames.bind (Frames.vread _ _) fun _ => Frames.eaLoop c fuel _ _ _

theorem Frames.eaIn (c : Ctx) (m : EaField) : Frames (Machine.eaIn c m) :=
  Frames.bind Frames.getS fun _ => Frames.eaLoop _ _ _ _ _

theorem Frames.eaFull (m : EaField) : Frames (Machine.eaFull m) := fun s => Frames.eaIn s.ctxEa m s

theorem Frames.ea (m : EaField) : Frames (Machine.ea m) := Frames.bind (Frames.eaFull m) fun _ => Frames.pure _

theorem Frames.bpAddr (bp : Word) : Frames (Machine.bpAddr bp) :=
  Frames.bind Frames.getS fun _ => Frames.bind (Frames.eaIn _ _) fun _ => Frames.pure _

theorem Frames.loadByte (bp : Word) : Frames (Machine.loadByte bp) :=
  Frames.bind (Frames.bpAddr bp) fun _ => Frames.bind (Frames.rdStk _) fun _ => Frames.pure _

/-! ### Consequences for what the instructions look at -/

theorem SameRegisters.ac {s t : State} (h : SameRegisters s t) (n : AcNum) : t.ac n = s.ac n := by
  simp [State.ac, State.acOf, h.acb, h.base]

theorem SameRegisters.inUser {s t : State} (h : SameRegisters s t) : t.inUser = s.inUser := by
  simp [State.inUser, h.flags, h.phase]

theorem SameRegisters.mayExec {s t : State} (h : SameRegisters s t) : t.mayExec = s.mayExec := by
  simp [State.mayExec, h.inUser]

theorem SameRegisters.mayIo {s t : State} (h : SameRegisters s t) : t.mayIo = s.mayIo := by
  simp [State.mayIo, h.inUser, h.flags]

theorem SameRegisters.ctxData {s t : State} (h : SameRegisters s t) : t.ctxData = s.ctxData := by
  simp [State.ctxData, h.pxct]

theorem SameRegisters.flpc {s t : State} (h : SameRegisters s t) : t.flpc = s.flpc := by
  simp [State.flpc, h.flags, h.pc]

end Sys2Proof.Machine
end

