-- ==== Sys2Proof/Laws/Forms.lean ====
section
/-! SUPPORT. What each shared operand form does when its effective address computes and its accesses succeed. -/

namespace Sys2Proof.Machine

open Sys2Proof

variable {s s1 s2 t : State} {ac : AcNum} {m : EaField} {e : VAddr} {w : Word}

theorem ac_after_ea (h1 : ea m s = .ok e s1) (n : AcNum) : s1.ac n = s.ac n := ((Frames.ea m).ok h1).ac n

theorem ac_after_rdE (h1 : ea m s = .ok e s1) (h2 : rdE e s1 = .ok w s2) (n : AcNum) : s2.ac n = s.ac n :=
  (((Frames.rdE e).ok h2).ac n).trans (ac_after_ea h1 n)

theorem ac_after_rdmE (h1 : ea m s = .ok e s1) (h2 : rdmE e s1 = .ok w s2) (n : AcNum) : s2.ac n = s.ac n :=
  (((Frames.rdmE e).ok h2).ac n).trans (ac_after_ea h1 n)

theorem acOnly_run {f : Word → Word} (h1 : ea m s = .ok e s1) :
    acOnly f ac m s = .ok () (s1.setAc ac (f (s.ac ac))) := by
  simp only [acOnly, run_bind, h1, run_getAc, run_putAc, ac_after_ea h1]

theorem acFromImm_run {f : Word → Word → Word} (h1 : ea m s = .ok e s1) :
    acFromImm f ac m s = .ok () (s1.setAc ac (f (s.ac ac) (immR e))) := by
  simp only [acFromImm, run_bind, h1, run_getAc, run_putAc, ac_after_ea h1]

theorem acFromMem_run {f : Word → Word → Word} (h1 : ea m s = .ok e s1) (h2 : rdE e s1 = .ok w s2) :
    acFromMem f ac m s = .ok () (s2.setAc ac (f (s.ac ac) w)) := by
  simp only [acFromMem, run_bind, h1, h2, run_getAc, run_putAc, ac_after_rdE h1 h2]

theorem memFromAc_run {f : Word → Word} (h1 : ea m s = .ok e s1) (h2 : wrE e (f (s.ac ac)) s1 = .ok () t) :
    memFromAc f ac m s = .ok () t := by
  simp only [memFromAc, run_bind, h1, run_getAc, ac_after_ea h1, h2]

theorem bothFromAc_run {f : Word → Word} (h1 : ea m s = .ok e s1) (h2 : wrE e (f (s.ac ac)) s1 = .ok () t) :
    bothFromAc f ac m s = .ok () (t.setAc ac (f (s.ac ac))) := by
  simp only [bothFromAc, run_bind, h1, run_getAc, ac_after_ea h1, h2, run_putAc]

theorem memRmw_run {f : Word → Word → Word} (h1 : ea m s = .ok e s1) (h2 : rdmE e s1 = .ok w s2)
    (h3 : wrE e (f (s.ac ac) w) s2 = .ok () t) : memRmw f ac m s = .ok () t := by
  simp only [memRmw, run_bind, h1, h2, run_getAc, ac_after_rdmE h1 h2, h3]

theorem bothRmw_run {f : Word → Word → Word} (h1 : ea m s = .ok e s1) (h2 : rdmE e s1 = .ok w s2)
    (h3 : wrE e (f (s.ac ac) w) s2 = .ok () t) : bothRmw f ac m s = .ok () (t.setAc ac (f (s.ac ac) w)) := by
  simp only [bothRmw, run_bind, h1, h2, run_getAc, ac_after_rdmE h1 h2, h3, run_putAc]

theorem onlyIf_ac_ne_zero (n : AcNum) (x : M Unit) (s : State) :
    onlyIf (n != 0) x s = if n = 0 then .ok () s else x s := by
  by_cases h : n = 0
  · simp [onlyIf, h]
  · rw [if_neg h, onlyIf, if_pos (by simpa using h)]

theorem selfRmw_run {f : Word → Word} (h1 : ea m s = .ok e s1) (h2 : rdmE e s1 = .ok w s2)
    (h3 : wrE e (f w) s2 = .ok () t) :
    selfRmw f ac m s = .ok () (if ac = 0 then t else t.setAc ac (f w)) := by
  simp only [selfRmw, run_bind, h1, h2, h3, onlyIf_ac_ne_zero, run_putAc]
  split <;> rfl

theorem acFromImmF_run {imm : VAddr → Word} {f : Word → Word → WordFlags} (h1 : ea m s = .ok e s1) :
    acFromImmF imm f ac m s =
      .ok () ((s1.setAc ac (f (s.ac ac) (imm e)).word).orFlags (f (s.ac ac) (imm e)).flags) := by
  simp only [acFromImmF, run_bind, h1, run_getAc, run_putAc, run_setFlags, ac_after_ea h1]

theorem acFromMemF_run {f : Word → Word → WordFlags} (h1 : ea m s = .ok e s1) (h2 : rdE e s1 = .ok w s2) :
    acFromMemF f ac m s = .ok () ((s2.setAc ac (f (s.ac ac) w).word).orFlags (f (s.ac ac) w).flags) := by
  simp only [acFromMemF, run_bind, h1, h2, run_getAc, run_putAc, run_setFlags, ac_after_rdE h1 h2]

theorem memFromAcF_run {f : Word → WordFlags} (h1 : ea m s = .ok e s1)
    (h2 : wrE e (f (s.ac ac)).word s1 = .ok () t) :
    memFromAcF f ac m s = .ok () (t.orFlags (f (s.ac ac)).flags) := by
  simp only [memFromAcF, run_bind, h1, run_getAc, ac_after_ea h1, h2, run_setFlags]

theorem memRmwF_run {f : Word → Word → WordFlags} (h1 : ea m s = .ok e s1) (h2 : rdmE e s1 = .ok w s2)
    (h3 : wrE e (f (s.ac ac) w).word s2 = .ok () t) :
    memRmwF f ac m s = .ok () (t.orFlags (f (s.ac ac) w).flags) := by
  simp only [memRmwF, run_bind, h1, h2, run_getAc, ac_after_rdmE h1 h2, h3, run_setFlags]

theorem bothRmwF_run {f : Word → Word → WordFlags} (h1 : ea m s = .ok e s1) (h2 : rdmE e s1 = .ok w s2)
    (h3 : wrE e (f (s.ac ac) w).word s2 = .ok () t) :
    bothRmwF f ac m s = .ok () ((t.setAc ac (f (s.ac ac) w).word).orFlags (f (s.ac ac) w).flags) := by
  simp only [bothRmwF, run_bind, h1, h2, run_getAc, ac_after_rdmE h1 h2, h3, run_putAc, run_setFlags]

theorem selfRmwF_run {f : Word → WordFlags} (h1 : ea m s = .ok e s1) (h2 : rdmE e s1 = .ok w s2)
    (h3 : wrE e (f w).word s2 = .ok () t) :
    selfRmwF f ac m s = .ok () ((if ac = 0 then t else t.setAc ac (f w).word).orFlags (f w).flags) := by
  simp only [selfRmwF, run_bind, h1, h2, h3, onlyIf_ac_ne_zero, run_putAc]
  by_cases h : ac = 0
  · simp only [if_pos h, run_setFlags]
  · simp only [if_neg h, run_setFlags]

/-- An I/O-class instruction whose privilege is held is its action (R1100). -/
theorem ioOp_run {op : BitVec 9} {act : VAddr → M Unit} (hm : s.mayIo = true) (h1 : ea m s = .ok e s1) :
    ioOp op ac m act s = act e s1 := by
  have f := (Frames.ea m).ok h1
  simp only [ioOp, run_bind, h1, run_getS, run_ite, f.mayIo, hm, if_true]

/-- An I/O-class instruction whose privilege is not held is the MUUO of its opcode (R1100). -/
theorem ioOp_denied {op : BitVec 9} {act : VAddr → M Unit} (hm : s.mayIo = false) (h1 : ea m s = .ok e s1) :
    ioOp op ac m act s = muuoSeq op ac e s1 := by
  have f := (Frames.ea m).ok h1
  simp only [ioOp, run_bind, h1, run_getS, run_ite, f.mayIo, hm, Bool.false_eq_true, if_false]

/-- The same under the setting of ITS the instruction exists under. -/
theorem gatedIo_run {its : Bool} {op : BitVec 9} {act : VAddr → M Unit} (hm : s.mayIo = true) (hi : s.cfg.its = its)
    (h1 : ea m s = .ok e s1) : gatedIo its op ac m act s = act e s1 := by
  have f := (Frames.ea m).ok h1
  simp only [gatedIo, ioOp_run hm h1, run_bind, run_getS, run_ite, f.cfg, hi, if_true]

end Sys2Proof.Machine
end

