-- ==== Sys2Proof/Laws/Keeps.lean ====
section
/-! SUPPORT. An operation keeps the invariant of Safety.lean, however it ends: the rules for the combinators, and the shared
operations one by one. -/

namespace Sys2Proof.Machine

open Sys2Proof

/-- The operation keeps the invariant, whether it completes or aborts. -/
def Keeps {α : Type} (x : M α) : Prop :=
  ∀ s : State, s.inv = true →
    match x s with
    | .ok _ t => t.inv = true
    | .error _ t => t.inv = true

/-! ### Combinators -/

theorem Keeps.pure {α : Type} (a : α) : Keeps (Pure.pure a : M α) := fun _ h => h

theorem Keeps.raise {α : Type} (a : Abort) : Keeps (Machine.raise a : M α) := fun _ h => h

theorem Keeps.getS : Keeps Machine.getS := fun _ h => h

theorem Keeps.getAc (n : AcNum) : Keeps (Machine.getAc n) := fun _ h => h

theorem Keeps.modS {f : State → State} (hf : ∀ s, s.inv = true → (f s).inv = true) : Keeps (Machine.modS f) :=
  fun s h => hf s h

theorem Keeps.bind {α β : Type} {x : M α} {f : α → M β} (hx : Keeps x) (hf : ∀ a, Keeps (f a)) : Keeps (x >>= f) := by
  intro s h
  rw [run_bind]
  have := hx s h
  cases hs : x s with
  | ok a t => rw [hs] at this; exact hf a t this
  | error e t => rw [hs] at this; exact this

theorem Keeps.ite {α : Type} {c : Prop} [Decidable c] {x y : M α} (hx : Keeps x) (hy : Keeps y) :
    Keeps (if c then x else y) := by
  split <;> assumption

theorem Keeps.onlyIf {c : Bool} {x : M Unit} (hx : Keeps x) : Keeps (Machine.onlyIf c x) := by
  unfold Machine.onlyIf
  exact Keeps.ite hx (Keeps.pure ())

/-- An operation that looks at the state before it starts. -/
theorem Keeps.look {α : Type} {g : State → M α} (hg : ∀ s, Keeps (g s)) : Keeps (fun s => g s s) :=
  fun s h => hg s s h

/-- An operation that ends in one of two ways read off the state, changing it in a way that keeps the invariant. -/
theorem Keeps.of_ok {α : Type} {x : M α} {a : State → α} {f : State → State} (hx : ∀ s, x s = .ok (a s) (f s))
    (hf : ∀ s, s.inv = true → (f s).inv = true) : Keeps x := by
  intro s h
  rw [hx s]
  exact hf s h

/-! ### What the invariant depends on -/

/-- The invariant depends on the memory, the pager tables, AFI, the latches and two fields of the configuration. -/
theorem inv_congr {s t : State} (hcfg : t.cfg = s.cfg) (hmem : t.mem = s.mem) (he : t.cache.tlbExec = s.cache.tlbExec)
    (hu : t.cache.tlbUser = s.cache.tlbUser) (ha : t.flags.afi = s.flags.afi) (h1 : t.its1pr = s.its1pr)
    (h2 : t.its2pr = s.its2pr) : t.inv = s.inv := by
  simp [State.inv, hcfg, hmem, he, hu, ha, h1, h2]

/-- The parts of the invariant. -/
theorem inv_iff (s : State) : s.inv = true ↔
    Memory.wf s.cfg.memSize s.mem = true ∧ tlbWf s.cache.tlbExec = true ∧ tlbWf s.cache.tlbUser = true ∧
      (s.cfg.its = true → s.flags.afi = false) ∧ (s.cfg.its = false → s.its1pr = false ∧ s.its2pr = false) ∧
      s.cfg.wf = true := by
  simp only [State.inv, Bool.and_eq_true, Bool.or_eq_true, Bool.not_eq_true']
  cases s.cfg.its <;> simp [and_assoc]

/-! ### State updates -/

theorem inv_setAcOf {s : State} (b : BitVec 3) (n : AcNum) (v : Word) (h : s.inv = true) : (s.setAcOf b n v).inv = true := h

theorem inv_setAc {s : State} (n : AcNum) (v : Word) (h : s.inv = true) : (s.setAc n v).inv = true := h

theorem inv_setPc {s : State} (v : VAddr) (h : s.inv = true) : (s.setPc v).inv = true := h

theorem inv_signalNxm {s : State} (h : s.inv = true) : s.signalNxm.inv = true := h

theorem inv_orFlags {s : State} {f : Flags} (hf : f.afi = false) (h : s.inv = true) : (s.orFlags f).inv = true := by
  rw [← h]
  exact inv_congr rfl rfl rfl rfl (by simp [Flags.union, hf]) rfl rfl

theorem inv_setMem {s : State} {pa : Nat} {v : Word} (hpa : pa < s.cfg.memSize) (h : s.inv = true) :
    (s.setMem pa v).inv = true := by
  rw [inv_iff] at h ⊢
  exact ⟨wf_tblSet v h.1 hpa, h.2⟩

theorem inv_setNewflags {s : State} (w : Half) (j : Bool) (h : s.inv = true) : (setNewflags w j s).inv = true := by
  rw [inv_iff] at h ⊢
  obtain ⟨h1, h2, h3, h4, h5, h6⟩ := h
  refine ⟨h1, h2, h3, ?_, ?_, h6⟩
  · intro hi
    have hi' : s.cfg.its = true := hi
    simp [setNewflags, hi']
  · intro hi
    have hi' : s.cfg.its = false := hi
    exact ⟨by simp [setNewflags, hi', (h5 hi').1], (h5 hi').2⟩

theorem tlbWf_tblSet {t : List (Nat × TlbEntry)} {v : Nat} (e : TlbEntry) (h : tlbWf t = true) (hv : v < 512) :
    tlbWf (tblSet t v e) = true := by
  simp only [tlbWf, Bool.and_eq_true] at h ⊢
  exact ⟨risingFrom_tblSet _ _ _ _ h.1 (Nat.zero_le _), keysBelow_tblSet _ _ _ _ h.2 hv⟩

theorem tlbWf_tblDrop {t : List (Nat × TlbEntry)} (v : Nat) (h : tlbWf t = true) : tlbWf (tblDrop t v) = true := by
  simp only [tlbWf, Bool.and_eq_true] at h ⊢
  exact ⟨risingFrom_tblDrop _ _ _ h.1, keysBelow_tblDrop _ _ _ h.2⟩

theorem inv_setTlb {s : State} {user : Bool} {v : Nat} {e : TlbEntry} (hv : v < 512) (h : s.inv = true) :
    (s.setTlb user v e).inv = true := by
  rw [inv_iff] at h ⊢
  obtain ⟨h1, h2, h3, h4⟩ := h
  cases user
  · exact ⟨h1, tlbWf_tblSet e h2 hv, h3, h4⟩
  · exact ⟨h1, h2, tlbWf_tblSet e h3 hv, h4⟩

theorem inv_setSect {s : State} {user : Bool} {r : PageRef} (h : s.inv = true) : (s.setSect user r).inv = true := by
  cases user <;> exact h

theorem inv_invalidateAll {s : State} (h : s.inv = true) : s.invalidateAll.inv = true := by
  rw [inv_iff] at h ⊢
  exact ⟨h.1, rfl, rfl, h.2.2.2⟩

theorem inv_dropPage {s : State} (v : Nat) (h : s.inv = true) : (s.dropPage v).inv = true := by
  rw [inv_iff] at h ⊢
  obtain ⟨h1, h2, h3, h4⟩ := h
  exact ⟨h1, tlbWf_tblDrop v h2, tlbWf_tblDrop v h3, h4⟩

theorem inv_invalidate {s : State} (v : Nat) (h : s.inv = true) : (s.invalidate v).inv = true := by
  unfold State.invalidate
  split
  · exact inv_dropPage _ (inv_dropPage _ h)
  · exact inv_dropPage _ h

theorem inv_dismissSt {s : State} (h : s.inv = true) : (dismissSt s).inv = true := by
  unfold dismissSt
  split <;> exact h

/-! ### The shared operations -/

theorem Keeps.putAc (n : AcNum) (v : Word) : Keeps (Machine.putAc n v) := Keeps.modS fun _ h => h

theorem Keeps.putAc2 (n : AcNum) (hi lo : Word) : Keeps (Machine.putAc2 n hi lo) :=
  Keeps.bind (Keeps.putAc _ _) fun _ => Keeps.putAc _ _

theorem Keeps.jump (v : VAddr) : Keeps (Machine.jump v) := Keeps.modS fun _ h => h

theorem Keeps.skipIf (c : Bool) : Keeps (Machine.skipIf c) := Keeps.onlyIf (Keeps.modS fun _ h => h)

theorem Keeps.setFlags {f : Flags} (hf : f.afi = false) : Keeps (Machine.setFlags f) := Keeps.modS fun _ h => inv_orFlags hf h

theorem Keeps.setPagerWord (w : Word) : Keeps (Machine.setPagerWord w) := Keeps.modS fun _ h => h

theorem Keeps.raisePageFail {α : Type} (w : Word) : Keeps (Machine.raisePageFail w : M α) :=
  Keeps.bind (Keeps.setPagerWord w) fun _ => Keeps.raise _

theorem Keeps.dismiss : Keeps Machine.dismiss := Keeps.modS fun _ h => inv_dismissSt h

theorem Keeps.restoreFlpc (f : Half) (v : VAddr) : Keeps (Machine.restoreFlpc f v) :=
  Keeps.modS fun _ h => inv_setNewflags _ _ h

theorem Keeps.physRead (pa : Nat) : Keeps (Machine.physRead pa) := by
  intro s h
  rcases physRead_cases pa s with ⟨-, w, -, he⟩ | ⟨-, -, he⟩ | ⟨-, he⟩ <;> rw [he] <;> exact h

theorem Keeps.physWrite (pa : Nat) (v : Word) : Keeps (Machine.physWrite pa v) := by
  intro s h
  rcases physWrite_cases pa v s with ⟨hpa, he⟩ | ⟨-, he⟩ <;> rw [he]
  · exact inv_setMem hpa h
  · exact h

theorem Keeps.notePfw (ev : PfwEvent) : Keeps (Machine.notePfw ev) := fun _ h => h

theorem Keeps.failWith {α : Type} (ev : PfwEvent) : Keeps (Machine.failWith ev : M α) := fun _ h => h

theorem Keeps.readP (user : Bool) (pa : Nat) : Keeps (Machine.readP user pa) :=
  Keeps.bind (Keeps.physRead pa) fun o => by
    cases o
    · exact Keeps.failWith _
    · exact Keeps.pure _

theorem Keeps.writeP (user : Bool) (pa : Nat) (v : Word) : Keeps (Machine.writeP user pa v) :=
  Keeps.bind (Keeps.physWrite pa v) fun _ => Keeps.ite (Keeps.pure _) (Keeps.failWith _)

theorem Keeps.seqRead (pa : Nat) : Keeps (Machine.seqRead pa) :=
  Keeps.bind (Keeps.physRead pa) fun o => by
    cases o
    · exact Keeps.raise _
    · exact Keeps.pure _

theorem Keeps.seqWrite (pa : Nat) (v : Word) : Keeps (Machine.seqWrite pa v) :=
  Keeps.bind (Keeps.physWrite pa v) fun _ => Keeps.ite (Keeps.pure _) (Keeps.raise _)

theorem Keeps.countIndirect : Keeps Machine.countIndirect := fun _ h => h

theorem Keeps.indLimit (n : Nat) : Keeps (Machine.indLimit n) := by
  intro s h
  unfold Machine.indLimit
  split
  · split at * <;> simp_all
  · split at * <;> simp_all

theorem Keeps.reenterIfPending : Keeps Machine.reenterIfPending := by
  intro s h
  by_cases hc : s.piCycle = true
  · rw [reenterIfPending_cycle hc]
    exact h
  unfold Machine.reenterIfPending
  rw [if_neg hc]
  by_cases hp : s.piPending ≠ 0 ∨ s.arrival = true
  · rw [if_pos hp]
    exact h
  · rw [if_neg hp]
    exact h

theorem vpnOf_lt (va : VAddr) : vpnOf va < 512 := by
  have := va.isLt
  unfold vpnOf
  omega

theorem Keeps.fillT10 (user : Bool) (mode : AccMode) (va : VAddr) : Keeps (Machine.fillT10 user mode va) := by
  unfold Machine.fillT10
  refine Keeps.bind Keeps.getS fun s => Keeps.bind (Keeps.readP _ _) fun w => Keeps.bind (Keeps.notePfw _) fun _ => ?_
  refine Keeps.ite (Keeps.raise _) (Keeps.bind (Keeps.onlyIf (Keeps.modS fun s h => ?_)) fun _ => Keeps.pure _)
  exact inv_setTlb (vpnOf_lt va) h

theorem Keeps.pointerCheck (mode : AccMode) (n : Nat) : Keeps (Machine.pointerCheck mode n) := by
  unfold Machine.pointerCheck
  refine Keeps.ite ?_ (Keeps.bind Keeps.getS fun _ => Keeps.pure _)
  exact Keeps.bind Keeps.countIndirect fun _ => Keeps.bind (Keeps.indLimit n) fun _ =>
    Keeps.bind Keeps.reenterIfPending fun _ => Keeps.pure _

theorem Keeps.readSpt (user : Bool) (ptr : Word) : Keeps (Machine.readSpt user ptr) :=
  Keeps.bind Keeps.getS fun _ => Keeps.readP _ _

theorem Keeps.tableAge (user : Bool) (mode : AccMode) (ppn : BitVec 13) : Keeps (Machine.tableAge user mode ppn) := by
  unfold Machine.tableAge
  refine Keeps.bind Keeps.getS fun s => Keeps.ite (Keeps.bind (Keeps.readP _ _) fun cst => ?_) (Keeps.pure _)
  exact Keeps.ite (Keeps.pure _) (Keeps.bind (Keeps.onlyIf (Keeps.writeP _ _ _)) fun _ => Keeps.pure _)

theorem Keeps.resolve (user : Bool) (mode : AccMode) :
    ∀ (fuel n : Nat) (ptr : Word) (accW accC : Bool), Keeps (Machine.resolve user mode fuel n ptr accW accC)
  | 0, _, _, _, _ => Keeps.raise _
  | fuel + 1, n, ptr, accW, accC => by
    unfold Machine.resolve
    refine Keeps.bind Keeps.getS fun s => Keeps.ite (Keeps.pure _) (Keeps.ite ?_ (Keeps.ite ?_ (Keeps.pure _)))
    · exact Keeps.bind (Keeps.readSpt _ _) fun _ => Keeps.pure _
    · refine Keeps.bind (Keeps.readSpt _ _) fun t => Keeps.ite (Keeps.pure _) ?_
      refine Keeps.bind (Keeps.pointerCheck _ _) fun b => Keeps.ite ?_ (Keeps.pure _)
      refine Keeps.bind (Keeps.tableAge _ _ _) fun b => Keeps.ite ?_ (Keeps.pure _)
      exact Keeps.bind (Keeps.readP _ _) fun _ => Keeps.resolve user mode fuel _ _ _ _

theorem Keeps.sectionRef (user : Bool) (mode : AccMode) (va : VAddr) : Keeps (Machine.sectionRef user mode va) := by
  unfold Machine.sectionRef
  refine Keeps.bind Keeps.getS fun s => ?_
  cases s.cache.sect user with
  | some r => exact Keeps.pure _
  | none =>
    refine Keeps.bind (Keeps.readP _ _) fun ptr => Keeps.bind (Keeps.resolve _ _ _ _ _ _ _) fun o => ?_
    cases o with
    | some r => exact Keeps.bind (Keeps.onlyIf (Keeps.modS fun s h => inv_setSect h)) fun _ => Keeps.pure _
    | none => exact Keeps.failWith _

theorem Keeps.pageRef (user : Bool) (mode : AccMode) (va : VAddr) (sec : PageRef) :
    Keeps (Machine.pageRef user mode va sec) := by
  unfold Machine.pageRef
  refine Keeps.bind Keeps.getS fun s => Keeps.bind (Keeps.tableAge _ _ _) fun b => Keeps.ite ?_ (Keeps.pure _)
  exact Keeps.bind (Keeps.readP _ _) fun _ => Keeps.resolve _ _ _ _ _ _ _

theorem Keeps.fillT20 (user : Bool) (mode : AccMode) (va : VAddr) : Keeps (Machine.fillT20 user mode va) := by
  unfold Machine.fillT20
  refine Keeps.bind (Keeps.sectionRef _ _ _) fun sec => Keeps.bind (Keeps.pageRef _ _ _ _) fun o => ?_
  cases o with
  | none => exact Keeps.failWith _
  | some pg =>
    refine Keeps.bind Keeps.getS fun s => Keeps.bind (Keeps.readP _ _) fun cst =>
      Keeps.ite (Keeps.failWith _) (Keeps.ite (Keeps.failWith _) ?_)
    refine Keeps.bind (Keeps.onlyIf (Keeps.writeP _ _ _)) fun _ => Keeps.bind (Keeps.notePfw _) fun _ =>
      Keeps.bind (Keeps.onlyIf (Keeps.modS fun s h => ?_)) fun _ => Keeps.pure _
    exact inv_setTlb (vpnOf_lt va) h

theorem Keeps.fillIts (user : Bool) (mode : AccMode) (va : VAddr) : Keeps (Machine.fillIts user mode va) := by
  unfold Machine.fillIts
  refine Keeps.bind Keeps.getS fun s => Keeps.bind (Keeps.readP _ _) fun w => Keeps.bind (Keeps.setPagerWord _) fun _ => ?_
  refine Keeps.ite (Keeps.raise _) (Keeps.bind (Keeps.onlyIf (Keeps.bind (Keeps.writeP _ _ _) fun _ =>
    Keeps.modS fun s h => ?_)) fun _ => Keeps.pure _)
  have := va.isLt
  exact inv_setTlb (by omega) (inv_setTlb (by omega) h)

theorem Keeps.fill (user : Bool) (mode : AccMode) (va : VAddr) : Keeps (Machine.fill user mode va) := by
  intro s h
  unfold Machine.fill
  by_cases h1 : s.cfg.its = true
  · simpa [h1] using Keeps.fillIts user mode va s h
  · by_cases h2 : s.base.ebr.t20 = true
    · simpa [h1, h2] using Keeps.fillT20 user mode va s h
    · simpa [h1, h2] using Keeps.fillT10 user mode va s h

theorem Keeps.entryFor (user : Bool) (mode : AccMode) (va : VAddr) : Keeps (Machine.entryFor user mode va) := by
  intro s h
  unfold Machine.entryFor
  cases tblGet (s.cache.table user) (vpnOf va) with
  | none => simpa using Keeps.fill user mode va s h
  | some e =>
    by_cases h1 : (mode != .write || e.writable) = true
    · simpa only [h1, if_true] using h
    · simpa only [h1, Bool.false_eq_true, if_false] using Keeps.fill user mode va s h

theorem Keeps.translate (user : Bool) (mode : AccMode) (va : VAddr) : Keeps (Machine.translate user mode va) := by
  intro s h
  unfold Machine.translate
  by_cases h1 : s.base.ebr.pgon = true
  · simp only [h1, if_true]
    exact Keeps.bind (Keeps.entryFor user mode va) (fun _ => Keeps.pure _) s h
  · simpa [h1] using h

theorem Keeps.readAs (mode : AccMode) (c : Ctx) (va : VAddr) : Keeps (Machine.readAs mode c va) := by
  intro s h
  unfold Machine.readAs
  by_cases h1 : isAc va = true
  · simpa [h1] using h
  · simp only [h1]
    exact Keeps.bind (Keeps.translate _ _ _) (fun _ => Keeps.readP _ _) s h

theorem Keeps.vread (c : Ctx) (va : VAddr) : Keeps (Machine.vread c va) := Keeps.readAs _ _ _

theorem Keeps.vreadM (c : Ctx) (va : VAddr) : Keeps (Machine.vreadM c va) := Keeps.readAs _ _ _

theorem Keeps.vwrite (c : Ctx) (va : VAddr) (v : Word) : Keeps (Machine.vwrite c va v) := by
  intro s h
  unfold Machine.vwrite
  by_cases h1 : isAc va = true
  · simpa [h1] using inv_setAcOf _ _ v h
  · simp only [h1]
    exact Keeps.bind (Keeps.translate _ _ _) (fun _ => Keeps.writeP _ _ _) s h

theorem Keeps.accViol (c : Ctx) (va : VAddr) (mode : AccMode) : Keeps (Machine.accViol c va mode) := by
  intro s h
  unfold Machine.accViol
  by_cases h1 : isAc va = true
  · simpa [h1] using h
  · simp only [h1]
    have := Keeps.translate (s.space c) mode va s h
    cases hs : Machine.translate (s.space c) mode va s with
    | ok a t => rw [hs] at this; simpa using this
    | error a t =>
      rw [hs] at this
      cases a <;> first | exact h | exact this

theorem Keeps.noDevice {α : Type} (ioa : BitVec 22) : Keeps (Machine.noDevice ioa : M α) :=
  Keeps.bind Keeps.getS fun _ => Keeps.failWith _

theorem Keeps.readIo (ioa : BitVec 22) (size : IoSize) : Keeps (Machine.readIo ioa size) := by
  unfold Machine.readIo
  refine Keeps.bind Keeps.getS fun s => Keeps.bind (Keeps.modS fun _ h => h) fun _ => ?_
  split
  · exact Keeps.pure _
  · exact Keeps.noDevice _

theorem Keeps.writeIo (ioa : BitVec 22) (v : Word) (size : IoSize) : Keeps (Machine.writeIo ioa v size) := by
  unfold Machine.writeIo
  refine Keeps.bind Keeps.getS fun s => Keeps.bind (Keeps.modS fun _ h => h) fun _ => ?_
  split
  · exact Keeps.pure _
  · exact Keeps.noDevice _

theorem Keeps.ioVector (level : Nat) : Keeps (Machine.ioVector level) := fun _ h => h

/-! ### Trap sequences -/

theorem Keeps.enterHandler (cell : Nat) : Keeps (Machine.enterHandler cell) := by
  unfold Machine.enterHandler
  refine Keeps.bind Keeps.getS fun s => Keeps.bind (Keeps.seqRead _) fun n => Keeps.modS fun t h => ?_
  refine inv_setPc _ (inv_setNewflags _ _ ?_)
  rw [inv_iff] at h ⊢
  exact ⟨h.1, h.2.1, h.2.2.1, h.2.2.2.1, fun hi => ⟨(h.2.2.2.2.1 hi).1, rfl⟩, h.2.2.2.2.2⟩

theorem Keeps.saveAll (base : Nat) : ∀ l : List (Nat × Word), Keeps (Machine.saveAll base l)
  | [] => Keeps.pure _
  | _ :: l => Keeps.bind (Keeps.seqWrite _ _) fun _ => Keeps.saveAll base l

theorem Keeps.pageFailSeq : Keeps Machine.pageFailSeq :=
  Keeps.bind (Keeps.modS fun _ h => h) fun _ => Keeps.bind Keeps.getS fun _ =>
    Keeps.bind (Keeps.saveAll _ _) fun _ => Keeps.enterHandler _

theorem Keeps.muuoSeq (op : BitVec 9) (ac : AcNum) (e : VAddr) : Keeps (Machine.muuoSeq op ac e) :=
  Keeps.bind Keeps.getS fun _ => Keeps.bind (Keeps.saveAll _ _) fun _ => Keeps.enterHandler _

/-- A meaning that keeps the invariant answers a next state that has it. -/
theorem inv_of_finish {m : M Unit} (hm : Keeps m) {s t : State} (h : s.inv = true) (hf : finish m s = .next t) :
    t.inv = true := by
  have key := hm s h
  unfold finish at hf
  cases hs : m s with
  | ok u r =>
    rw [hs] at hf key
    cases hf
    exact key
  | error a r =>
    rw [hs] at hf key
    cases a with
    | fault f => cases hf
    | reenter => cases hf; exact key
    | stop n => cases hf; exact key
    | pageFail =>
      have hp := Keeps.pageFailSeq r key
      simp only [abortOutcome] at hf
      by_cases hi : r.inhibit = true
      · rw [if_pos hi] at hf
        cases hf
        exact key
      rw [if_neg hi] at hf
      cases hq : Machine.pageFailSeq r with
      | ok u q => rw [hq] at hf hp; cases hf; exact hp
      | error b q =>
        rw [hq] at hf hp
        cases b <;> cases hf <;> exact hp

/-! ### Operands -/

theorem Keeps.rdEa (e : VAddr) : Keeps (Machine.rdEa e) := fun t h => Keeps.vread t.ctxEa e t h

theorem Keeps.rdE (e : VAddr) : Keeps (Machine.rdE e) := fun t h => Keeps.vread t.ctxData e t h

theorem Keeps.rdmE (e : VAddr) : Keeps (Machine.rdmE e) := fun t h => Keeps.vreadM t.ctxData e t h

theorem Keeps.wrE (e : VAddr) (v : Word) : Keeps (Machine.wrE e v) := fun t h => Keeps.vwrite t.ctxData e v t h

theorem Keeps.rdStk (e : VAddr) : Keeps (Machine.rdStk e) := fun t h => Keeps.vread t.ctxBstk e t h

theorem Keeps.rdmStk (e : VAddr) : Keeps (Machine.rdmStk e) := fun t h => Keeps.vreadM t.ctxBstk e t h

theorem Keeps.wrStk (e : VAddr) (v : Word) : Keeps (Machine.wrStk e v) := fun t h => Keeps.vwrite t.ctxBstk e v t h

theorem Keeps.indirectChecks (n : Nat) : Keeps (Machine.indirectChecks n) :=
  Keeps.bind Keeps.countIndirect fun _ => Keeps.bind (Keeps.indLimit _) fun _ =>
    Keeps.ite Keeps.reenterIfPending (Keeps.pure _)

theorem Keeps.eaLoop (c : Ctx) :
    ∀ (fuel n : Nat) (last : Option Word) (m : EaField), Keeps (Machine.eaLoop c fuel n last m)
  | 0, _, _, _ => Keeps.raise _
  | fuel + 1, n, last, m => by
    unfold Machine.eaLoop
    refine Keeps.bind Keeps.getS fun s => Keeps.ite ?_ (Keeps.pure _)
    exact Keeps.bind (Keeps.indirectChecks _) fun _ => Keeps.bind (Keeps.vread _ _) fun _ => Keeps.eaLoop c fuel _ _ _

theorem Keeps.eaIn (c : Ctx) (m : EaField) : Keeps (Machine.eaIn c m) :=
  Keeps.bind Keeps.getS fun _ => Keeps.eaLoop _ _ _ _ _

theorem Keeps.eaFull (m : EaField) : Keeps (Machine.eaFull m) := fun t h => Keeps.eaIn t.ctxEa m t h

theorem Keeps.ea (m : EaField) : Keeps (Machine.ea m) := Keeps.bind (Keeps.eaFull m) fun _ => Keeps.pure _

theorem Keeps.ioea (m : EaField) (e : VAddr) : Keeps (Machine.ioea m e) := by
  unfold Machine.ioea
  refine Keeps.bind Keeps.getS fun s => ?_
  cases s.cfg.ioeaMode
  · exact Keeps.ite (Keeps.bind (Keeps.vread _ _) fun _ => Keeps.pure _) (Keeps.pure _)
  · exact Keeps.pure _

theorem Keeps.bpAddr (bp : Word) : Keeps (Machine.bpAddr bp) :=
  Keeps.bind Keeps.getS fun _ => Keeps.bind (Keeps.eaIn _ _) fun _ => Keeps.pure _

theorem Keeps.loadByte (bp : Word) : Keeps (Machine.loadByte bp) :=
  Keeps.bind (Keeps.bpAddr bp) fun _ => Keeps.bind (Keeps.rdStk _) fun _ => Keeps.pure _

theorem Keeps.depositByte (bp v : Word) : Keeps (Machine.depositByte bp v) :=
  Keeps.bind (Keeps.bpAddr bp) fun _ => Keeps.bind (Keeps.rdmStk _) fun _ => Keeps.wrStk _ _

end Sys2Proof.Machine
end

