-- ==== Sys2Proof/Laws/Loop.lean ====
section
/-! SUPPORT. The pieces of one step: the sequences that read and write physical cells, the boundary, the chain of executed
words and the end of the step. -/

namespace Sys2Proof.Machine

open Sys2Proof

/-! ### Cells of a sequence (R1206) -/

theorem seqRead_run {pa : Nat} {s : State} {w : Word} (h : pa < s.cfg.memSize) (hm : tblGet s.mem pa = some w) :
    seqRead pa s = .ok w s := by
  simp [seqRead, physRead, h, hm]

theorem seqWrite_run {pa : Nat} {s : State} {w : Word} (h : pa < s.cfg.memSize) :
    seqWrite pa w s = .ok () (s.setMem pa w) := by
  simp [seqWrite, physWrite, h]

/-- A save area whose cells exist is stored word by word, and nothing else changes (R1203, R1231). -/
theorem saveAll_run {base : Nat} {l : List (Nat × Word)} {s : State} (h : ∀ c ∈ l, base + c.1 < s.cfg.memSize) :
    saveAll base l s = .ok () { s with mem := l.foldl (fun m c => tblSet m (base + c.1) c.2) s.mem } := by
  induction l generalizing s with
  | nil => rfl
  | cons c l ih =>
    simp only [saveAll, run_bind, seqWrite_run (h c (List.mem_cons_self ..)), List.foldl_cons]
    exact ih fun d hd => h d (List.mem_cons_of_mem _ hd)

/-- A virtual write with paging off (R170). -/
theorem vwrite_physical {c : Ctx} {va : VAddr} {v : Word} {s : State} (hp : s.base.ebr.pgon = false)
    (h : 0o20 ≤ va.toNat) (hm : va.toNat < s.cfg.memSize) : vwrite c va v s = .ok () (s.setMem va.toNat v) := by
  have : isAc va = false := by simp [isAc]; omega
  simp [vwrite, this, Machine.translate, hp, writeP, physWrite, hm]

/-! ### The boundary (R1260) -/

theorem agents_quiet {s : State} (h : s.env.agenda = []) : agents s = s := by
  have : ({ s.env with agenda := [] } : Environment) = s.env := by rw [← h]
  simp only [agents, h, List.headD_nil, List.drop_nil, List.foldl_nil, this]

theorem step_boundary {s : State} (h : s.pending = none) (h2 : s.env.agenda = []) :
    Sys2Proof.Machine.step s = boundary { s with report := .ok } := by
  unfold Sys2Proof.Machine.step loopStep
  rw [h]
  dsimp only
  rw [agents_quiet (by exact h2)]

theorem boundary_interrupt {t : State} (h1 : t.env.fatal = false) (h2 : t.forcedExec = none) (h3 : t.piPending ≠ 0) :
    boundary t = seqOutcome t (interruptSeq t.piPending t) := by
  simp [boundary, h1, h2, h3]

theorem boundary_trap {t : State} (h1 : t.env.fatal = false) (h2 : t.forcedExec = none) (h3 : t.piPending = 0)
    (h4 : t.trapDue = true) : boundary t = runPending (finish trapSeq t) := by
  simp [boundary, h1, h2, h3, h4]

theorem boundary_fetch {t : State} (h1 : t.env.fatal = false) (h2 : t.forcedExec = none) (h3 : t.piPending = 0)
    (h4 : t.trapDue = false) (h5 : t.pc ∉ t.breakpoints) : boundary t = runPending (finish fetchSeq t) := by
  simp [boundary, h1, h2, h3, h4, h5]

/-! ### The chain of executed words (R686) and the end of the step (R1245) -/

theorem drain_none {n : Nat} {s : State} (h : s.pending = none) : drain n s = .next s := by
  cases n <;> simp [drain, h]

theorem drain_some {n : Nat} {s : State} {p : Pending} (h : s.pending = some p) :
    drain (n + 1) s =
      match exec (decode s.cfg p.word) { s with pending := none, pxct := p.pxct, inhibit := p.inhibit } with
      | .next t => drain n t
      | .fault f => .fault f
      | .refused r => .refused r := by
  cases s
  cases h
  rfl

theorem settle_plain {s : State} (h : s.pending = none) (h2 : s.its2pr = false) :
    settle s = .next { s with pxct := 0, inhibit := false, phase := .fetch } := by
  simp [settle, h, complete, h2]

end Sys2Proof.Machine
end

