-- ==== Sys2Proof/Tests/Slice0.lean ====
section
/-! SUPPORT. The model's own tests: the checks of WellFormed, decoding of words written from the opcode table, the spec's own
vectors, and for every statement with hypotheses a state and operands that meet them. -/

set_option Elab.async false

noncomputable section

namespace Sys2Proof.Tests

open Sys2Proof Sys2Proof.Machine Sys2Proof.Statements

/-! ### Helpers -/

/-- A state after reset with a word at PC (0o500) and accumulators, memory words and flags as given. -/
def start (w : Word) (acs : List (AcNum × Word)) (mem : List (Nat × Word)) (f : Half) : State :=
  let s := ((0o500, w) :: mem).foldl (fun s p => s.setMem p.1 p.2) State.reset
  let s := acs.foldl (fun s p => s.setAc p.1 p.2) s
  { s with flags := Flags.ofHalf f }

/-- What a test expects after one step: accumulators, memory words, PC, flags and report. -/
structure Expected where
  acs : List (AcNum × Word)
  mem : List (Nat × Word)
  pc : VAddr
  flags : Half
  report : Report

/-- One step from a state ends as expected. -/
def endsAs (s : State) (x : Expected) : Bool :=
  match step s with
  | .next t => x.acs.all (fun p => t.ac p.1 == p.2) && x.mem.all (fun p => tblGet t.mem p.1 == some p.2) &&
      t.pc == x.pc && t.flags.toHalf == x.flags && t.report == x.report
  | _ => false

/-- One step from each state ends as expected. -/
def allEnd (l : List (State × Expected)) : Bool := l.all fun c => endsAs c.1 c.2

/-- An operation succeeds, and its value and state satisfy a test. -/
def okThen {α : Type} (r : EStateM.Result Abort State α) (k : α → State → Bool) : Bool :=
  match r with
  | .ok a t => k a t
  | .error _ _ => false

theorem okThen_iff {α : Type} (r : EStateM.Result Abort State α) (k : α → State → Bool) :
    okThen r k = true ↔ ∃ a t, r = .ok a t ∧ k a t = true := by
  cases r <;> simp [okThen]

/-- An operation aborts, and the abort and its state satisfy a test. -/
def abortThen {α : Type} (r : EStateM.Result Abort State α) (k : Abort → State → Bool) : Bool :=
  match r with
  | .ok _ _ => false
  | .error a t => k a t

/-- An outcome is a next state that satisfies a test. -/
def nextThen (o : Out) (k : State → Bool) : Bool :=
  match o with
  | .next t => k t
  | _ => false

theorem nextThen_iff (o : Out) (k : State → Bool) : nextThen o k = true ↔ ∃ t, o = .next t ∧ k t = true := by
  cases o <;> simp [nextThen]

/-- An outcome is a next state with the accumulators, PC, flags, memory, report, pending word and APR flags of the given
one (what a kernel evaluation of a whole State comparison would take too long for). -/
def nextIs (o : Out) (t : State) : Bool :=
  nextThen o fun u => [0, 1, 2, 3, 4, 5].all (fun n => u.ac n == t.ac n) && u.pc == t.pc && decide (u.flags = t.flags) &&
    decide (u.mem = t.mem) && u.report == t.report && u.pending == t.pending && decide (u.apr = t.apr)

/-- The address part of the decode tests: I = 1, X = 3, Y = 0o1234. -/
def f : EaField := ⟨true, 3, 0o1234⟩

/-- The default configuration with `ITS` set. -/
def itsConfig : Config := { Config.default with its := true }

/-- Every word decodes to the instruction beside it. -/
def decodesAll (c : Config) (l : List (Nat × Instr)) : Bool := l.all fun p => decode c (BitVec.ofNat 36 p.1) == p.2

/-- After an `EXTEND 2,100` every word decodes to the operation beside it. -/
def decodesExtended (c : Config) (l : List (Nat × Instr)) : Bool :=
  l.all fun p => decide (decodeWords c [0o123100000100, p.1] = .ok p.2)

/-! ### WellFormed: each check refuses a term -/

theorem test_wf_muuo : (Instr.muuo 0o201 1 f).wf Config.default = false := by decide +kernel

theorem test_wf_adjbp : (Instr.adjbp 0 f).wf Config.default = false := by decide +kernel

theorem test_wf_pxct : (Instr.pxct 0 f).wf Config.default = false := by decide +kernel

theorem test_wf_xjrst : (Instr.xjrst f).wf Config.default = false := by decide +kernel

theorem test_wf_its_only : [Instr.xctri 1 f, .xctr 1 f, .circ 1 f, .clrcsh f, .sdbr1 f, .sdbr2 f, .sdbr3 f, .sdbr4 f,
    .spm f, .ldbr1 f, .ldbr2 f, .ldbr3 f, .ldbr4 f, .lpmr f, .iordi 1 f, .iordq 1 f, .iord 1 f, .iowr 1 f, .iowri 1 f,
    .iowrq 1 f, .iordbi 1 f, .iordbq 1 f, .iordb 1 f, .iowrb 1 f, .iowrbi 1 f, .iowrbq 1 f].all
      (fun i => !i.wf Config.default) = true := by
  decide +kernel

theorem test_wf_dec_only : [Instr.map 1 f, .rdspb f, .rdcsb f, .rdpur f, .rdcstm f, .wrspb f, .wrcsb f, .wrpur f,
    .wrcstm f, .tioe 1 f, .tion 1 f, .rdio 1 f, .wrio 1 f, .bsio 1 f, .bcio 1 f, .tioeb 1 f, .tionb 1 f, .rdiob 1 f,
    .wriob 1 f, .bsiob 1 f, .bciob 1 f].all (fun i => !i.wf itsConfig) = true := by
  decide +kernel

/-! ### Decoding: one word for every constructor, written from its match and mask in opcode_table.json -/

theorem test_decode_uuo : decodesAll Config.default
    [(0o1123001234, .luuo01 2 f), (0o2123001234, .luuo02 2 f), (0o3123001234, .luuo03 2 f),
     (0o4123001234, .luuo04 2 f), (0o5123001234, .luuo05 2 f), (0o6123001234, .luuo06 2 f),
     (0o7123001234, .luuo07 2 f), (0o10123001234, .luuo10 2 f), (0o11123001234, .luuo11 2 f),
     (0o12123001234, .luuo12 2 f), (0o13123001234, .luuo13 2 f), (0o14123001234, .luuo14 2 f),
     (0o15123001234, .luuo15 2 f), (0o16123001234, .luuo16 2 f), (0o17123001234, .luuo17 2 f),
     (0o20123001234, .luuo20 2 f), (0o21123001234, .luuo21 2 f), (0o22123001234, .luuo22 2 f),
     (0o23123001234, .luuo23 2 f), (0o24123001234, .luuo24 2 f), (0o25123001234, .luuo25 2 f),
     (0o26123001234, .luuo26 2 f), (0o27123001234, .luuo27 2 f), (0o30123001234, .luuo30 2 f),
     (0o31123001234, .luuo31 2 f), (0o32123001234, .luuo32 2 f), (0o33123001234, .luuo33 2 f),
     (0o34123001234, .luuo34 2 f), (0o35123001234, .luuo35 2 f), (0o36123001234, .luuo36 2 f),
     (0o37123001234, .luuo37 2 f)] = true := by
  decide +kernel

theorem test_decode_special : decodesAll Config.default
    [(0o40123001234, .muuo 0o40 2 f), (0o104123001234, .muuo 0o104 2 f), (0o105123001234, .adjsp 2 f),
     (0o110123001234, .dfad 2 f), (0o111123001234, .dfsb 2 f), (0o112123001234, .dfmp 2 f),
     (0o113123001234, .dfdv 2 f), (0o114123001234, .dadd 2 f), (0o115123001234, .dsub 2 f),
     (0o116123001234, .dmul 2 f), (0o117123001234, .ddiv 2 f), (0o120123001234, .dmove 2 f),
     (0o121123001234, .dmovn 2 f), (0o122123001234, .fix 2 f), (0o124123001234, .dmovem 2 f),
     (0o125123001234, .dmovnm 2 f), (0o126123001234, .fixr 2 f), (0o127123001234, .fltr 2 f),
     (0o132123001234, .fsc 2 f), (0o123123001234, .extend 2 f)] = true := by
  decide +kernel

theorem test_decode_byte : decodesAll Config.default
    [(0o134123001234, .ildb 2 f), (0o135123001234, .ldb 2 f), (0o136123001234, .idpb 2 f),
     (0o137123001234, .dpb 2 f), (0o133023001234, .ibp f), (0o133123001234, .adjbp 2 f)] = true := by
  decide +kernel

theorem test_decode_float : decodesAll Config.default
    [(0o140123001234, .fad 2 f), (0o142123001234, .fadm 2 f), (0o143123001234, .fadb 2 f),
     (0o144123001234, .fadr 2 f), (0o145123001234, .fadri 2 f), (0o146123001234, .fadrm 2 f),
     (0o147123001234, .fadrb 2 f), (0o150123001234, .fsb 2 f), (0o152123001234, .fsbm 2 f),
     (0o153123001234, .fsbb 2 f), (0o154123001234, .fsbr 2 f), (0o155123001234, .fsbri 2 f),
     (0o156123001234, .fsbrm 2 f), (0o157123001234, .fsbrb 2 f), (0o160123001234, .fmp 2 f),
     (0o162123001234, .fmpm 2 f), (0o163123001234, .fmpb 2 f), (0o164123001234, .fmpr 2 f),
     (0o165123001234, .fmpri 2 f), (0o166123001234, .fmprm 2 f), (0o167123001234, .fmprb 2 f),
     (0o170123001234, .fdv 2 f), (0o172123001234, .fdvm 2 f), (0o173123001234, .fdvb 2 f),
     (0o174123001234, .fdvr 2 f), (0o175123001234, .fdvri 2 f), (0o176123001234, .fdvrm 2 f),
     (0o177123001234, .fdvrb 2 f)] = true := by
  decide +kernel

theorem test_decode_moves : decodesAll Config.default
    [(0o200123001234, .move 2 f), (0o201123001234, .movei 2 f), (0o202123001234, .movem 2 f),
     (0o203123001234, .moves 2 f), (0o204123001234, .movs 2 f), (0o205123001234, .movsi 2 f),
     (0o206123001234, .movsm 2 f), (0o207123001234, .movss 2 f), (0o210123001234, .movn 2 f),
     (0o211123001234, .movni 2 f), (0o212123001234, .movnm 2 f), (0o213123001234, .movns 2 f),
     (0o214123001234, .movm 2 f), (0o215123001234, .movmi 2 f), (0o216123001234, .movmm 2 f),
     (0o217123001234, .movms 2 f), (0o220123001234, .imul 2 f), (0o221123001234, .imuli 2 f),
     (0o222123001234, .imulm 2 f), (0o223123001234, .imulb 2 f), (0o224123001234, .mul 2 f),
     (0o225123001234, .muli 2 f), (0o226123001234, .mulm 2 f), (0o227123001234, .mulb 2 f),
     (0o230123001234, .idiv 2 f), (0o231123001234, .idivi 2 f), (0o232123001234, .idivm 2 f),
     (0o233123001234, .idivb 2 f), (0o234123001234, .div 2 f), (0o235123001234, .divi 2 f),
     (0o236123001234, .divm 2 f), (0o237123001234, .divb 2 f)] = true := by
  decide +kernel

theorem test_decode_shift_jump : decodesAll Config.default
    [(0o240123001234, .ash 2 f), (0o241123001234, .rot 2 f), (0o242123001234, .lsh 2 f),
     (0o243123001234, .jffo 2 f), (0o244123001234, .ashc 2 f), (0o245123001234, .rotc 2 f),
     (0o246123001234, .lshc 2 f), (0o250123001234, .exch 2 f), (0o251123001234, .blt 2 f),
     (0o252123001234, .aobjp 2 f), (0o253123001234, .aobjn 2 f), (0o255123001234, .jfcl 2 f),
     (0o260123001234, .pushj 2 f), (0o261123001234, .push 2 f), (0o262123001234, .pop 2 f),
     (0o263123001234, .popj 2 f), (0o264123001234, .jsr 2 f), (0o265123001234, .jsp 2 f),
     (0o266123001234, .jsa 2 f), (0o267123001234, .jra 2 f), (0o254023001234, .jrst f),
     (0o254063001234, .portal f), (0o254123001234, .jrstf f), (0o254223001234, .halt f),
     (0o254263001234, .xjrstf f), (0o254323001234, .xjen f), (0o254363001234, .xpcw f),
     (0o254423001234, .jrst10 f), (0o254523001234, .jen f), (0o254623001234, .sfm f),
     (0o254163001234, .muuo 0o254 3 f), (0o256023001234, .xct f), (0o256123001234, .pxct 2 f),
     (0o257123001234, .map 2 f)] = true := by
  decide +kernel

theorem test_decode_add : decodesAll Config.default
    [(0o270123001234, .add 2 f), (0o271123001234, .addi 2 f), (0o272123001234, .addm 2 f),
     (0o273123001234, .addb 2 f), (0o274123001234, .sub 2 f), (0o275123001234, .subi 2 f),
     (0o276123001234, .subm 2 f), (0o277123001234, .subb 2 f)] = true := by
  decide +kernel

theorem test_decode_special_its : decodesAll itsConfig
    [(0o102123001234, .xctri 2 f), (0o103123001234, .xctr 2 f)] = true := by
  decide +kernel

theorem test_decode_extend : decodesExtended Config.default
    [(0o1023001234, .cmpsl 2 0o100 f), (0o2023001234, .cmpse 2 0o100 f), (0o3023001234, .cmpsle 2 0o100 f),
     (0o4023001234, .edit 2 0o100 f), (0o5023001234, .cmpsge 2 0o100 f), (0o6023001234, .cmpsn 2 0o100 f),
     (0o7023001234, .cmpsg 2 0o100 f), (0o10023001234, .cvtdbo 2 0o100 f), (0o11023001234, .cvtdbt 2 0o100 f),
     (0o12023001234, .cvtbdo 2 0o100 f), (0o13023001234, .cvtbdt 2 0o100 f), (0o14023001234, .movso 2 0o100 f),
     (0o15023001234, .movst 2 0o100 f), (0o16023001234, .movslj 2 0o100 f), (0o17023001234, .movsrj 2 0o100 f)] = true := by
  decide +kernel

theorem test_decode_shift_jump_its : decodesAll itsConfig
    [(0o247123001234, .circ 2 f), (0o254663001234, .xjrst f)] = true := by
  decide +kernel

theorem test_decode_compare : decodesAll Config.default
    [(0o300123001234, .cai 2 f), (0o301123001234, .cail 2 f), (0o302123001234, .caie 2 f),
     (0o303123001234, .caile 2 f), (0o304123001234, .caia 2 f), (0o305123001234, .caige 2 f),
     (0o306123001234, .cain 2 f), (0o307123001234, .caig 2 f), (0o310123001234, .cam 2 f),
     (0o311123001234, .caml 2 f), (0o312123001234, .came 2 f), (0o313123001234, .camle 2 f),
     (0o314123001234, .cama 2 f), (0o315123001234, .camge 2 f), (0o316123001234, .camn 2 f),
     (0o317123001234, .camg 2 f), (0o320123001234, .jump 2 f), (0o321123001234, .jumpl 2 f),
     (0o322123001234, .jumpe 2 f), (0o323123001234, .jumple 2 f), (0o324123001234, .jumpa 2 f),
     (0o325123001234, .jumpge 2 f), (0o326123001234, .jumpn 2 f), (0o327123001234, .jumpg 2 f),
     (0o330123001234, .skip 2 f), (0o331123001234, .skipl 2 f), (0o332123001234, .skipe 2 f),
     (0o333123001234, .skiple 2 f), (0o334123001234, .skipa 2 f), (0o335123001234, .skipge 2 f),
     (0o336123001234, .skipn 2 f), (0o337123001234, .skipg 2 f)] = true := by
  decide +kernel

theorem test_decode_step : decodesAll Config.default
    [(0o340123001234, .aoj 2 f), (0o341123001234, .aojl 2 f), (0o342123001234, .aoje 2 f),
     (0o343123001234, .aojle 2 f), (0o344123001234, .aoja 2 f), (0o345123001234, .aojge 2 f),
     (0o346123001234, .aojn 2 f), (0o347123001234, .aojg 2 f), (0o350123001234, .aos 2 f),
     (0o351123001234, .aosl 2 f), (0o352123001234, .aose 2 f), (0o353123001234, .aosle 2 f),
     (0o354123001234, .aosa 2 f), (0o355123001234, .aosge 2 f), (0o356123001234, .aosn 2 f),
     (0o357123001234, .aosg 2 f), (0o360123001234, .soj 2 f), (0o361123001234, .sojl 2 f),
     (0o362123001234, .soje 2 f), (0o363123001234, .sojle 2 f), (0o364123001234, .soja 2 f),
     (0o365123001234, .sojge 2 f), (0o366123001234, .sojn 2 f), (0o367123001234, .sojg 2 f),
     (0o370123001234, .sos 2 f), (0o371123001234, .sosl 2 f), (0o372123001234, .sose 2 f),
     (0o373123001234, .sosle 2 f), (0o374123001234, .sosa 2 f), (0o375123001234, .sosge 2 f),
     (0o376123001234, .sosn 2 f), (0o377123001234, .sosg 2 f)] = true := by
  decide +kernel

theorem test_decode_boolean : decodesAll Config.default
    [(0o400123001234, .setz 2 f), (0o401123001234, .setzi 2 f), (0o402123001234, .setzm 2 f),
     (0o403123001234, .setzb 2 f), (0o404123001234, .and 2 f), (0o405123001234, .andi 2 f),
     (0o406123001234, .andm 2 f), (0o407123001234, .andb 2 f), (0o410123001234, .andca 2 f),
     (0o411123001234, .andcai 2 f), (0o412123001234, .andcam 2 f), (0o413123001234, .andcab 2 f),
     (0o414123001234, .setm 2 f), (0o415123001234, .setmi 2 f), (0o416123001234, .setmm 2 f),
     (0o417123001234, .setmb 2 f), (0o420123001234, .andcm 2 f), (0o421123001234, .andcmi 2 f),
     (0o422123001234, .andcmm 2 f), (0o423123001234, .andcmb 2 f), (0o424123001234, .seta 2 f),
     (0o425123001234, .setai 2 f), (0o426123001234, .setam 2 f), (0o427123001234, .setab 2 f),
     (0o430123001234, .xor 2 f), (0o431123001234, .xori 2 f), (0o432123001234, .xorm 2 f),
     (0o433123001234, .xorb 2 f), (0o434123001234, .ior 2 f), (0o435123001234, .iori 2 f),
     (0o436123001234, .iorm 2 f), (0o437123001234, .iorb 2 f), (0o440123001234, .andcb 2 f),
     (0o441123001234, .andcbi 2 f), (0o442123001234, .andcbm 2 f), (0o443123001234, .andcbb 2 f),
     (0o444123001234, .eqv 2 f), (0o445123001234, .eqvi 2 f), (0o446123001234, .eqvm 2 f),
     (0o447123001234, .eqvb 2 f), (0o450123001234, .setca 2 f), (0o451123001234, .setcai 2 f),
     (0o452123001234, .setcam 2 f), (0o453123001234, .setcab 2 f), (0o454123001234, .orca 2 f),
     (0o455123001234, .orcai 2 f), (0o456123001234, .orcam 2 f), (0o457123001234, .orcab 2 f),
     (0o460123001234, .setcm 2 f), (0o461123001234, .setcmi 2 f), (0o462123001234, .setcmm 2 f),
     (0o463123001234, .setcmb 2 f), (0o464123001234, .orcm 2 f), (0o465123001234, .orcmi 2 f),
     (0o466123001234, .orcmm 2 f), (0o467123001234, .orcmb 2 f), (0o470123001234, .orcb 2 f),
     (0o471123001234, .orcbi 2 f), (0o472123001234, .orcbm 2 f), (0o473123001234, .orcbb 2 f),
     (0o474123001234, .seto 2 f), (0o475123001234, .setoi 2 f), (0o476123001234, .setom 2 f),
     (0o477123001234, .setob 2 f)] = true := by
  decide +kernel

theorem test_decode_half_left : decodesAll Config.default
    [(0o500123001234, .hll 2 f), (0o501123001234, .hlli 2 f), (0o502123001234, .hllm 2 f),
     (0o503123001234, .hlls 2 f), (0o504123001234, .hrl 2 f), (0o505123001234, .hrli 2 f),
     (0o506123001234, .hrlm 2 f), (0o507123001234, .hrls 2 f), (0o510123001234, .hllz 2 f),
     (0o511123001234, .hllzi 2 f), (0o512123001234, .hllzm 2 f), (0o513123001234, .hllzs 2 f),
     (0o514123001234, .hrlz 2 f), (0o515123001234, .hrlzi 2 f), (0o516123001234, .hrlzm 2 f),
     (0o517123001234, .hrlzs 2 f), (0o520123001234, .hllo 2 f), (0o521123001234, .hlloi 2 f),
     (0o522123001234, .hllom 2 f), (0o523123001234, .hllos 2 f), (0o524123001234, .hrlo 2 f),
     (0o525123001234, .hrloi 2 f), (0o526123001234, .hrlom 2 f), (0o527123001234, .hrlos 2 f),
     (0o530123001234, .hlle 2 f), (0o531123001234, .hllei 2 f), (0o532123001234, .hllem 2 f),
     (0o533123001234, .hlles 2 f), (0o534123001234, .hrle 2 f), (0o535123001234, .hrlei 2 f),
     (0o536123001234, .hrlem 2 f), (0o537123001234, .hrles 2 f)] = true := by
  decide +kernel

theorem test_decode_half_right : decodesAll Config.default
    [(0o540123001234, .hrr 2 f), (0o541123001234, .hrri 2 f), (0o542123001234, .hrrm 2 f),
     (0o543123001234, .hrrs 2 f), (0o544123001234, .hlr 2 f), (0o545123001234, .hlri 2 f),
     (0o546123001234, .hlrm 2 f), (0o547123001234, .hlrs 2 f), (0o550123001234, .hrrz 2 f),
     (0o551123001234, .hrrzi 2 f), (0o552123001234, .hrrzm 2 f), (0o553123001234, .hrrzs 2 f),
     (0o554123001234, .hlrz 2 f), (0o555123001234, .hlrzi 2 f), (0o556123001234, .hlrzm 2 f),
     (0o557123001234, .hlrzs 2 f), (0o560123001234, .hrro 2 f), (0o561123001234, .hrroi 2 f),
     (0o562123001234, .hrrom 2 f), (0o563123001234, .hrros 2 f), (0o564123001234, .hlro 2 f),
     (0o565123001234, .hlroi 2 f), (0o566123001234, .hlrom 2 f), (0o567123001234, .hlros 2 f),
     (0o570123001234, .hrre 2 f), (0o571123001234, .hrrei 2 f), (0o572123001234, .hrrem 2 f),
     (0o573123001234, .hrres 2 f), (0o574123001234, .hlre 2 f), (0o575123001234, .hlrei 2 f),
     (0o576123001234, .hlrem 2 f), (0o577123001234, .hlres 2 f)] = true := by
  decide +kernel

theorem test_decode_test_none_zero : decodesAll Config.default
    [(0o600123001234, .trn 2 f), (0o601123001234, .tln 2 f), (0o602123001234, .trne 2 f),
     (0o603123001234, .tlne 2 f), (0o604123001234, .trna 2 f), (0o605123001234, .tlna 2 f),
     (0o606123001234, .trnn 2 f), (0o607123001234, .tlnn 2 f), (0o610123001234, .tdn 2 f),
     (0o611123001234, .tsn 2 f), (0o612123001234, .tdne 2 f), (0o613123001234, .tsne 2 f),
     (0o614123001234, .tdna 2 f), (0o615123001234, .tsna 2 f), (0o616123001234, .tdnn 2 f),
     (0o617123001234, .tsnn 2 f), (0o620123001234, .trz 2 f), (0o621123001234, .tlz 2 f),
     (0o622123001234, .trze 2 f), (0o623123001234, .tlze 2 f), (0o624123001234, .trza 2 f),
     (0o625123001234, .tlza 2 f), (0o626123001234, .trzn 2 f), (0o627123001234, .tlzn 2 f),
     (0o630123001234, .tdz 2 f), (0o631123001234, .tsz 2 f), (0o632123001234, .tdze 2 f),
     (0o633123001234, .tsze 2 f), (0o634123001234, .tdza 2 f), (0o635123001234, .tsza 2 f),
     (0o636123001234, .tdzn 2 f), (0o637123001234, .tszn 2 f)] = true := by
  decide +kernel

theorem test_decode_test_comp_ones : decodesAll Config.default
    [(0o640123001234, .trc 2 f), (0o641123001234, .tlc 2 f), (0o642123001234, .trce 2 f),
     (0o643123001234, .tlce 2 f), (0o644123001234, .trca 2 f), (0o645123001234, .tlca 2 f),
     (0o646123001234, .trcn 2 f), (0o647123001234, .tlcn 2 f), (0o650123001234, .tdc 2 f),
     (0o651123001234, .tsc 2 f), (0o652123001234, .tdce 2 f), (0o653123001234, .tsce 2 f),
     (0o654123001234, .tdca 2 f), (0o655123001234, .tsca 2 f), (0o656123001234, .tdcn 2 f),
     (0o657123001234, .tscn 2 f), (0o660123001234, .tro 2 f), (0o661123001234, .tlo 2 f),
     (0o662123001234, .troe 2 f), (0o663123001234, .tloe 2 f), (0o664123001234, .troa 2 f),
     (0o665123001234, .tloa 2 f), (0o666123001234, .tron 2 f), (0o667123001234, .tlon 2 f),
     (0o670123001234, .tdo 2 f), (0o671123001234, .tso 2 f), (0o672123001234, .tdoe 2 f),
     (0o673123001234, .tsoe 2 f), (0o674123001234, .tdoa 2 f), (0o675123001234, .tsoa 2 f),
     (0o676123001234, .tdon 2 f), (0o677123001234, .tson 2 f)] = true := by
  decide +kernel

theorem test_decode_io : decodesAll Config.default
    [(0o700023001234, .aprid f), (0o700223001234, .wrapr f), (0o700263001234, .rdapr f),
     (0o700323001234, .conszapr f), (0o700363001234, .consoapr f), (0o700623001234, .wrpi f),
     (0o700663001234, .rdpi f), (0o700723001234, .conszpi f), (0o700763001234, .consopi f),
     (0o701063001234, .rdubr f), (0o701123001234, .clrpt f), (0o701163001234, .wrubr f),
     (0o701223001234, .wrebr f), (0o701263001234, .rdebr f), (0o702023001234, .rdspb f),
     (0o702063001234, .rdcsb f), (0o702123001234, .rdpur f), (0o702163001234, .rdcstm f),
     (0o702223001234, .rdtim f), (0o702263001234, .rdint f), (0o702323001234, .rdhsb f),
     (0o702363001234, .muuo 0o702 7 f), (0o702423001234, .wrspb f), (0o702463001234, .wrcsb f),
     (0o702523001234, .wrpur f), (0o702563001234, .wrcstm f), (0o702623001234, .wrtim f),
     (0o702663001234, .wrint f), (0o702723001234, .wrhsb f), (0o704123001234, .umove 2 f),
     (0o705123001234, .umovem 2 f), (0o710123001234, .tioe 2 f), (0o711123001234, .tion 2 f),
     (0o712123001234, .rdio 2 f), (0o713123001234, .wrio 2 f), (0o714123001234, .bsio 2 f),
     (0o715123001234, .bcio 2 f), (0o720123001234, .tioeb 2 f), (0o721123001234, .tionb 2 f),
     (0o722123001234, .rdiob 2 f), (0o723123001234, .wriob 2 f), (0o724123001234, .bsiob 2 f),
     (0o725123001234, .bciob 2 f), (0o716123001234, .bltbu 2 f), (0o717123001234, .bltub 2 f),
     (0o777123001234, .muuo 0o777 2 f)] = true := by
  decide +kernel

theorem test_decode_io_its : decodesAll itsConfig
    [(0o701023001234, .clrcsh f), (0o702023001234, .sdbr1 f), (0o702063001234, .sdbr2 f),
     (0o702123001234, .sdbr3 f), (0o702163001234, .sdbr4 f), (0o702363001234, .spm f), (0o702423001234, .ldbr1 f),
     (0o702463001234, .ldbr2 f), (0o702523001234, .ldbr3 f), (0o702563001234, .ldbr4 f), (0o702763001234, .lpmr f),
     (0o710123001234, .iordi 2 f), (0o711123001234, .iordq 2 f), (0o712123001234, .iord 2 f),
     (0o713123001234, .iowr 2 f), (0o714123001234, .iowri 2 f), (0o715123001234, .iowrq 2 f),
     (0o720123001234, .iordbi 2 f), (0o721123001234, .iordbq 2 f), (0o722123001234, .iordb 2 f),
     (0o723123001234, .iowrb 2 f), (0o724123001234, .iowrbi 2 f), (0o725123001234, .iowrbq 2 f)] = true := by
  decide +kernel

/-! ### The instruction vectors of 95_test_vectors.md -/

/-- V1 to V2 of 95_test_vectors.md section 3. -/
theorem test_vectors_uuo : allEnd
    [(start 0o1040000100 [] [(0o40, 0), (0o41, 0o264000001000), (0o1000, 0)] 0, ⟨[], [(0o40, 0o1040000100),
      (0o1000, 0o501)], 0o1001, 0, .ok⟩),
     (start 0o200 [] [(0o424, 0), (0o425, 0), (0o426, 0), (0o430, 0o3000)] 0, ⟨[], [(0o424, 0o200), (0o425, 0o501),
      (0o426, 0o500000000000)], 0o3000, 0, .ok⟩)] = true := by
  decide +kernel

/-- V3 to V21 of 95_test_vectors.md section 3. -/
theorem test_vectors_special_1 : allEnd
    [(start 0o40100000300 [] [(0o424, 0), (0o425, 0), (0o426, 0), (0o434, 0o3000)] 0o110000, ⟨[], [(0o424,
      0o40100000300), (0o425, 0o110000000501), (0o426, 0o500000000000)], 0o3000, 0o4000, .ok⟩),
     (start 0o114040000100 [(1, 5), (2, 0)] [(0o100, 3), (0o101, 0)] 0, ⟨[(1, 0o10), (2, 0)], [], 0o501, 0, .ok⟩),
     (start 0o114040000100 [(1, 0o377777777777), (2, 0)] [(0o100, 1), (0o101, 0)] 0, ⟨[(1, 0o400000000000), (2,
      0o400000000000)], [], 0o501, 0o500200, .ok⟩),
     (start 0o114040000100 [(1, 5), (2, 0)] [(0o100, 0o777777777777), (0o101, 0)] 0, ⟨[(1, 4), (2, 0)], [], 0o501,
      0o300000, .ok⟩),
     (start 0o114040000100 [(1, 1), (2, 0)] [(0o100, 0o777777777773), (0o101, 0)] 0, ⟨[(1, 0o777777777774), (2,
      0o400000000000)], [], 0o501, 0, .ok⟩),
     (start 0o114040000100 [(1, 0o777777777777), (2, 0)] [(0o100, 5), (0o101, 0)] 0, ⟨[(1, 4), (2, 0)], [], 0o501,
      0o300000, .ok⟩),
     (start 0o114040000100 [(1, 0o777777777773), (2, 0)] [(0o100, 1), (0o101, 0)] 0, ⟨[(1, 0o777777777774), (2,
      0o400000000000)], [], 0o501, 0, .ok⟩),
     (start 0o114040000100 [(1, 0o400000000000), (2, 0)] [(0o100, 0o400000000000), (0o101, 0)] 0, ⟨[(1, 0), (2,
      0)], [], 0o501, 0o600200, .ok⟩),
     (start 0o114040000100 [(1, 0o777777777777), (2, 0)] [(0o100, 0o777777777777), (0o101, 0)] 0, ⟨[(1,
      0o777777777776), (2, 0o400000000000)], [], 0o501, 0o300000, .ok⟩),
     (start 0o114040000100 [(1, 0), (2, 0o377777777777)] [(0o100, 0), (0o101, 1)] 0, ⟨[(1, 1), (2, 0)], [], 0o501,
      0, .ok⟩),
     (start 0o114040000100 [(1, 0o377777777777), (2, 0o377777777777)] [(0o100, 0), (0o101, 1)] 0, ⟨[(1,
      0o400000000000), (2, 0o400000000000)], [], 0o501, 0o500200, .ok⟩),
     (start 0o114040000100 [(1, 0o777777777777), (2, 0o777777777777)] [(0o100, 0o777777777777), (0o101,
      0o777777777777)] 0, ⟨[(1, 0o777777777777), (2, 0o777777777776)], [], 0o501, 0o300000, .ok⟩)] = true := by
  decide +kernel

/-- V22 to V23 of 95_test_vectors.md section 3. -/
theorem test_vectors_special_2 : allEnd
    [(start 0o115040000100 [(1, 1), (2, 0)] [(0o100, 0), (0o101, 1)] 0, ⟨[(1, 0), (2, 0o377777777777)], [], 0o501,
      0o300000, .ok⟩),
     (start 0o115040000100 [(1, 0), (2, 0)] [(0o100, 0), (0o101, 0)] 0, ⟨[(1, 0), (2, 0)], [], 0o501, 0o300000,
      .ok⟩)] = true := by
  decide +kernel

/-- V4 to V10 of 95_test_vectors.md section 3. -/
theorem test_vectors_byte : allEnd
    [(start 0o133000000100 [] [(0o100, 0o440700001000)] 0, ⟨[], [(0o100, 0o350700001000)], 0o501, 0, .ok⟩),
     (start 0o133000000100 [] [(0o100, 0o10700001000)] 0, ⟨[], [(0o100, 0o350700001001)], 0o501, 0, .ok⟩),
     (start 0o135040000100 [] [(0o100, 0o600002000), (0o2000, 0o123456)] 0, ⟨[(1, 0o56)], [], 0o501, 0, .ok⟩),
     (start 0o134040000100 [] [(0o100, 0o440700002000), (0o2000, 0o101204064000)] 0, ⟨[(1, 0o20)], [(0o100,
      0o350700002000)], 0o501, 0, .ok⟩),
     (start 0o136040001000 [(1, 0o177)] [(0o1000, 0o440700002000), (0o2000, 0)] 0, ⟨[], [(0o1000, 0o350700002000),
      (0o2000, 0o774000000000)], 0o501, 0, .ok⟩),
     (start 0o137040000100 [(1, 0o77)] [(0o100, 0o600002000), (0o2000, 0)] 0, ⟨[], [(0o2000, 0o77)], 0o501, 0,
      .ok⟩),
     (start 0o135040000100 [] [(0o100, 0o440600002000), (0o2000, 0o777777777777)] 0, ⟨[(1, 0)], [], 0o501, 0, .ok⟩)] = true := by
  decide +kernel

/-- V24 to V43 of 95_test_vectors.md section 3. -/
theorem test_vectors_add : allEnd
    [(start 0o270040000100 [(1, 5)] [(0o100, 3)] 0, ⟨[(1, 0o10)], [], 0o501, 0, .ok⟩),
     (start 0o270040000100 [(1, 0o377777777777)] [(0o100, 1)] 0, ⟨[(1, 0o400000000000)], [], 0o501, 0o500200, .ok⟩),
     (start 0o270040000100 [(1, 5)] [(0o100, 0o777777777777)] 0, ⟨[(1, 4)], [], 0o501, 0o300000, .ok⟩),
     (start 0o270040000100 [(1, 1)] [(0o100, 0o777777777773)] 0, ⟨[(1, 0o777777777774)], [], 0o501, 0, .ok⟩),
     (start 0o270040000100 [(1, 0o777777777777)] [(0o100, 5)] 0, ⟨[(1, 4)], [], 0o501, 0o300000, .ok⟩),
     (start 0o270040000100 [(1, 0o777777777773)] [(0o100, 1)] 0, ⟨[(1, 0o777777777774)], [], 0o501, 0, .ok⟩),
     (start 0o270040000100 [(1, 0o400000000000)] [(0o100, 0o400000000000)] 0, ⟨[(1, 0)], [], 0o501, 0o600200, .ok⟩),
     (start 0o270040000100 [(1, 0o777777777777)] [(0o100, 0o777777777777)] 0, ⟨[(1, 0o777777777776)], [], 0o501,
      0o300000, .ok⟩),
     (start 0o274040000100 [(1, 5)] [(0o100, 0)] 0, ⟨[(1, 5)], [], 0o501, 0o300000, .ok⟩),
     (start 0o275040000001 [(1, 0)] [] 0, ⟨[(1, 0o777777777777)], [], 0o501, 0, .ok⟩),
     (start 0o273040000001 [(1, 2)] [] 0, ⟨[(1, 4)], [], 0o501, 0, .ok⟩)] = true := by
  decide +kernel

/-- V34 to V42 of 95_test_vectors.md section 3. -/
theorem test_vectors_moves : allEnd
    [(start 0o210040000100 [] [(0o100, 0)] 0, ⟨[(1, 0)], [], 0o501, 0o300000, .ok⟩),
     (start 0o210040000100 [] [(0o100, 0o400000000000)] 0, ⟨[(1, 0o400000000000)], [], 0o501, 0o500200, .ok⟩),
     (start 0o214040000100 [] [(0o100, 0o777777777771)] 0, ⟨[(1, 7)], [], 0o501, 0, .ok⟩),
     (start 0o205040000003 [] [] 0, ⟨[(1, 0o3000000)], [], 0o501, 0, .ok⟩),
     (start 0o203000000100 [(0, 0o11)] [(0o100, 4)] 0, ⟨[(0, 0o11)], [(0o100, 4)], 0o501, 0, .ok⟩),
     (start 0o220040000100 [(1, 3)] [(0o100, 0o777777777774)] 0, ⟨[(1, 0o777777777764)], [], 0o501, 0, .ok⟩),
     (start 0o221040000002 [(1, 0o200000000000)] [] 0, ⟨[(1, 0)], [], 0o501, 0o400200, .ok⟩),
     (start 0o230040000100 [(1, 0o777777777771)] [(0o100, 2)] 0, ⟨[(1, 0o777777777775), (2, 0o777777777777)], [],
      0o501, 0, .ok⟩),
     (start 0o231040000000 [(1, 5), (2, 6)] [] 0, ⟨[(1, 5), (2, 6)], [], 0o501, 0o400240, .ok⟩)] = true := by
  decide +kernel

/-- V44 to V55 of 95_test_vectors.md section 3. -/
theorem test_vectors_shift_jump_1 : allEnd
    [(start 0o240040000003 [(1, 1)] [] 0, ⟨[(1, 0o10)], [], 0o501, 0, .ok⟩),
     (start 0o240040000001 [(1, 0o200000000000)] [] 0, ⟨[(1, 0)], [], 0o501, 0o400200, .ok⟩),
     (start 0o240040777776 [(1, 0o777777777773)] [] 0, ⟨[(1, 0o777777777776)], [], 0o501, 0, .ok⟩),
     (start 0o242040777777 [(1, 0o777777777777)] [] 0, ⟨[(1, 0o377777777777)], [], 0o501, 0, .ok⟩),
     (start 0o242040000044 [(1, 0o777777777777)] [] 0, ⟨[(1, 0)], [], 0o501, 0, .ok⟩),
     (start 0o250040000100 [(1, 1)] [(0o100, 2)] 0, ⟨[(1, 2)], [(0o100, 1)], 0o501, 0, .ok⟩),
     (start 0o251040000202 [(1, 0o100000200)] [(0o100, 1), (0o101, 2), (0o102, 3)] 0, ⟨[(1, 0o103000203)], [(0o200,
      1), (0o201, 2), (0o202, 3)], 0o501, 0, .ok⟩),
     (start 0o251040000203 [(1, 0o200000201)] [(0o200, 0)] 0, ⟨[(1, 0o203000204)], [(0o201, 0), (0o202, 0), (0o203,
      0)], 0o501, 0, .ok⟩),
     (start 0o253040001000 [(1, 0o777777000005)] [] 0, ⟨[(1, 6)], [], 0o501, 0, .ok⟩),
     (start 0o252040001000 [(1, 0o777777000005)] [] 0, ⟨[(1, 6)], [], 0o1000, 0, .ok⟩),
     (start 0o254000001000 [] [] 0, ⟨[], [], 0o1000, 0, .ok⟩),
     (start 0o254120000100 [] [(0o100, 0o4000002000)] 0o10000, ⟨[], [], 0o2000, 0o10000, .ok⟩)] = true := by
  decide +kernel

/-- V56 to V67 of 95_test_vectors.md section 3. -/
theorem test_vectors_shift_jump_2 : allEnd
    [(start 0o254200001000 [] [] 0, ⟨[], [], 0o1000, 0, (.stop .halt)⟩),
     (start 0o254200001000 [] [(0o424, 0), (0o425, 0), (0o426, 0), (0o434, 0o3000)] 0o10000, ⟨[], [(0o424,
      0o254200001000), (0o425, 0o10000000501)], 0o3000, 0o4000, .ok⟩),
     (start 0o255400001000 [] [] 0o400000, ⟨[], [], 0o1000, 0, .ok⟩),
     (start 0o255000001000 [] [] 0o400000, ⟨[], [], 0o501, 0o400000, .ok⟩),
     (start 0o256000000100 [] [(0o100, 0o201040000005)] 0, ⟨[(1, 5)], [], 0o501, 0, .ok⟩),
     (start 0o256000000100 [] [(0o100, 0o334000000000)] 0, ⟨[], [], 0o502, 0, .ok⟩),
     (start 0o260740002000 [(0o17, 0o777770001000)] [(0o1001, 0)] 0, ⟨[(0o17, 0o777771001001)], [(0o1001, 0o501)],
      0o2000, 0, .ok⟩),
     (start 0o261740000005 [(0o17, 0o777777001000), (5, 0o42)] [] 0, ⟨[(0o17, 0o1001)], [(0o1001, 0o42)], 0o501,
      0o400, .ok⟩),
     (start 0o262740000005 [(0o17, 0o777776001001)] [(0o1001, 7)] 0, ⟨[(0o17, 0o777775001000), (5, 7)], [], 0o501,
      0, .ok⟩),
     (start 0o263740000000 [(0o17, 0o777771001001)] [(0o1001, 0o501)] 0, ⟨[(0o17, 0o777770001000)], [], 0o501, 0,
      .ok⟩),
     (start 0o262740000017 [(0o17, 0o777776001001)] [(0o1001, 0o5002000)] 0, ⟨[(0o17, 0o4001777)], [], 0o501, 0,
      .ok⟩),
     (start 0o264000001000 [] [(0o1000, 0)] 0o200200, ⟨[], [(0o1000, 0o200200000501)], 0o1001, 0o200000, .ok⟩)] = true := by
  decide +kernel

/-- V68 to V68 of 95_test_vectors.md section 3. -/
theorem test_vectors_shift_jump_3 : allEnd
    [(start 0o265040001000 [] [] 0o200000, ⟨[(1, 0o200000000501)], [], 0o1000, 0o200000, .ok⟩)] = true := by
  decide +kernel

/-- V69 to V73 of 95_test_vectors.md section 3. -/
theorem test_vectors_compare : allEnd
    [(start 0o301040000005 [(1, 0o777777777777)] [] 0, ⟨[(1, 0o777777777777)], [], 0o502, 0, .ok⟩),
     (start 0o315040000100 [(1, 0o400000000000)] [(0o100, 0)] 0, ⟨[], [], 0o501, 0, .ok⟩),
     (start 0o322040001000 [(1, 0)] [] 0, ⟨[], [], 0o1000, 0, .ok⟩),
     (start 0o336100000100 [] [(0o100, 7)] 0, ⟨[(2, 7)], [], 0o502, 0, .ok⟩),
     (start 0o332000000100 [(0, 0o11)] [(0o100, 0)] 0, ⟨[(0, 0o11)], [], 0o502, 0, .ok⟩)] = true := by
  decide +kernel

/-- V74 to V77 of 95_test_vectors.md section 3. -/
theorem test_vectors_step : allEnd
    [(start 0o341040001000 [(1, 0o377777777777)] [] 0, ⟨[(1, 0o400000000000)], [], 0o1000, 0o500200, .ok⟩),
     (start 0o352040000100 [] [(0o100, 0o777777777777)] 0, ⟨[(1, 0)], [(0o100, 0)], 0o502, 0o300000, .ok⟩),
     (start 0o367040001000 [(1, 1)] [] 0, ⟨[(1, 0)], [], 0o501, 0o300000, .ok⟩),
     (start 0o375000000100 [] [(0o100, 0o400000000000)] 0, ⟨[], [(0o100, 0o377777777777)], 0o502, 0o600200, .ok⟩)] = true := by
  decide +kernel

/-- V78 to V89 of 95_test_vectors.md section 3. -/
theorem test_vectors_boolean_1 : allEnd
    [(start 0o404040000100 [(1, 0o707070707070)] [(0o100, 0o770077007700)] 0, ⟨[(1, 0o700070007000)], [], 0o501, 0,
      .ok⟩),
     (start 0o410040000100 [(1, 0o707070707070)] [(0o100, 0o770077007700)] 0, ⟨[(1, 0o70007000700)], [], 0o501, 0,
      .ok⟩),
     (start 0o420040000100 [(1, 0o707070707070)] [(0o100, 0o770077007700)] 0, ⟨[(1, 0o7000700070)], [], 0o501, 0,
      .ok⟩),
     (start 0o430040000100 [(1, 0o707070707070)] [(0o100, 0o770077007700)] 0, ⟨[(1, 0o77007700770)], [], 0o501, 0,
      .ok⟩),
     (start 0o434040000100 [(1, 0o707070707070)] [(0o100, 0o770077007700)] 0, ⟨[(1, 0o777077707770)], [], 0o501, 0,
      .ok⟩),
     (start 0o440040000100 [(1, 0o707070707070)] [(0o100, 0o770077007700)] 0, ⟨[(1, 0o700070007)], [], 0o501, 0,
      .ok⟩),
     (start 0o444040000100 [(1, 0o707070707070)] [(0o100, 0o770077007700)] 0, ⟨[(1, 0o700770077007)], [], 0o501, 0,
      .ok⟩),
     (start 0o454040000100 [(1, 0o707070707070)] [(0o100, 0o770077007700)] 0, ⟨[(1, 0o770777077707)], [], 0o501, 0,
      .ok⟩),
     (start 0o464040000100 [(1, 0o707070707070)] [(0o100, 0o770077007700)] 0, ⟨[(1, 0o707770777077)], [], 0o501, 0,
      .ok⟩),
     (start 0o470040000100 [(1, 0o707070707070)] [(0o100, 0o770077007700)] 0, ⟨[(1, 0o77707770777)], [], 0o501, 0,
      .ok⟩),
     (start 0o476000000100 [] [] 0, ⟨[], [(0o100, 0o777777777777)], 0o501, 0, .ok⟩),
     (start 0o405040000777 [(1, 0o707070707070)] [] 0, ⟨[(1, 0o70)], [], 0o501, 0, .ok⟩)] = true := by
  decide +kernel

/-- V90 to V90 of 95_test_vectors.md section 3. -/
theorem test_vectors_boolean_2 : allEnd
    [(start 0o437040000100 [(1, 5)] [(0o100, 0o12)] 0, ⟨[(1, 0o17)], [(0o100, 0o17)], 0o501, 0, .ok⟩)] = true := by
  decide +kernel

/-- V91 to V105 of 95_test_vectors.md section 3. -/
theorem test_vectors_half_left : allEnd
    [(start 0o500040000100 [(1, 0o111111222222)] [(0o100, 0o433333544444)] 0, ⟨[(1, 0o433333222222)], [], 0o501, 0,
      .ok⟩),
     (start 0o504040000100 [(1, 0o111111222222)] [(0o100, 0o433333544444)] 0, ⟨[(1, 0o544444222222)], [], 0o501, 0,
      .ok⟩),
     (start 0o510040000100 [(1, 0o111111222222)] [(0o100, 0o433333544444)] 0, ⟨[(1, 0o433333000000)], [], 0o501, 0,
      .ok⟩),
     (start 0o520040000100 [(1, 0o111111222222)] [(0o100, 0o433333544444)] 0, ⟨[(1, 0o433333777777)], [], 0o501, 0,
      .ok⟩),
     (start 0o530040000100 [(1, 0o111111222222)] [(0o100, 0o433333544444)] 0, ⟨[(1, 0o433333777777)], [], 0o501, 0,
      .ok⟩),
     (start 0o515040000005 [(1, 0o111111222222)] [] 0, ⟨[(1, 0o5000000)], [], 0o501, 0, .ok⟩),
     (start 0o513000000100 [(0, 0o11)] [(0o100, 0o433333544444)] 0, ⟨[(0, 0o11)], [(0o100, 0o433333000000)], 0o501,
      0, .ok⟩)] = true := by
  decide +kernel

/-- V96 to V104 of 95_test_vectors.md section 3. -/
theorem test_vectors_half_right : allEnd
    [(start 0o540040000100 [(1, 0o111111222222)] [(0o100, 0o433333544444)] 0, ⟨[(1, 0o111111544444)], [], 0o501, 0,
      .ok⟩),
     (start 0o544040000100 [(1, 0o111111222222)] [(0o100, 0o433333544444)] 0, ⟨[(1, 0o111111433333)], [], 0o501, 0,
      .ok⟩),
     (start 0o550040000100 [(1, 0o111111222222)] [(0o100, 0o433333544444)] 0, ⟨[(1, 0o544444)], [], 0o501, 0, .ok⟩),
     (start 0o560040000100 [(1, 0o111111222222)] [(0o100, 0o433333544444)] 0, ⟨[(1, 0o777777544444)], [], 0o501, 0,
      .ok⟩),
     (start 0o570040000100 [(1, 0o111111222222)] [(0o100, 0o433333544444)] 0, ⟨[(1, 0o777777544444)], [], 0o501, 0,
      .ok⟩),
     (start 0o574040000100 [(1, 0o111111222222)] [(0o100, 0o433333544444)] 0, ⟨[(1, 0o777777433333)], [], 0o501, 0,
      .ok⟩),
     (start 0o571040400000 [(1, 0)] [] 0, ⟨[(1, 0o777777400000)], [], 0o501, 0, .ok⟩),
     (start 0o542040000100 [(1, 0o111111222222)] [(0o100, 0o433333544444)] 0, ⟨[], [(0o100, 0o433333222222)],
      0o501, 0, .ok⟩)] = true := by
  decide +kernel

/-- V106 to V111 of 95_test_vectors.md section 3. -/
theorem test_vectors_test_none_zero : allEnd
    [(start 0o602040000001 [(1, 2)] [] 0, ⟨[(1, 2)], [], 0o502, 0, .ok⟩),
     (start 0o607040400000 [(1, 0o400000000000)] [] 0, ⟨[(1, 0o400000000000)], [], 0o502, 0, .ok⟩),
     (start 0o624040000017 [(1, 0o123)] [] 0, ⟨[(1, 0o120)], [], 0o502, 0, .ok⟩),
     (start 0o616040000100 [(1, 0o10)] [(0o100, 0o30)] 0, ⟨[(1, 0o10)], [], 0o502, 0, .ok⟩)] = true := by
  decide +kernel

/-- V109 to V112 of 95_test_vectors.md section 3. -/
theorem test_vectors_test_comp_ones : allEnd
    [(start 0o643040000001 [(1, 0)] [] 0, ⟨[(1, 0o1000000)], [], 0o502, 0, .ok⟩),
     (start 0o662040000004 [(1, 4)] [] 0, ⟨[(1, 4)], [], 0o501, 0, .ok⟩),
     (start 0o671040000100 [(1, 0)] [(0o100, 0o1000000)] 0, ⟨[(1, 1)], [], 0o501, 0, .ok⟩)] = true := by
  decide +kernel

/-- V113 to V120 of 95_test_vectors.md section 3. -/
theorem test_vectors_io : allEnd
    [(start 0o700200110043 [] [] 0, ⟨[], [], 0o501, 0, .ok⟩),
     (start 0o700600002224 [] [] 0, ⟨[], [], 0o501, 0, .ok⟩),
     (start 0o700600010000 [] [] 0, ⟨[], [], 0o501, 0, .ok⟩),
     (start 0o701200020001 [] [] 0, ⟨[], [], 0o501, 0, .ok⟩),
     (start 0o701140000100 [] [(0o100, 0o501000000003)] 0, ⟨[], [], 0o501, 0, .ok⟩),
     (start 0o701040000100 [] [(0o100, 0)] 0, ⟨[], [(0o100, 0o500000000000)], 0o501, 0, .ok⟩),
     (start 0o700600002224 [] [(0o424, 0), (0o425, 0), (0o426, 0), (0o434, 0o3000)] 0o10000, ⟨[], [(0o424,
      0o700600002224)], 0o3000, 0o4000, .ok⟩),
     (start 0o700600002224 [] [] 0o14000, ⟨[], [], 0o501, 0o14000, .ok⟩)] = true := by
  decide +kernel

/-- V121, V127, V131, V132, V134, V142, V145 and V150 to V151: floating point. -/
theorem test_vectors_floating : allEnd
    [(start 0o140040000100 [(1, 0o201400000000)] [(0o100, 0o202400000000)] 0, ⟨[(1, 0o202600000000)], [], 0o501, 0, .ok⟩),
     (start 0o170040000100 [(1, 0o201400000000)] [(0o100, 0o203700000000)] 0, ⟨[(1, 0o176444444444)], [], 0o501, 0, .ok⟩),
     (start 0o170040000100 [(1, 0o201400000000)] [(0o100, 0)] 0, ⟨[(1, 0o201400000000)], [], 0o501, 0o440240, .ok⟩),
     (start 0o160040000100 [(1, 0o377777777777)] [(0o100, 0o377777777777)] 0,
      ⟨[(1, 0o176777777776)], [], 0o501, 0o440200, .ok⟩),
     (start 0o122040000100 [] [(0o100, 0o202500000000)] 0, ⟨[(1, 2)], [], 0o501, 0, .ok⟩),
     (start 0o127040000100 [] [(0o100, 0o777777777775)] 0, ⟨[(1, 0o575200000000)], [], 0o501, 0, .ok⟩),
     (start 0o132040000003 [(1, 0o201400000000)] [] 0, ⟨[(1, 0o204400000000)], [], 0o501, 0, .ok⟩),
     (start 0o112040000100 [(1, 0o202600000000)] [(0o100, 0o202600000000), (0o101, 0)] 0,
      ⟨[(1, 0o204440000000), (2, 0)], [], 0o501, 0, .ok⟩),
     (start 0o113040000100 [(1, 0o201400000000)] [(0o100, 0o202600000000), (0o101, 0)] 0,
      ⟨[(1, 0o177525252525), (2, 0o125252525253)], [], 0o501, 0, .ok⟩)] = true := by
  decide +kernel

/-- V153 to V157, and the examples of R560 to R567: strings. -/
theorem test_vectors_strings : allEnd
    [(start 0o123040000100 [(1, 3), (2, 0o440700001000), (4, 5), (5, 0o440700002000)]
        [(0o100, 0o016000000000), (0o101, 0o40), (0o1000, 0o406050300000), (0o2000, 0)] 0,
      ⟨[(1, 0), (2, 0o170700001000), (4, 0), (5, 0o010700002000)], [(0o2000, 0o406050320100)], 0o502, 0, .ok⟩),
     (start 0o123040000100 [(1, 3), (2, 0o440700001000), (4, 2), (5, 0o440700002000)]
        [(0o100, 0o016000000000), (0o101, 0o40), (0o1000, 0o406050300000), (0o2000, 0)] 0,
      ⟨[(1, 1), (2, 0o260700001000), (4, 0), (5, 0o260700002000)], [(0o2000, 0o406040000000)], 0o501, 0, .ok⟩),
     (start 0o123040000100 [] [(0o100, 0o020000000000), (0o424, 0), (0o425, 0), (0o426, 0), (0o430, 0o3000)] 0,
      ⟨[], [(0o424, 0o123040000100)], 0o3000, 0, .ok⟩),
     (start 0o123040000100 [(1, 2), (2, 0o440700001000), (4, 2), (5, 0o440700002000)]
        [(0o100, 0o002000000000), (0o101, 0), (0o102, 0), (0o1000, 0o406040000000), (0o2000, 0o406040000000)] 0,
      ⟨[(1, 0), (2, 0o260700001000), (4, 0), (5, 0o260700002000)], [], 0o502, 0, .ok⟩),
     (start 0o123040000100 [(1, 2), (2, 0o440700001000), (4, 2), (5, 0o440700002000)]
        [(0o100, 0o001000000000), (0o101, 0), (0o102, 0), (0o1000, 0o406040000000), (0o2000, 0o406060000000)] 0,
      ⟨[(1, 0), (2, 0o260700001000), (4, 0), (5, 0o260700002000)], [], 0o502, 0, .ok⟩),
     (start 0o123040000100 [(1, 3), (2, 0o440700001000)] [(0o100, 0o010000777720), (0o1000, 0o305446300000)] 0,
      ⟨[(4, 0), (5, 0o173), (1, 0o400000000000)], [], 0o502, 0, .ok⟩),
     (start 0o123040000100 [(1, 0), (2, 0o173), (4, 3), (5, 0o440700001000)] [(0o100, 0o012000000060), (0o1000, 0)] 0,
      ⟨[(1, 0), (2, 0), (4, 0), (5, 0o170700001000)], [(0o1000, 0o305446300000)], 0o502, 0, .ok⟩)] = true := by
  decide +kernel

/-- EDIT with a SELECT, an insignificant digit replaced by no fill, and a STOP (R556). -/
theorem test_edit : endsAs
    (start 0o123040000100 [(1, 0o2000), (2, 0o440700001000), (5, 0o440700002001)]
      [(0o100, 0o004000003000), (0o101, 0), (0o1000, 0o305440000000), (0o2000, 0o001001000000), (0o2001, 0),
       (0o3030, 0o000000400061), (0o3031, 0o400062000000)] 0)
    ⟨[(1, 0o430000002000), (5, 0o260700002001)], [(0o2001, 0o305440000000)], 0o502, 0, .ok⟩ = true := by
  decide +kernel

/-- V184 to V187: interrupts and a trap from user mode. -/
theorem test_vectors_interrupts : allEnd
    [({ start 0 [] [(0o46, 0o264000001100), (0o1100, 0)] 0o200000 with pi := ⟨true, 0o20, 0, 0o20, 0⟩, pc := 0o1234 },
      ⟨[], [(0o1100, 0o200000001234)], 0o1101, 0, .ok⟩),
     ({ start 0 [] [(0o46, 0o201040000005), (0o1100, 0)] 0o200000 with pi := ⟨true, 0o20, 0, 0o20, 0⟩, pc := 0o1234 },
      ⟨[], [], 0o1234, 0o200000, .stop .illint⟩),
     ({ start 0 [] [(0o1042, 0o264000200000), (0o1700, 0)] 0 with
        pi := ⟨true, 0o100, 0, 0o100, 0⟩, base := { State.reset.base with ebr := ⟨false, true, 1⟩ } },
      ⟨[], [], 0o500, 0, .stop .pagint⟩),
     (start 0o040000000000 [] [(0o436, 0o3000)] 0o012000,
      ⟨[], [(0o424, 0o040000000000), (0o425, 0o012000000501), (0o426, 0o500000000000)], 0o3000, 0o4000, .ok⟩)] = true := by
  decide +kernel

/-- The host's pair of functions: the word is placed and the next step runs it, for one word and for an EXTEND. -/
theorem test_withFetchWord :
    (nextThen (step (State.reset.withFetchWord 36 0o201040000005)) (fun t => t.ac 1 == 5 && t.pc == 0o501) &&
      nextThen (step (State.reset.withFetchWord 72 (0o016000000000 * 2 ^ 36 + 0o123040001000))) (fun t =>
        t.pc == 0o502) &&
      decide (decodeTableWord 36 0o201040000005 = some (.movei 1 ⟨false, 0, 5⟩))) = true := by
  decide +kernel

/-! ### Witnesses: a state and operands that meet the hypotheses of each statement

`demo` has the words of the operands at 0o1000 and in the accumulators; paging is off. Where a statement's conclusion is
decidable the witness checks it too. -/

/-- The address part 0o1000. -/
def fld : EaField := ⟨false, 0, 0o1000⟩

/-- The state of most witnesses. -/
def demo : State :=
  start 0o201040000005 [(1, 0o777776000005), (2, 0o123456701234), (3, 0o12), (4, 0o000100002000)]
    [(0o40, 0), (0o41, 0o201040000007), (0o1000, 0o3), (0o1001, 0o400000000004), (0o1002, 0), (0o1003, 0o2000),
     (0o2000, 0)] 0

/-- The same with `ITS` set. -/
def demoIts : State := { demo with cfg := itsConfig }

/-- The same in user mode without user I/O. -/
def demoUser : State := { demo with flags := { Flags.zero with user := true } }

theorem witness_StepKeepsInvariant : (demo.inv && nextThen (step demo) fun t => t.inv) = true := by decide +kernel

theorem demo_at_fetch : AtFetch demo := by
  constructor <;> decide +kernel

theorem witness_StepRunsDecoded :
    okThen (vread .cur demo.pc { demo with report := .ok, ipc := demo.pc, indCount := 0, xctCount := 0, bkptSkip := false })
      (fun w s1 => nextThen (exec (decode demo.cfg w) { s1 with pc := s1.pc + 1, pxct := 0, inhibit := false }) fun t =>
        t.pending == none && !t.its2pr && nextIs (step demo) { t with pxct := 0, inhibit := false, phase := .fetch }) = true := by
  decide +kernel

theorem witness_StepRunsTarget :
    (let s := demo.setMem 0o500 0o256000000041
     okThen (vread .cur s.pc { s with report := .ok, ipc := s.pc, indCount := 0, xctCount := 0, bkptSkip := false })
      (fun w s1 => nextThen (exec (decode s.cfg w) { s1 with pc := s1.pc + 1, pxct := 0, inhibit := false }) fun t =>
        match t.pending with
        | none => false
        | some p => nextThen (exec (decode s.cfg p.word)
            { t with pending := none, pxct := p.pxct, inhibit := p.inhibit }) fun u =>
          decide (t.cfg = s.cfg) && u.pending == none && !u.its2pr &&
            nextIs (step s) { u with pxct := 0, inhibit := false, phase := .fetch })) = true := by
  decide +kernel

/-- A forced execute in user mode, of the word at 0o41. -/
theorem witness_StepRunsTarget_forced :
    (let s := { demoUser with forcedExec := some 0o41 }
     s.pending == none && decide (s.env.agenda = []) && !s.env.fatal && decide (0o41 < s.cfg.memSize) &&
      match tblGet s.mem 0o41 with
      | none => false
      | some w => nextThen (exec (decode s.cfg w) { s with
          report := .ok, forcedExec := none, ipc := s.pc, phase := .forced, indCount := 0, xctCount := 1, pxct := 0
          inhibit := false }) fun t => t.pending == none && !t.its2pr &&
            nextIs (step s) { t with pxct := 0, inhibit := false, phase := .fetch }) = true := by
  decide +kernel

theorem witness_StepRunsTarget_mode : ({ demoUser with phase := .forced } : State).mayExec = true := by decide +kernel

theorem witness_StepRunsTarget_at_fetch : AtFetch (demo.setMem 0o500 0o256000000041) := by
  constructor <;> decide +kernel

theorem witness_DecodeEncode :
    [Instr.movslj 1 0o777777 f, .muuo 0o777 0o17 f, .adjbp 0o17 f, .jen f, .map 1 f].all (fun i =>
      i.wf Config.default && decide (decodeWords Config.default ((encode i).map BitVec.toNat) = .ok i)) = true := by
  decide +kernel

theorem witness_AccumulatorAlias : (0o17 : VAddr).toNat < 0o20 ∧ (0 : VAddr).toNat < 0o20 := by decide

/-- The three clauses at the first word, the last word and the first word that does not exist. -/
theorem witness_PhysicalMemory :
    (let s := (demo.setMem 0o20 1).setMem 0o77777 2
     !s.base.ebr.pgon && okThen (vread .cur 0o20 s) (fun w _ => w == 1) &&
      okThen (vread .prev 0o77777 s) (fun w _ => w == 2) && decide (s.cfg.memSize = 0o100000) &&
      okThen (vread .cur 0o100000 s) fun w t => w == 0 && decide (t.apr = s.signalNxm.apr)) = true := by
  decide +kernel

theorem witness_OperandFrame :
    (okThen (ea ⟨true, 0, 0o1003⟩ demo) (fun e _ => e == 0o2000) && okThen (vread .cur 0o1000 demo) (fun _ _ => true) &&
      okThen (vreadM .cur 0o1000 demo) (fun _ _ => true) && okThen (vwrite .cur 0o1000 5 demo) (fun _ _ => true) &&
      okThen (translate (demo.space .cur) .write 0o1000 demo) fun pa _ => pa == 0o1000) = true := by
  decide +kernel

/-- The I/O subsystem requests level 7 at the next checkpoint. -/
def calling : State :=
  { demo with
    indCount := 1
    pi := ⟨true, 0o177, 0, 0, 0⟩
    env := { demo.env with agenda := [[.ioRequest 1]], arrivals := [true] } }

/-- A direct address; the last indirection within `IND_MAX`; the first beyond it. -/
theorem witness_EffectiveAddress :
    (let s := { demo with cfg := { demo.cfg with indMax := 1 } }
     okThen (ea ⟨false, 3, 0o777777⟩ s) (fun e _ => e == 0o11) && s.piPending == 0 &&
      okThen (vread .cur 0o1003 { s with indCount := s.indCount + 1 }) (fun _ _ => true) &&
      decide (0 + 1 ≤ s.cfg.indMax) && decide (s.cfg.indMax < 1 + 1) &&
      !calling.piCycle && { calling with indCount := 2 }.arrival && calling.piPending == 0) = true := by
  decide +kernel

/-- R95, R312: the indirection of E and that of the byte pointer add up in `ind_count`, and each is the first of its own
calculation to `IND_MAX`; a second one in the pointer's is beyond it (log entry 30). -/
theorem test_ind_count_of_instruction :
    (let s (y : Word) := { (demo.setMem 0o1002 0o1001).setMem 0o1001 (0o000620000000 ||| y) with
       cfg := { demo.cfg with indMax := 1 } }
     nextThen (exec (.ldb 1 ⟨true, 0, 0o1002⟩) (s 0o1003)) (fun t => t.report == .ok && t.indCount == 2 && t.ac 1 == 0) &&
      nextThen (exec (.ldb 1 ⟨true, 0, 0o1002⟩) ((s 0o2000).setMem 0o2000 0o000020001003)) fun t =>
        t.report == .stop .ind && t.indCount == 3) = true := by
  decide +kernel

/-- R629: the corner R634's note would refuse, a negative dividend of magnitude just below the limit (log entry 49). -/
theorem test_div_corner : div72 Config.default 0o777777777775 1 3 = some (0o400000000001, 0o777777777776) ∧
    div72 Config.default 0o777777777775 0 3 = none := by
  decide +kernel

/-- Paging on under TOPS-10, the user page map at 0o2000: page 0o10 writable, 0o11 read-only, 0o12 absent. -/
def paged : State :=
  { (demo.setMem 0o2004 0o540010440011).setMem 0o2005 0 with
    flags := { Flags.zero with user := true }
    base := { demo.base with ebr := ⟨false, true, 1⟩, ubr := ⟨0, 0, 2⟩ } }

/-- Pages not cached, and page 0o10 cached not writable and written. -/
theorem witness_Tops10Translation :
    (let cached := paged.setTlb true 0o10 ⟨0o10, false⟩
     paged.base.ebr.pgon && !paged.cfg.its && !paged.base.ebr.t20 && paged.cfg.wf &&
      [0o10, 0o11, 0o12].all (fun v => tblGet (paged.cache.table true) v == none &&
        decide (paged.t10Pair true v < paged.cfg.memSize) && (tblGet paged.mem (paged.t10Pair true v)).isSome) &&
      okThen (translate true .write 0o10777 paged) (fun pa _ => pa == 0o10777) &&
      okThen (translate true .write 0o10777 cached) (fun pa t => pa == 0o10777 &&
        decide (tblGet (t.cache.table true) 0o10 = some ⟨0o10, true⟩)) &&
      okThen (translate true .read 0o11000 paged) (fun pa _ => pa == 0o11000) &&
      !okThen (translate true .write 0o11000 paged) (fun _ _ => true) &&
      !okThen (translate true .read 0o12000 paged) fun _ _ => true) = true := by
  decide +kernel

/-- R161 to R163, R166, R169, R200 with paging on: both spaces, the last word of memory, a read-only page, an absent one, and
the first word that does not exist. -/
theorem witness_PhysicalMemory_paged :
    (let s := (((paged.setMem 0o10000 7).setMem 0o11000 5).setTlb true 0o13 ⟨0o77, true⟩).setTlb true 0o14 ⟨0o100, true⟩
     let x := s.setTlb false 0o10 ⟨0o11, true⟩
     s.base.ebr.pgon && decide (s.cfg.memSize = 0o100000) && s.space .cur && !x.space .execv &&
      okThen (translate true .read 0o10000 s) (fun pa t => pa == 0o10000 && tblGet t.mem pa == some 7) &&
      okThen (vread .cur 0o10000 s) (fun w _ => w == 7) && okThen (vread .execv 0o10000 x) (fun w _ => w == 5) &&
      okThen (vreadM .cur 0o10000 s) (fun w t => w == 7 &&
        decide (tblGet (t.cache.table true) 0o10 = some ⟨0o10, true⟩)) &&
      okThen (translate true .write 0o13777 s) (fun pa _ => pa == 0o77777) &&
      okThen (vwrite .cur 0o13777 9 s) (fun _ t => tblGet t.mem 0o77777 == some 9) &&
      okThen (vread .cur 0o11000 s) (fun w _ => w == 5) &&
      abortThen (translate true .write 0o11000 s) (fun a _ => a == .pageFail) &&
      abortThen (vreadM .cur 0o11000 s) (fun a _ => a == .pageFail) &&
      abortThen (vread .cur 0o12000 s) (fun a _ => a == .pageFail) &&
      [AccMode.read, .write].all (fun mode => okThen (translate true mode 0o14000 s) fun pa _ => pa == 0o100000) &&
      [abortThen (vread .cur 0o14000 s), abortThen (vreadM .cur 0o14000 s), abortThen (vwrite .cur 0o14000 1 s),
        abortThen (readP true 0o100000 s), abortThen (writeP true 0o100000 1 s)].all fun r =>
          r fun a t => a == .pageFail && t.pagerWord == 0o770000100000 && t.apr.flg == 0o20) = true := by
  decide +kernel

/-- Paging on under TOPS-20, in user mode with the UPT at 0o11000, the SPT at 0o13000 and the CST at 0o14000: page 0o20
mapped by an immediate pointer, 0o21 read-only, 0o22 shared, 0o23 indirect, 0o24 none and 0o25 of age 0. -/
def paged20 : State :=
  { ([(0o11540, 0o124000000012), (0o12020, 0o124000000013), (0o12021, 0o104000000014), (0o12022, 0o224000000005),
      (0o12023, 0o324007000006), (0o12024, 0), (0o12025, 0o124000000020), (0o13005, 0o15), (0o13006, 0o16),
      (0o14013, 0o100000000000), (0o14014, 0o100000000000), (0o14015, 0o100000000000), (0o14017, 0o100000000000),
      (0o14020, 0), (0o16007, 0o124000000017)] : List (Nat × Word)).foldl (fun s p => s.setMem p.1 p.2) demo with
    flags := { Flags.zero with user := true }
    base := { demo.base with
      ebr := ⟨true, true, 0o10⟩, ubr := ⟨0, 0, 0o11⟩, spb := 0o13000, csb := 0o14000, cstm := 0o777777777777, pur := 0o400 } }

/-- The pointers of `paged20` resolve by type: immediate, shared, indirect, and none. -/
theorem witness_PagedTranslation_pointers :
    ([(0o12020, some ⟨0o13, true, true⟩), (0o12021, some ⟨0o14, false, true⟩), (0o12022, some ⟨0o15, true, true⟩),
      (0o12023, some ⟨0o17, true, true⟩), (0o12024, none)] : List (Nat × Option PageRef)).all (fun p =>
        match tblGet paged20.mem p.1 with
        | none => false
        | some ptr => [AccMode.read, .map].all fun mode =>
          okThen (resolve true mode 3 0 ptr true true paged20) fun r _ => r == p.2) = true := by
  decide +kernel

/-- The section pointer found and cached, a bad one, and the pages: a read, a write, and what fails. -/
theorem witness_PagedTranslation :
    (!paged20.cfg.t20CstTables && paged20.cache.sect true == none && tblGet paged20.mem 0o11540 == some 0o124000000012 &&
      okThen (sectionRef true .read 0o20000 paged20) (fun r s1 => s1.cache.sect true == some r && r.ppn == 0o12 &&
        okThen (pageRef true .read 0o20000 r s1) fun pg s2 => pg == some ⟨0o13, true, true⟩ &&
          tblGet s2.mem 0o14013 == some 0o100000000000) &&
      !okThen (sectionRef true .read 0o20000 (paged20.setMem 0o11540 0)) (fun _ _ => true) &&
      okThen (translate true .read 0o20000 paged20) (fun pa t => pa == 0o13000 &&
        tblGet t.mem 0o14013 == some 0o100000000400 &&
        decide (tblGet (t.cache.table true) 0o20 = some ⟨0o13, false⟩)) &&
      okThen (translate true .write 0o20777 paged20) (fun pa t => pa == 0o13777 &&
        tblGet t.mem 0o14013 == some 0o100000000401 &&
        decide (tblGet (t.cache.table true) 0o20 = some ⟨0o13, true⟩)) &&
      okThen (translate true .read 0o21000 paged20) (fun pa _ => pa == 0o14000) &&
      !okThen (translate true .write 0o21000 paged20) (fun _ _ => true) &&
      [0o24000, 0o25000].all fun va => !okThen (translate true .read va paged20) fun _ _ => true) = true := by
  decide +kernel

/-- R173: the indirect pointer of page 0o23 at `IND_MAX` and beyond it, and with an interrupt that comes there; the same
as the section pointer; a reference leaves in the same way. -/
theorem witness_PagedTranslation_indirect :
    (let s := { paged20 with cfg := { paged20.cfg with indMax := 1 } }
     let u := { paged20 with pi := calling.pi, env := calling.env }
     let v := u.setMem 0o11540 0o324000000006
     let r (n : Nat) (s : State) := resolve true .read 3 n 0o324007000006 true true s
     !s.cfg.t20CstTables && s.base.spb.toNat + 6 == 0o13006 && tblGet s.mem 0o13006 == some 0o16 && !u.piCycle &&
      ({ u with indCount := u.indCount + 1 } : State).arrival && okThen (r 0 s) (fun p _ => p.isSome) &&
      abortThen (r 1 s) (fun a t => a == .stop .ind && t.indCount == s.indCount + 1) &&
      abortThen (r 0 u) (fun a t => a == .reenter && t.indCount == u.indCount + 1 && t.env.arrivals.isEmpty) &&
      abortThen (r 0 { paged20 with pi := ⟨true, 0o177, 0, 1, 0⟩ }) (fun a _ => a == .reenter) &&
      okThen (sectionRef true .read 0o23000 u) (fun p s1 =>
        abortThen (pageRef true .read 0o23000 p s1) fun a _ => a == .reenter) &&
      abortThen (sectionRef true .read 0o20000 v) (fun a _ => a == .reenter) &&
      [(u, (0o23000 : VAddr)), (v, 0o20000)].all fun p =>
        abortThen (translate true .read p.2 p.1) fun a _ => a == .reenter) = true := by
  decide +kernel

/-- R187, R200: the status word, written out by hand, of an absent page read and written, of a page of age 0, of a bad
section pointer, of a write to a read-only page, and of a read and a write that succeed. -/
theorem witness_PagedTranslation_status :
    (paged20.cfg.pfwLayout == .standard &&
      ([(AccMode.read, 0o24000, 0o400000024000), (.write, 0o24000, 0o400040024000), (.read, 0o25000, 0o400000025000),
        (.write, 0o21000, 0o510040021000)] : List (AccMode × VAddr × Word)).all (fun p =>
          abortThen (translate true p.1 p.2.1 paged20) fun a t => a == .pageFail && t.pagerWord == p.2.2) &&
      abortThen (translate true .read 0o20000 (paged20.setMem 0o11540 0)) (fun _ t => t.pagerWord == 0o400000020000) &&
      ([(AccMode.read, 0o20000, 0o550000020000), (.write, 0o20777, 0o570040020777)] : List (AccMode × VAddr × Word)).all
        fun p => okThen (translate true p.1 p.2.1 paged20) fun _ t => t.pagerWord == p.2.2) = true := by
  decide +kernel

/-- Paging on under ITS: ITS page 8 writable with its age bit set, page 9 read-only, page 10 absent. -/
def pagedIts : State :=
  { (demoIts.setMem 0o10004 0o700005300006).setMem 0o10005 0 with
    flags := { Flags.zero with user := true }
    base := { demo.base with ebr := ⟨false, true, 0⟩, dbr1 := 0o10000 } }

theorem witness_PagedTranslation_its :
    (pagedIts.cfg.wf && okThen (translate true .write 0o21777 pagedIts) (fun pa t => pa == 0o13777 &&
        tblGet t.mem 0o10004 == some 0o600005300006 && decide (tblGet (t.cache.table true) 0o21 = some ⟨0o13, true⟩)) &&
      okThen (translate true .read 0o22000 pagedIts) (fun pa t => pa == 0o14000 &&
        tblGet t.mem 0o10004 == some 0o700005200006) &&
      [(AccMode.write, (0o22000 : VAddr)), (.read, 0o24000)].all fun p => !okThen (translate true p.1 p.2 pagedIts) fun _ _ =>
        true) = true := by
  decide +kernel

/-- A page first read, so cached not writable, and then written: under TOPS-20 the refill sets M in the CST, or page-fails on
a read-only page; under ITS the entry of a page that the map now permits writing, and of one it does not. -/
theorem witness_PagedTranslation_cached :
    ([(0o20000, 0o14013, true), (0o21000, 0o14014, false)].all (fun p => okThen (translate true .read p.1 paged20) fun _ s =>
        decide ((tblGet (s.cache.table true) (vpnOf p.1)).map TlbEntry.writable = some false) &&
        okThen (sectionRef true .write p.1 s) (fun r s1 => okThen (pageRef true .write p.1 r s1) fun pg _ => pg.isSome) &&
        if p.2.2 then okThen (translate true .write p.1 s) (fun _ t => tblGet t.mem p.2.1 == some 0o100000000401)
        else !okThen (translate true .write p.1 s) fun _ _ => true) &&
      (let s := (pagedIts.setTlb true 0o20 ⟨0o12, false⟩).setTlb true 0o21 ⟨0o13, false⟩
       okThen (translate true .write 0o21777 s) (fun pa t => pa == 0o13777 &&
         decide (tblGet (t.cache.table true) 0o20 = some ⟨0o12, true⟩)) &&
       !okThen (translate true .write 0o22000 (pagedIts.setTlb true 0o22 ⟨6, false⟩)) fun _ _ => true)) = true := by
  decide +kernel

theorem witness_WriteNeedsWritablePage :
    (paged.base.ebr.pgon && okThen (translate true .write 0o10000 paged) fun pa t =>
      decide (tblGet (t.cache.table true) 0o10 = some ⟨0o10, true⟩) && pa == 0o10000) = true := by
  decide +kernel

/-- R91, R170: a page cached elsewhere than its map says is translated by the cached entry. -/
theorem witness_WriteNeedsWritablePage_cached :
    (let s := paged.setTlb true 0o10 ⟨0o3, true⟩
     s.base.ebr.pgon && decide (tblGet (s.cache.table true) (vpnOf 0o10005) = some ⟨0o3, true⟩) &&
      [AccMode.read, .write, .map].all fun mode => okThen (translate true mode 0o10005 s) fun pa _ => pa == 0o3005) = true := by
  decide +kernel

theorem witness_PendingLevel :
    (({ demo with pi := ⟨true, 0o177, 0, 0o100, 0⟩ } : State).piPending,
      ({ demo with pi := ⟨true, 0o177, 0, 1, 0⟩ } : State).piPending) = (1, 7) := by
  decide +kernel

/-- A state in which level 7 is granted, with a word in its cell and a block at 0o20. -/
def granted (w : Word) : State :=
  { ((((demo.setMem 0o56 w).setMem 0o20 0).setMem 0o21 0).setMem 0o22 0o012000000000).setMem 0o23 0o3000 with
    pi := ⟨true, 1, 0, 1, 0⟩ }

/-- JSR 20, XPCW 20 and JRST 20 in the cell of level 7. -/
theorem witness_InterruptEntry :
    ([(0o264000000020 : Word), 0o254340000020, 0o254000000020].all fun w =>
      let s := granted w
      s.pending == none && decide (s.env.agenda = []) && !s.env.fatal && s.forcedExec == none && s.piPending == 7 &&
        !s.deviceOnly 7 && !s.base.ebr.pgon && decide (s.piCell 7 < s.cfg.memSize) &&
        tblGet s.mem (s.piCell 7) == some w && decide ((rh w).toNat + 3 < s.cfg.memSize) &&
        nextThen (step s) fun t => t.pi.act == 1) = true := by
  decide +kernel

/-- A vectored request of level 7 with a word of the vector table, the vector being 8. -/
def vectored (tbl : Word) : State :=
  { (((((demo.setMem 0o20 0).setMem 0o103 tbl).setMem 1 0o264000000020).setMem 0o3002 0o264000000020)) with
    pi := ⟨true, 1, 0, 0, 1⟩, env := { demo.env with vectors := [some (3, 0o10)] } }

/-- A table in memory, one whose sum wraps at PA_WIDTH, and a pointer of 0, which is ZERVEC. -/
theorem witness_InterruptEntry_vectored :
    ([(0o3000 : Word), 0o3777777, 0].all fun tbl =>
      let s := vectored tbl
      s.piPending == 7 && s.deviceOnly 7 && tblGet s.mem (s.ept + 0o100 + 3) == some tbl &&
        nextThen (step s) fun t => t.pi.act == 1 && !t.piCycle &&
          (if tbl = 0 then t.report == .stop .zervec && t.pc == s.pc
            else t.report == .ok && t.pc == 0o21 && tblGet t.mem 0o20 == some s.flpc)) = true := by
  decide +kernel

/-- With paging on: a cell beyond the memory, and a JSR into a page that is absent. -/
theorem witness_InterruptEntry_paged :
    (let s := { ((demo.setMem 0o1056 0o264000200000).setMem 0o1700 0) with
       pi := ⟨true, 1, 0, 1, 0⟩, base := { demo.base with ebr := ⟨false, true, 1⟩ } }
     let u := { s with base := { s.base with ebr := ⟨false, true, 0o177⟩ } }
     s.piPending == 7 && !s.deviceOnly 7 && decide (s.piCell 7 < s.cfg.memSize) &&
      tblGet s.mem (s.t10Pair false (vpnOf 0o200000)) == some 0 && tblGet s.cache.tlbExec (vpnOf 0o200000) == none &&
      nextThen (step s) (fun t => t.report == .stop .pagint && t.pi.act == 1) && decide (u.cfg.memSize ≤ u.piCell 7) &&
      nextThen (step u) fun t => t.report == .stop .trpnxm) = true := by
  decide +kernel

/-- JSR and XPCW at the accumulators, and JSR into a page that is mapped writable: the references of the executive space
succeed, and the step ends as they do. -/
theorem witness_InterruptEntry_references :
    ([(0o264000000005, false), (0o254340000000, false), (0o264000200003, true)] : List (Word × Bool)).all (fun p =>
      let s := { (if p.2 then (demo.setMem 0o1056 p.1).setMem 0o1700 0o500010000000 else demo.setMem 0o56 p.1) with
        pi := ⟨true, 1, 0, 1, 0⟩, base := { demo.base with ebr := ⟨false, p.2, if p.2 then 1 else 0⟩ } }
      let k := { s with report := .ok, pi := { s.pi with act := s.pi.act ||| lvbit 7 }, indCount := 0, piCycle := true }
      s.piPending == 7 && !s.deviceOnly 7 && tblGet s.mem (s.piCell 7) == some p.1 &&
        if opField p.1 = 0o264 then okThen (vwrite .execv (rh p.1) s.flpc { k with flags := Flags.zero }) fun _ u =>
          nextIs (step s) { u with pc := rh p.1 + 1, piCycle := false } && u.piCycle &&
            (if p.2 then tblGet u.mem 0o10003 == some s.flpc else u.ac 5 == s.flpc)
        else okThen (vwrite .execv 0 (xwd s.flags.toHalf 0) k) fun _ u1 => okThen (vwrite .execv 1 (xwd 0 s.pc) u1) fun _ u2 =>
          okThen (vread .execv 2 u2) fun f u3 => okThen (vread .execv 3 u3) fun w u4 =>
            nextIs (step s) { u4 with
              pc := rh w, piCycle := false, its1pr := u4.its1pr || (u4.cfg.its && (lh f).getLsbD 9)
              flags := { Flags.ofHalf (lh f) with afi := (lh f).getLsbD 9 && !u4.cfg.its } }) = true := by
  decide +kernel

/-- R1212: level 3 of LVL, with a flag set and enabled. -/
theorem witness_InterruptEntry_apr :
    [(⟨2, 2, 3⟩, 0o020), (⟨2, 2, 0⟩, 0), (⟨2, 1, 3⟩, 0)].all (fun p =>
      ({ demo with apr := p.1 } : State).piAprq == p.2) = true := by
  decide +kernel

/-- TOPS-10 cells, TOPS-20 cells, and ITS cells with the 1-proceed latch and request set. -/
theorem witness_PageFailEntry :
    (let s := (demo.setMem 0o502 0o3000).setMem 0o503 0o010000003000
     let t20 := { s with base := { s.base with ebr := ⟨true, true, 0⟩ } }
     let its := { demoIts.setMem 0o442 0o001000003000 with its1pr := true, its2pr := true }
     !s.inhibit && decide (s.cfg.pfT10 = Config.default.pfT10) &&
      nextThen (abortOutcome .pageFail s) (fun t => t.pc == 0o3000 && t.report == .pageFail) &&
      nextThen (abortOutcome .pageFail t20) (fun t => t.pc == 0o3000 && t.flags.user) &&
      nextThen (abortOutcome .pageFail its) fun t => tblGet t.mem 0o441 == some 0o001000000500 && !t.its2pr && t.its1pr &&
        !t.flags.afi) = true := by
  decide +kernel

/-- Other cells and formats than the default ones (D44, D48, D51). -/
def otherCells : Config :=
  { Config.default with
    pfT10 := ⟨[(0o600, .pc), (0o601, .flags), (0o602, .status)], 0o604⟩
    muuoT10 := [(0o610, .e), (0o611, .flagsOpcode)]
    muuoNew := #v[0o620, 0o621, 0o622, 0o623, 0o624, 0o625, 0o626, 0o627]
    its1prOld := 0o630
    its1prNew := 0o640 }

theorem witness_PageFailEntry_cells :
    (let s := { demo.setMem 0o604 0o3000 with cfg := otherCells, flags := Flags.ofHalf 0o400000, pagerWord := 5 }
     nextThen (abortOutcome .pageFail s) fun t => t.pc == 0o3000 && tblGet t.mem 0o600 == some 0o500 &&
       tblGet t.mem 0o601 == some 0o400000000000 && tblGet t.mem 0o602 == some 5) = true := by
  decide +kernel

/-- The cells of executive and user mode and the odd cell of a trap, under TOPS-10, TOPS-20 and ITS with the latch set. -/
theorem witness_MuuoEntry :
    ([demo.setMem 0o430 0o3000, demoUser.setMem 0o434 0o3000, { demo.setMem 0o431 0o3000 with phase := .trap },
      { demo.setMem 0o430 0o3000 with base := { demo.base with ebr := ⟨true, false, 0⟩ } },
      { demoIts.setMem 0o430 0o3000 with its2pr := true }].all fun s =>
      okThen (ea fld s) (fun _ s1 => !s.cfg.stopOnOp0 && decide (s.cfg.muuoT10 = Config.default.muuoT10) &&
        decide (s.cfg.muuoT20 = Config.default.muuoT20) && decide (s.cfg.muuoNew = Config.default.muuoNew) &&
        decide (s.upt + 0o440 ≤ s.cfg.memSize) &&
        tblGet s1.mem (s.upt + 0o430 + 4 * s.flags.user.toNat + 2 * s.flags.pub.toNat +
          (if s.phase = .trap then 1 else 0)) == some 0o3000 &&
        nextThen (exec (.muuo 0o040 1 fld) s) fun t => t.pc == 0o3000 && !t.its2pr)) = true := by
  decide +kernel

/-- Other cells, each of the eight new-PC cells, and opcode 0 under STOP_ON_OP0. -/
theorem witness_MuuoEntry_cells :
    ((List.range 8).all (fun k =>
      let s := { demo.setMem (0o620 + k) 0o3000 with
        cfg := otherCells, phase := if k % 2 = 1 then .trap else .fetch
        flags := { Flags.zero with user := decide (4 ≤ k), pub := decide (k / 2 % 2 = 1) } }
      okThen (ea fld s) fun _ _ => nextThen (exec (.muuo 0o040 1 fld) s) fun t => t.pc == 0o3000 &&
        tblGet t.mem 0o610 == some 0o1000 && tblGet t.mem 0o611 == some (xwd s.flags.toHalf 0o040040)) &&
     (let s := { demo with cfg := { demo.cfg with stopOnOp0 := true }, ipc := 0o477 }
      nextThen (exec (.muuo 0 1 fld) s) fun t => t.report == .stop .illeg && t.pc == 0o477)) = true := by
  decide +kernel

/-- R433: opcode 0 with an indirect address under STOP_ON_OP0 leaves pager and counts as they were. -/
theorem test_illeg_undoes_ea :
    (let s := { paged20.setMem 0o13000 0 with cfg := { paged20.cfg with stopOnOp0 := true }, ipc := 0o477 }
     okThen (ea ⟨true, 0, 0o20000⟩ s) (fun _ t => tblGet t.mem 0o14013 == some 0o100000000400 && t.indCount == 1) &&
      nextThen (exec (.muuo 0 1 ⟨true, 0, 0o20000⟩) s) fun t => t.report == .stop .illeg && t.pc == 0o477 &&
        decide (t.mem = s.mem) && decide (t.cache = s.cache) && t.indCount == 0 && t.pagerWord == s.pagerWord) = true := by
  decide +kernel

theorem witness_ArithmeticTrap :
    (let s := { demo.setMem 0o1421 0o201040000007 with
       flags := { Flags.zero with trap1 := true }, base := { demo.base with ebr := ⟨false, true, 1⟩ } }
     let s' := { demo.setMem 0o1423 0o201040000007 with
       flags := { Flags.zero with trap1 := true, trap2 := true }, base := { demo.base with ebr := ⟨false, true, 1⟩ } }
     [s, s'].all fun s => s.pending == none && decide (s.env.agenda = []) && !s.env.fatal && s.forcedExec == none &&
      s.piPending == 0 && s.base.ebr.pgon && decide (s.trapCell < s.cfg.memSize) &&
      match tblGet s.mem s.trapCell with
      | none => false
      | some w =>
        nextThen (exec (decode s.cfg w) { s with
          flags := { s.flags with trap1 := false, trap2 := false }, report := .ok, ipc := s.pc, phase := .trap
          indCount := 0, xctCount := 1, pxct := 0, inhibit := false }) fun t =>
            t.pending == none && !t.its2pr && nextIs (step s) { t with pxct := 0, inhibit := false, phase := .fetch }) = true := by
  decide +kernel

/-- R1220, R1240: the default cells in executive and user mode. -/
theorem witness_ArithmeticTrap_cell :
    ([(false, true, false, 0o2421), (true, false, true, 0o5422), (true, true, true, 0o5423)].all fun p =>
      let s := { demo with
        flags := { Flags.zero with user := p.1, trap1 := p.2.1, trap2 := p.2.2.1 }
        base := { demo.base with ebr := ⟨false, true, 2⟩, ubr := ⟨0, 0, 5⟩ } }
      decide (s.trapCell = p.2.2.2) && decide (s.piCell 7 = 0o2056)) = true := by
  decide +kernel

/-- The request clear, and set again by the instruction that completed; the default cells and others. -/
theorem witness_OneProceed :
    ([false, true].all fun again => [(itsConfig, 0o432, 0o433), ({ otherCells with its := true }, 0o630, 0o640)].all fun c =>
      let s := { demoIts.setMem c.2.2 0o011000003000 with its2pr := true, its1pr := again, cfg := c.1 }
      s.phase == .fetch && s.report == .ok && s.pending == none && decide (s.upt + s.cfg.its1prOld = c.2.1) &&
        decide (s.upt + s.cfg.its1prNew = c.2.2) &&
        nextThen (settle s) fun t => t.pc == 0o3000 && t.flags.user && !t.flags.afi && t.its1pr &&
          tblGet t.mem c.2.1 == some (if again then 0o001000000500 else 0o500)) = true := by
  decide +kernel

/-- A step that begins with the request, or with the latch already held: MOVE, then the trap. -/
theorem witness_OneProceed_step :
    ([(true, false), (false, true), (true, true)].all fun p =>
      let s := { demoIts.setMem 0o433 0o011000003000 with its1pr := p.1, its2pr := p.2, flags := Flags.zero }
      s.pending == none && decide (s.env.agenda = []) && !s.env.fatal && s.forcedExec == none && s.piPending == 0 &&
        !s.trapDue && decide (s.pc ∉ s.breakpoints) && s.phase == .fetch &&
        okThen (vread .cur s.pc { s with
          report := .ok, ipc := s.pc, indCount := 0, xctCount := 0, its2pr := true, its1pr := false, bkptSkip := false })
        fun w s1 => nextThen (exec (decode s.cfg w) { s1 with pc := s1.pc + 1, pxct := 0, inhibit := false }) fun t =>
          t.pending == none && t.its2pr && t.phase == .fetch && t.report == .ok && t.pc == s.pc + 1 &&
            decide (t.upt + t.cfg.its1prOld = 0o432) && decide (t.upt + t.cfg.its1prNew = 0o433) &&
            nextThen (step s) fun u => !u.its2pr && u.pc == 0o3000 && u.its1pr && u.flags.user && u.acb == t.acb &&
              tblGet u.mem 0o432 == some (xwd t.flags.toHalf t.pc)) = true := by
  decide +kernel

/-- User mode, and a forced execute while USER is set (R65). -/
theorem witness_RestoreKeepsUserMode :
    (demoUser.flags.user && demoUser.report == .ok && nextThen (exec (.jrstf ⟨false, 2, 0⟩) demoUser) (fun t =>
      t.report == .ok && t.flags.user) && nextThen (exec (.xjrstf fld) demoUser) (fun t =>
        t.report == .ok && t.flags.user && !t.flags.uio) &&
      (let s := { demoUser with phase := .forced }
       s.mayIo && s.mayExec && nextThen (exec (.jen ⟨false, 3, 0⟩) s) (fun t => t.report == .ok && t.flags.user) &&
        nextThen (exec (.xjen fld) s) fun t => t.report == .ok && t.flags.user)) = true := by
  decide +kernel

theorem witness_Privilege :
    (!demoUser.mayIo && !demoUser.mayExec && okThen (ea fld demoUser) (fun _ _ => true) &&
      !demo.cfg.its && decide (encode (.rdpi fld) = [pack 0o700 0o15 fld]) && decide (encode (.muuo 0o777 0 fld) = [pack 0o777 0 fld])) =
        true := by
  decide +kernel

/-- Every instruction of one discipline under the other, and XJRST where it does not exist. -/
theorem witness_Privilege_gates :
    ([demo.setMem 0o430 0o3000, demoIts.setMem 0o430 0o3000].all (fun s => okThen (ea fld s) (fun _ _ => true) &&
        gatedForms.all fun p => p.2 == s.cfg.its || (match encode (p.1 1 fld) with
          | [w] => decide (w = pack (opField w) (acField w) fld) && nextThen (exec (p.1 1 fld) s) fun t => t.pc == 0o3000
          | _ => false)) &&
      nextThen (exec (.xjrst fld) (demo.setMem 0o430 0o3000)) (fun t => t.pc == 0o3000) &&
      !demo.cfg.its && !demo.cfg.xjrstAlways && demoIts.cfg.its && gatedForms.length == 45) = true := by
  decide +kernel

theorem witness_LoadForms : okThen (ea fld demo) (fun e s1 => okThen (rdE e s1) fun w s2 =>
    loadForms.all fun p => nextIs (exec (p.1 1 fld) demo) (s2.setAc 1 (p.2 (demo.ac 1) w))) = true := by
  decide +kernel

theorem witness_ImmediateForms : okThen (ea fld demo) (fun e s1 =>
    immediateForms.all (fun p => nextIs (exec (p.1 1 fld) demo) (s1.setAc 1 (p.2 (demo.ac 1) (xwd 0 e)))) &&
      acOnlyForms.all fun p => nextIs (exec (p.1 1 fld) demo) (s1.setAc 1 (p.2 (demo.ac 1)))) = true := by
  decide +kernel

theorem witness_ModifyForms : okThen (ea fld demo) (fun e s1 => okThen (rdmE e s1) fun w s2 =>
    modifyForms.all (fun p => okThen (wrE e (p.2 (demo.ac 1) w) s2) fun _ t => nextIs (exec (p.1 1 fld) demo) t) &&
      bothForms.all fun p => okThen (wrE e (p.2 (demo.ac 1) w) s2) fun _ t =>
        nextIs (exec (p.1 1 fld) demo) (t.setAc 1 (p.2 (demo.ac 1) w))) = true := by
  decide +kernel

theorem witness_StoreForms : okThen (ea fld demo) (fun e s1 =>
    storeForms.all (fun p => okThen (wrE e (p.2 (demo.ac 1)) s1) fun _ t => nextIs (exec (p.1 1 fld) demo) t) &&
      storeBothForms.all fun p => okThen (wrE e (p.2 (demo.ac 1)) s1) fun _ t =>
        nextIs (exec (p.1 1 fld) demo) (t.setAc 1 (p.2 (demo.ac 1)))) = true := by
  decide +kernel

theorem witness_SelfForms : okThen (ea fld demo) (fun e s1 => okThen (rdmE e s1) fun w s2 =>
    selfForms.all fun p => okThen (wrE e (p.2 w) s2) fun _ t =>
      nextIs (exec (p.1 0 fld) demo) t && nextIs (exec (p.1 1 fld) demo) (t.setAc 1 (p.2 w))) = true := by
  decide +kernel

theorem witness_TestForms : okThen (ea fld demo) (fun e s1 => okThen (rdE e s1) fun w s2 =>
    testImmediateForms.all (fun p =>
      let t := s1.setAc 1 (p.2.2.1 (demo.ac 1) (p.2.1 e))
      nextIs (exec (p.1 1 fld) demo) (if p.2.2.2 (demo.ac 1 &&& p.2.1 e) then t.setPc (t.pc + 1) else t)) &&
    testMemoryForms.all fun p =>
      let t := s2.setAc 1 (p.2.2.1 (demo.ac 1) (p.2.1 w))
      nextIs (exec (p.1 1 fld) demo) (if p.2.2.2 (demo.ac 1 &&& p.2.1 w) then t.setPc (t.pc + 1) else t)) = true := by
  decide +kernel

/-- AC less than the operand, equal to it and greater than it, for CAM; the other groups meet the same reads. -/
theorem witness_CompareForms : (okThen (ea fld demo) (fun e s1 => okThen (rdE e s1) fun w _ =>
      decide (signed (demo.ac 1) < signed w) && decide (signed (demo.ac 3) > signed w) &&
        decide (signed ((demo.setAc 5 3).ac 5) = signed w) && decide ((e.toNat : Int) = 0o1000))) = true := by
  decide +kernel

theorem witness_StepCompareForms : (okThen (ea fld demo) (fun e s1 => okThen (rdmE e s1) fun w s2 =>
      okThen (wrE e (add36 w 1 false).word s2) fun _ _ => decide (signed (add36 (demo.ac 1) 1 false).word < 0) &&
        decide (signed (add36 w 0o777777777777 false).word > 0))) = true := by
  decide +kernel

theorem witness_ArithmeticToAc : okThen (ea fld demo) (fun e s1 => okThen (rdE e s1) fun w s2 =>
    loadFlagForms.all (fun p =>
      nextIs (exec (p.1 1 fld) demo) ((s2.setAc 1 (p.2 (demo.ac 1) w).word).orFlags (p.2 (demo.ac 1) w).flags)) &&
    nextIs (exec (.fltr 1 fld) demo)
      ((s2.setAc 1 (floatedNum demo.cfg w).word).orFlags (floatedNum demo.cfg w).flags) &&
    immediateFlagForms.all fun p => nextIs (exec (p.1 1 fld) demo)
      ((s1.setAc 1 (p.2 (demo.ac 1) (xwd 0 e)).word).orFlags (p.2 (demo.ac 1) (xwd 0 e)).flags)) = true := by
  decide +kernel

theorem witness_ArithmeticToMemory : okThen (ea fld demo) (fun e s1 => okThen (rdmE e s1) fun w s2 =>
    modifyFlagForms.all (fun p => okThen (wrE e (p.2 (demo.ac 1) w).word s2) fun _ t =>
      nextIs (exec (p.1 1 fld) demo) (t.orFlags (p.2 (demo.ac 1) w).flags)) &&
    bothFlagForms.all (fun p => okThen (wrE e (p.2 (demo.ac 1) w).word s2) fun _ t =>
      nextIs (exec (p.1 1 fld) demo) ((t.setAc 1 (p.2 (demo.ac 1) w).word).orFlags (p.2 (demo.ac 1) w).flags)) &&
    storeFlagForms.all (fun p => okThen (wrE e (p.2 (demo.ac 1)).word s1) fun _ t =>
      nextIs (exec (p.1 1 fld) demo) (t.orFlags (p.2 (demo.ac 1)).flags)) &&
    selfFlagForms.all fun p => okThen (wrE e (p.2 w).word s2) fun _ t =>
      nextIs (exec (p.1 1 fld) demo) ((t.setAc 1 (p.2 w).word).orFlags (p.2 w).flags)) = true := by
  decide +kernel

/-- The carry into the low bit, and the magnitude at its two boundaries. -/
theorem witness_AddFlagTable :
    ((add36 0o377777777777 0 true).flags.cry1 && (mag36 0o400000000000).flags.aov &&
      decide ((mag36 0o400000000001).flags = Flags.zero)) = true := by
  decide +kernel

/-- The three clauses: products, quotients by 3, and a division by 0 (IDIV) and by a divisor too small (DIV). -/
theorem witness_MulForms :
    (okThen (ea fld demo) (fun e s1 => mulForms.all (fun p => okThen (p.2.1 e s1) fun b s2 =>
        okThen ((if p.2.2.1 then wrE e (mul72 (demo.ac 1) b).hi s2 else .ok () s2) : EStateM.Result Abort State Unit)
          fun _ s3 => nextIs (exec (p.1 1 fld) demo) ((if p.2.2.2 then
            (s3.setAc 1 (mul72 (demo.ac 1) b).hi).setAc 2 (mul72 (demo.ac 1) b).lo else s3).orFlags
              (mul72 (demo.ac 1) b).flags)) &&
      divForms.all (fun p => okThen (p.2.2.1 e s1) fun b _ =>
        (p.2.1 demo.cfg 0 (demo.ac 2) b).isSome) &&
      divForms.all fun p => (p.2.1 demo.cfg (demo.ac 1) (demo.ac 2) 0).isNone)) = true := by
  decide +kernel

/-- Quotients; a product that overflows; MAXNEG by -1 under the default. -/
theorem witness_MulDivValues :
    (idiv36 Config.default 7 2, div72 Config.default 0 7 2, (imul36 3 4).flags, (imul36 0o200000000000 2).flags.aov,
      idiv36 Config.default 0o400000000000 0o777777777777) =
        (some (3, 1), some (3, 1), Flags.zero, true, some (0o400000000000, 0)) := by decide +kernel

/-- Operands of value 1 and 0, and FIX and FIXR in and out of range. -/
theorem witness_FloatForms :
    (let s := ((demo.setMem 0o1400 0o201400000000).setMem 0o1401 0).setAc 1 0o201400000000
     okThen (ea ⟨false, 0, 0o1400⟩ s) (fun e s1 => floatForms.all (fun p => okThen (p.2.2.2.1 e s1) fun b s2 =>
        (floatNum s.cfg p.2.1 p.2.2.1 (s.ac 1) b).isSome && okThen (wrE e 0 s2) fun _ _ => true) &&
      okThen (rdE2 e s1) (fun b _ => dfloatForms.all fun p => (dfloatNum s.cfg p.2 (s.ac 1, s.ac 2) b).isSome) &&
      (floatNum s.cfg .div false (s.ac 1) 0).isNone && (dfloatNum s.cfg .div (s.ac 1, s.ac 2) (0, 0)).isNone &&
      okThen (rdE e s1) (fun w s2 => [false, true].all (fun r => (fixedNum s.cfg r w).isSome) &&
        nextIs (exec (.fix 1 ⟨false, 0, 0o1400⟩) s) (s2.setAc 1 1)) &&
      [false, true].all fun r => (fixedNum s.cfg r 0o377777777777).isNone)) = true := by
  decide +kernel

/-- R512: bit 8 of E is not in the scale of FSC (vector V147 of 95_test_vectors.md). -/
theorem test_fsc_bit8 : nextThen (exec (.fsc 1 ⟨false, 0, 0o400⟩) (demo.setAc 1 0o202600000000)) (fun t =>
    t.ac 1 == 0o202600000000) = true := by
  decide +kernel

/-- The default FPU, and integers at the bounds of the last clause. -/
theorem witness_FloatValues : Config.default.fpu = .standard ∧ |signed (0o000777777777 : Word)| < 2 ^ 27 ∧
    |signed (0o777000000001 : Word)| < 2 ^ 27 := by
  decide +kernel

/-- The divisors 0 and 1 by value. -/
theorem witness_FloatValues_divisor : value 0 = 0 ∧ value2 (0, 0) = 0 ∧ value 0o201400000000 ≠ 0 := by
  have h0 : ((BitVec.ofBool (negative 0) ++ (0 : Word).extractLsb' 0 27 : BitVec 28).toInt : ℚ) = 0 := by
    rw [show (BitVec.ofBool (negative 0) ++ (0 : Word).extractLsb' 0 27 : BitVec 28).toInt = 0 by decide +kernel]
    exact Int.cast_zero
  have h2 : ((BitVec.ofBool (negative 0) ++ (0 : Word).extractLsb' 0 27 ++ (0 : Word).extractLsb' 0 35 :
      BitVec 63).toInt : ℚ) = 0 := by
    rw [show (BitVec.ofBool (negative 0) ++ (0 : Word).extractLsb' 0 27 ++ (0 : Word).extractLsb' 0 35 :
      BitVec 63).toInt = 0 by decide +kernel]
    exact Int.cast_zero
  have h1 : (BitVec.ofBool (negative 0o201400000000) ++ (0o201400000000 : Word).extractLsb' 0 27 : BitVec 28).toInt ≠ 0 := by
    decide +kernel
  exact ⟨mul_eq_zero_of_left h0 _, mul_eq_zero_of_left h2 _,
    mul_ne_zero (Int.cast_ne_zero.mpr h1) (zpow_ne_zero _ two_ne_zero)⟩

theorem witness_ShiftForms : (demoIts.cfg.its && okThen (ea ⟨false, 0, 0o777770⟩ demoIts) (fun e s1 =>
    shiftForms.all (fun p => nextIs (exec (p.1 1 ⟨false, 0, 0o777770⟩) demoIts) (s1.setAc 1 (p.2 (demoIts.ac 1) e))) &&
    shift2Forms.all fun p => nextIs (exec (p.1 1 ⟨false, 0, 0o777770⟩) demoIts)
      ((s1.setAc 1 (p.2.2 (demoIts.ac 1) (demoIts.ac 2) e).1).setAc 2 (p.2.2 (demoIts.ac 1) (demoIts.ac 2) e).2))) =
        true := by
  decide +kernel

/-- Counts of 0, 1, 255 and the caps, with and without overflow, to the left and to the right. -/
theorem witness_ShiftValues :
    lsh 5 0 = 5 ∧ rot 5 255 = 0o50 ∧ lsh 5 (-1) = 2 ∧ (ash 0 35).flags = Flags.zero ∧ (ash 1 35).flags.aov = true ∧
      (ashc 0 1 (-1)).lo = 0 ∧ (ashc 0 1 70).flags.aov = true ∧ circ 1 0 (-1) = (0, 1) ∧
      lshc 0 1 71 = (0o400000000000, 0) := by
  decide +kernel

/-- R660: E = 0o401 shifts by 1 to the left, E = -0o401 by 1 to the right. -/
theorem witness_ShiftValues_count : (lsh 6 0o401, lsh 6 (-0o401), lsh 6 (-0o400)) = (12, 3, 6) := by decide +kernel

theorem witness_ExchangeAndCount : (okThen (ea fld demo) (fun e s1 => okThen (rdmE e s1) fun w s2 =>
      okThen (wrE e (demo.ac 1) s2) fun _ t => nextIs (exec (.exch 1 fld) demo) (t.setAc 1 w) && demo.ac 5 == 0 &&
        (demo.ac 1).getLsbD 35 && nextIs (exec (.jffo 1 fld) demo) ((s1.setAc 2 0).setPc e) &&
        nextIs (exec (.aobjn 1 fld) demo) ((s1.setAc 1 0o777777000006).setPc e))) = true := by
  decide +kernel

/-- R1156, R1157: the spec's word, and one with every bit of the four bytes set, in the default map. -/
theorem witness_BlockTransfer_bytes :
    byteToUb Config.default 0o002010030000 = 0o001001000003 ∧ ubToByte Config.default 0o001001000003 = 0o002010030000 ∧
      byteToUb Config.default 0o777777777777 = 0o177777177777 ∧
      ubToByte Config.default 0o777777777777 = 0o777777777760 := by
  decide +kernel

/-- One word from 0o1000 to 0o2000; the clear idiom; the last word of memory; a destination above E, under BLT_MIN_ONE and
not; and an interrupt pending. -/
theorem witness_BlockTransfer :
    (blockForms.all fun p =>
      let f := p.2.1 demo.cfg
      let s := demo.setAc 1 0o001000002000
      let x := demo.setAc 1 0o001000001001
      let l := (demo.setAc 1 0o077777002000).setMem 0o77777 5
      let u := { s with pi := ⟨true, 0o177, 0, 1, 0⟩ }
      let d := { s with cfg := { s.cfg with bltMinOne := false } }
      s.mayIo && !s.base.ebr.pgon && s.piPending == 0 && s.env.arrivals.isEmpty && s.cfg.bltMinOne &&
      [(0o2000 : VAddr), 0o1000].all (fun y => okThen (ea ⟨false, 0, y⟩ s) fun e s1 =>
        tblGet s1.mem 0o1000 == some 3 && decide (e.toNat = 0o2000 ∨ e.toNat < 0o2000) &&
        nextThen (exec (p.1 1 ⟨false, 0, y⟩) s) fun t => tblGet t.mem 0o2000 == some (f 3) && t.ac 1 == 0o001001002001) &&
      nextThen (exec (p.1 1 ⟨false, 0, 0o1003⟩) x) (fun t => tblGet t.mem 0o1001 == some (f 3) &&
        tblGet t.mem 0o1003 == some (f (f (f 3))) && t.ac 1 == 0o001003001004) &&
      nextThen (exec (p.1 1 ⟨false, 0, 0o2000⟩) l) (fun t => tblGet t.mem 0o2000 == some (f 5) && t.ac 1 == 0o100000002001) &&
      okThen (ea fld d) (fun e s1 => decide (e.toNat < 0o2000) && nextIs (exec (p.1 1 fld) d) s1) &&
      okThen (ea ⟨false, 0, 0o2001⟩ u) fun e s1 => decide (s1.piPending ≠ 0) && !u.piCycle && decide (0o2000 < e.toNat) &&
        nextThen (exec (p.1 1 ⟨false, 0, 0o2001⟩) u) fun t => t.report == .reenter && t.ac 1 == 0o001001002001) = true := by
  decide +kernel

/-- Words moved into the accumulators, the transfer's own among them, and a second word whose page is absent. -/
theorem witness_BlockTransfer_words :
    (blockForms.all fun p =>
      let f := p.2.1 demo.cfg
      let s := demo.setAc 1 0o001000000001
      let u := { paged.setAc 1 0o000002010777 with flags := { paged.flags with uio := true } }
      okThen (ea ⟨false, 0, 2⟩ s) (fun e s1 => okThen (accViol s1.ctxBstk 0o1000 .read s1) (fun a _ => !a) &&
        okThen (accViol s1.ctxData 1 .write s1) (fun a _ => !a) && okThen (rdStk 0o1000 s1) fun v _ => v == 3 &&
        okThen (wrE 1 (f v) s1) fun _ w => w.piPending == 0 && w.env.arrivals.isEmpty &&
        nextIs (exec (p.1 1 ⟨false, 0, 2⟩) s) (((w.setAc 1 0o001001000002).setAc 2 (f 0o400000000004)).setAc 1 0o001002000003) &&
        decide (e.toNat = 2)) &&
      nextThen (exec (p.1 1 ⟨false, 0, 1⟩) s) (fun t => t.ac 1 == 0o001001000002) &&
      okThen (accViol u.ctxBstk 2 .read u) (fun a _ => !a) &&
      okThen (accViol u.ctxData 0o12000 .write u) (fun a _ => a) &&
      (match bltOp f 1 0o12000 (u.setAc 1 0o000003012000) with
       | .error .pageFail t => t.ac 1 == 0o000003012000
       | _ => false)) = true := by
  decide +kernel

/-- The first touch of a page not cached: the probe itself fills the cache. -/
theorem witness_BlockTransfer_uncached :
    (blockForms.all fun p =>
      let u := { paged.setAc 1 0o000002010777 with flags := { paged.flags with uio := true } }
      okThen (ea ⟨false, 0, 0o10777⟩ u) fun e s1 => okThen (accViol s1.ctxBstk 2 .read s1) fun a s2 =>
        okThen (accViol s1.ctxData 0o10777 .write s2) fun b s3 => !a && !b && e == 0o10777 &&
          decide (s3.cache ≠ s1.cache) && okThen (rdStk 2 s3) fun v s4 =>
            okThen (wrE 0o10777 (p.2.1 u.cfg v) s4) fun _ w =>
              nextIs (exec (p.1 1 ⟨false, 0, 0o10777⟩) u) (w.setAc 1 0o000003011000)) = true := by
  decide +kernel

/-- R670, R1204: an interrupt that comes while BLT runs stops it after its first word, and the next step takes it. -/
theorem test_blt_interrupted :
    (let s := (calling.setAc 1 0o001000002000).setMem 0o56 0o264000003000
     nextThen (exec (.blt 1 ⟨false, 0, 0o2001⟩) s) fun t => t.report == .reenter && t.ac 1 == 0o001001002001 &&
       t.pi.ioq == 0 && nextThen (Sys2Proof.Machine.step t) fun u => u.pi.act == 1) = true := by
  decide +kernel

theorem witness_JrstForms : (demo.mayIo && demo.mayExec && demoIts.cfg.its && okThen (ea fld demoIts) (fun e s1 =>
    okThen (rdE e s1) fun w s2 => nextIs (exec (.xjrst fld) demoIts) (s2.setPc (rh w))) &&
    okThen (ea fld { demo with flags := Flags.ofHalf 0o740000 }) (fun e _ =>
      nextThen (exec (.jfcl 0o17 fld) { demo with flags := Flags.ofHalf 0o740000 }) fun t =>
        t.pc == e && t.flags.toHalf == 0)) = true := by
  decide +kernel

theorem witness_FlagRestores : (demo.mayIo && demo.mayExec && okThen (eaFull ⟨false, 1, 0⟩ demo) (fun r s1 =>
      r.idx == 1 && nextIs (exec (.jrstf ⟨false, 1, 0⟩) demo) ((setNewflags 0o777776 true s1).setPc r.addr)) &&
    okThen (eaFull fld demo) (fun r _ => r.idx == 0) &&
    okThen (ea fld demo) (fun e s1 => okThen (rdE2 e s1) (fun _ _ => true) &&
      okThen (wrE e (xwd demo.flags.toHalf 0) s1) fun _ s2 => okThen (wrE (e + 1) (xwd 0 demo.pc) s2) fun _ s3 =>
        okThen (rdE (e + 2) s3) fun _ s4 => okThen (rdE (e + 3) s4) fun _ _ => true)) = true := by
  decide +kernel

/-- At the limit `XCT_MAX` = 1 with ITS_XCTRI_INHIBIT set, and with no limit. -/
theorem witness_ExecuteForms :
    ([demoIts, { demoIts with cfg := { itsConfig with xctMax := 1, xctriInhibit := true } }].all fun s =>
      s.mayExec && s.xctCount == 0 && s.env.arrivals.isEmpty &&
      okThen (ea fld s) (fun e s1 => okThen (vread .cur e { s1 with xctCount := s.xctCount + 1 }) (fun w s2 =>
          nextIs (exec (.xctri 4 fld) s) { s2 with pending := some ⟨w, 4, s.cfg.xctriInhibit⟩ }) &&
        luuoForms.all fun p => okThen (vwrite .cur 0o40 (xwd (p.2 ++ (2 : AcNum) ++ (0 : BitVec 5)) e) s1) fun _ s2 =>
          okThen (vread .cur 0o41 s2) fun w s3 => nextIs (exec (p.1 2 fld) s)
            { s3 with xctCount := s.xctCount + 1, pending := some ⟨w, 0, false⟩ })) = true := by
  decide +kernel

/-- R686, R687: an XCT that a PXCT with bit 0o10 executes reads its word in the user space (log entry 13); without the bit,
and in XCTR, in the executive one. -/
theorem witness_ExecuteForms_previous :
    ([0o10, 4].all fun bits =>
      let s := { demo with
        pxct := bits, flags := { Flags.zero with uio := true }
        base := { demo.base with ebr := ⟨false, true, 0⟩ }
        cache := { demo.cache with tlbExec := [(1, ⟨1, true⟩)], tlbUser := [(1, ⟨2, true⟩)] } }
      let u := { s with cfg := itsConfig }
      let w : Word := if bits = 0o10 then 0 else 3
      nextThen (exec (.xct fld) s) (fun t => t.pending == some ⟨w, 0, false⟩) &&
        nextThen (exec (.pxct 4 fld) s) (fun t => t.pending == some ⟨w, 4, false⟩) &&
        nextThen (exec (.xctr 4 fld) u) (fun t => t.pending == some ⟨3, 4, false⟩)) = true := by
  decide +kernel

/-- R686: the first level beyond `XCT_MAX`, and the second with an interrupt pending or one that comes there; a local UUO the
same after its references. -/
theorem witness_ExecuteForms_ends :
    (([({ demoIts with cfg := { itsConfig with xctMax := 1 }, xctCount := 1 }, .stop .xct),
        ({ calling with cfg := itsConfig, xctCount := 1 }, .reenter),
        ({ demoIts with pi := ⟨true, 0o177, 0, 1, 0⟩, xctCount := 1 }, .reenter)] : List (State × Report)).all fun p =>
      let s := p.1
      s.mayExec && !s.piCycle && okThen (ea fld s) (fun e s1 =>
        let t := { s1 with xctCount := s.xctCount + 1 }
        (decide (s.cfg.xctMax ≠ 0 ∧ s.cfg.xctMax < s.xctCount + 1) || decide (t.piPending ≠ 0) || t.arrival) &&
        luuoForms.all fun q => okThen (vwrite .cur 0o40 (xwd (q.2 ++ (2 : AcNum) ++ (0 : BitVec 5)) e) s1) fun _ s2 =>
          okThen (vread .cur 0o41 s2) fun _ _ => nextThen (exec (q.1 2 fld) s) fun t =>
            t.report == p.2 && t.pc == s.ipc && t.xctCount == 2) &&
      [Instr.xct fld, .pxct 4 fld, .xctr 4 fld, .xctri 4 fld].all fun i => nextThen (exec i s) fun t =>
        t.report == p.2 && t.pc == s.ipc && t.xctCount == 2 && t.pending == none) = true := by
  decide +kernel

/-- R401, D37: the local UUOs of a user program under ITS with ITS_USER_LUUO = MUUO go where the MUUO of their opcode goes. -/
theorem witness_ExecuteForms_user :
    (let s := [0o434, 0o435, 0o436, 0o437].foldl (fun (s : State) a => s.setMem a 0o000000003000)
       { demoUser with cfg := { itsConfig with itsUserLuuoMuuo := true } }
     s.cfg.its && s.inUser && s.cfg.itsUserLuuoMuuo && luuoForms.all fun p =>
       nextThen (exec (.muuo p.2 2 fld) s) fun t => t.pc == 0o3000 && nextIs (exec (p.1 2 fld) s) t) = true := by
  decide +kernel

/-- Paging off; a page that maps, and one that does not. -/
theorem witness_MapForm :
    (!demo.cfg.its && demo.cfg.pfwLayout == .standard && okThen (ea fld demo) (fun e s1 =>
      nextIs (exec (.map 5 fld) demo) (s1.setAc 5 (demo.pfwWord (.mapped (demo.space demo.ctxData) true e.toNat)))) &&
      okThen (ea ⟨false, 0, 0o10000⟩ paged) (fun e s1 => okThen (entryFor true .map e s1) fun n _ =>
        nextThen (exec (.map 5 ⟨false, 0, 0o10000⟩) paged) fun t => t.ac 5 == 0o540000010000 && n.writable) &&
      okThen (ea ⟨false, 0, 0o12000⟩ paged) fun e s1 => !okThen (entryFor true .map e s1) (fun _ _ => true) &&
        nextThen (exec (.map 5 ⟨false, 0, 0o12000⟩) paged) fun t => t.ac 5 == t.pagerWord) = true := by
  decide +kernel

/-- A push pointer that reaches 0 in its left half, a stack in memory, and the subroutine calls. -/
theorem witness_StackForms :
    (let s := demo.setAc 1 0o777777001777
     let u := demo.setAc 1 0o001000000501
     okThen (ea fld s) (fun e s1 => okThen (rdE e s1) fun v s2 => okThen (wrStk 0o2000 v s2) fun _ t =>
      nextThen (exec (.push 1 fld) s) (fun u => decide (u.mem = t.mem) && u.flags.trap2) &&
      okThen (wrStk 0o2000 s.flpc s1) (fun _ _ => true) &&
      okThen (rdStk (rh (demo.ac 4)) s1) fun v' s2' => okThen (wrE e v' s2') fun _ _ => true) &&
     okThen (ea fld u) fun e s1 => okThen (wrE e u.flpc s1) (fun _ _ => true) &&
      okThen (wrE e (u.ac 1) s1) (fun _ _ => true) &&
      okThen (rdE (lh (u.ac 1)) s1) fun v s2 => nextIs (exec (.jra 1 fld) u) ((s2.setAc 1 v).setPc e)) = true := by
  decide +kernel

/-- DDIV performed and not performed. -/
theorem witness_DoubleForms :
    (okThen (ea fld demo) (fun e s1 => okThen (rdE2 e s1) (fun b _ => (ddiv demo.cfg 0 0 0 5 b.1 b.2).isSome) &&
      (ddiv demo.cfg (demo.ac 1) (demo.ac 2) (demo.ac 3) (demo.ac 4) 0 0).isNone &&
      okThen (wrE2 e (demo.ac 1) (demo.ac 2) s1) fun _ t => nextIs (exec (.dmovem 1 fld) demo) t)) = true := by
  decide +kernel

/-- The most negative value and another, for the negative, the product and the quotient. -/
theorem witness_DoubleValues :
    dval 0o400000000000 0 = -2 ^ 70 ∧ dval 0 1 ≠ -2 ^ 70 ∧ (dneg Config.default 0o400000000000 0).flags.aov = true ∧
      (dmul Config.default 0o400000000000 0 0o400000000000 0).flags.aov = true ∧
      ddiv Config.default 0 0 0 5 0 2 = some (0, 2, 0, 1) ∧ ddiv Config.default 0 0 0 5 0 0 = none := by
  decide +kernel

/-- A byte of 6 bits at 0o2000, with FPD clear and with FPD set; ADJBP performed and not performed. -/
theorem witness_ByteForms :
    (let s := demo.setMem 0o1000 0o440600002000
     let s' := { s with flags := { s.flags with fpd := true } }
     okThen (ea fld s) (fun e s1 => okThen (rdmE e s1) fun old s2 => okThen (wrE e (bpIncr old) s2) fun _ s3 =>
        okThen (rdE e { s3 with flags := { s3.flags with fpd := true } }) fun bp s4 => okThen (bpAddr bp s4) fun a s5 =>
          okThen (rdmStk a s5) fun w s6 => okThen (wrStk a (bpDeposit (bpP bp) (bpS bp) w (s4.ac 1)) s6) fun _ t =>
            nextIs (exec (.idpb 1 fld) s) { t with flags := { t.flags with fpd := false } } &&
            okThen (rdStk a s5) fun w' s6' => nextIs (exec (.ildb 1 fld) s) { s6'.setAc 1 (bpByte (bpP bp) (bpS bp) w') with
              flags := { s6'.flags with fpd := false } }) &&
      okThen (ea fld s') (fun e s1 => okThen (rdE e s1) fun bp s4 => okThen (bpAddr bp s4) fun a s5 =>
        okThen (rdStk a s5) fun w s6 => nextIs (exec (.ildb 1 fld) s') { s6.setAc 1 (bpByte (bpP bp) (bpS bp) w) with
          flags := { s6.flags with fpd := false } }) &&
      (adjbp 0o440600002000 5).isSome && (adjbp 0o000600002000 5).isSome && (adjbp 0o017700002000 5).isNone) = true := by
  decide +kernel

/-- Pointers that stay in the word and that go on to the next, words with no byte, and an ADJSP that overflows. -/
theorem witness_ByteValues :
    (bpS 0o360600001000 ≤ bpP 0o360600001000) ∧ bpP 0o050600001000 < bpS 0o050600001000 ∧ bpS 0o050600001000 ≤ 36 ∧
      (adjbp 0o017700002000 5).isNone ∧ adjbp 0o360600001000 1 = some 0o300600001000 ∧
      (adjsp 0o777777001000 1).flags.trap2 = true ∧ (adjsp 0o777776001000 1).flags = Flags.zero := by
  decide +kernel

/-- The extended words MOVSLJ (0o016), the highest (0o017), and the undefined 0 and 0o020. -/
theorem witness_ExtendForms :
    ([(0o016000000000 : Word), 0o017000000000].all (fun x =>
      let s := ((demo.setMem 0o1000 x).setAc 1 0).setAc 4 0
      okThen (ea fld s) fun e0 s1 => okThen (vread .cur e0 s1) fun w s2 =>
        match decodeExtended 1 e0 w with
        | none => false
        | some i => nextThen (exec i s2) fun t => nextIs (exec (.extend 1 fld) s) t) &&
      [(0 : Word), 0o020000000000].all fun x => okThen (ea fld (demo.setMem 0o1000 x)) fun e0 s1 =>
        okThen (vread .cur e0 s1) fun w _ => opField w == 0 || decide (0o20 ≤ (opField w).toNat)) = true := by
  decide +kernel

/-- Strings of two bytes at 0o1000 and 0o2000. -/
def strings : State :=
  start 0 [(1, 2), (2, 0o440700001000), (4, 2), (5, 0o440700002000)]
    [(0o100, 0), (0o101, 0), (0o102, 0), (0o1000, 0o305440000000), (0o1001, 0), (0o2000, 0o305460000000), (0o3030, 0),
     (0o3031, 0o000001000002)] 0

theorem witness_StringForms :
    (strings.cfg.extendDetail == .standard && okThen (eaIn .cur ⟨false, 0, 0o3000⟩ strings) (fun r s1 =>
      okThen (rdE (0o100 + 1) s1) (fun f1 s2 => okThen (rdE (0o100 + 2) s2) fun f2 s3 =>
        okThen (cmpsLoop f1 f2 1 4 true s3) fun o _ => o == .lt) &&
      okThen (movsLoop asIs (fun l1 _ => l1 == 0) 1 0o100 4 true s1) (fun whole _ => whole) &&
      okThen (movsLoop (byTable r.addr) (fun l1 _ => l1 == 0) 1 0o100 4 true s1) (fun whole _ => whole) &&
      okThen (movsLoop asIs (fun l1 l2 => l1 < l2) 1 0o100 4 true s1) (fun whole _ => whole) &&
      okThen (movsLoop asIs (fun l1 l2 => l1 < l2) 1 0o100 3 false
        ((s1.setAc 1 (withLen (s1.ac 1) 1)).setAc 2 (bpIncr (s1.ac 2)))) (fun _ _ => true) &&
      okThen (cvtdbLoop (digitByOffset (sextE 0o777720)) 1 2 true s1) (fun whole s2 =>
        whole && !(s2.ac 1).getLsbD 34))) = true := by
  decide +kernel

/-- CVTBDO of 7 into two bytes and into none, and EDIT of a pattern that stops. -/
theorem witness_StringForms_decimal :
    (let s := (strings.setAc 1 0).setAc 2 7
     okThen (eaIn .cur ⟨false, 0, 0o60⟩ s) (fun _ s1 =>
        decide (digitsToStore s.flags.fpd ((s1.ac 4).getLsbD 35) (strLen (s1.ac 4)) 7 = [7]) &&
        decide (digitsToStore true true 2 7 = [0, 7]) && decide (strLen ((s1.setAc 4 0).ac 4) < 1) &&
        okThen (storeDigits (decByOffset 0o60) 1 false false [7] true (s1.setAc 4 (s1.ac 4))) fun _ _ => true) &&
      okThen (eaIn .cur ⟨false, 0, 0o3000⟩ (strings.setAc 1 0o1001)) fun r s1 =>
        okThen (editLoop 1 0o100 r.addr (2 ^ 20) true s1) fun stopped _ => stopped) = true := by
  decide +kernel

/-- Strings of one byte each, of 7 bits to 6 bits. -/
def oneByte : State := ((strings.setAc 1 1).setAc 4 1).setAc 5 0o440600002000

/-- CMPS with bytes left on both sides and with none on the first; a byte to move, the fill, and a byte too big. -/
theorem witness_StringBytes_moves :
    (strings.piPending == 0 && strings.env.arrivals.isEmpty &&
      okThen (loadByte (bpIncr (strings.ac 2)) strings) (fun x s1 =>
        okThen (loadByte (bpIncr (strings.ac 5)) s1) fun y _ => x == y && okThen (byOffset 0 2 x s1) fun r s2 =>
          !r.ends && r.stores && s2.ac 5 == strings.ac 5 && decide (r.val.toNat < 2 ^ bpS (strings.ac 5)) &&
            okThen (depositByte (bpIncr (strings.ac 5)) r.val s2) fun _ _ => true) &&
      okThen (cmpsLoop 0o61 0 1 1 true (strings.setAc 1 0)) (fun o t => o == .eq && t.ac 4 == 1 && t.ac 1 == 0) &&
      okThen (rdE (0o100 + 1) strings) (fun f s1 => okThen (depositByte (bpIncr (strings.ac 5)) f s1) fun _ _ => true) &&
      okThen (loadByte (bpIncr (oneByte.ac 2)) oneByte) (fun x _ => x == 0o61) &&
      okThen (movsLoop (byOffset 0o17) (fun l1 _ => l1 == 0) 1 0o100 1 true oneByte) fun whole t =>
        !whole && t.ac 1 == 0 && t.ac 4 == 1) = true := by
  decide +kernel

/-- A byte too big for the destination, moved as it is. -/
theorem witness_StringBytes_tooBig :
    (let s := oneByte.setMem 0o1000 0o705440000000
     okThen (loadByte (bpIncr (s.ac 2)) s) (fun x s1 => okThen (asIs (s.ac 1) x s1) fun r s2 =>
        !r.ends && r.stores && r.stays && s2.ac 5 == s.ac 5 && decide (2 ^ bpS (s.ac 5) ≤ r.val.toNat)) &&
      okThen (movsLoop asIs (fun l1 _ => l1 == 0) 1 0o100 2 true s) fun whole t => !whole && strLen (t.ac 1) == 1) = true := by
  decide +kernel

/-- The table entries of each kind: code 0, one that aborts, one that only clears M, and a digit above 9. -/
theorem witness_StringBytes_tables :
    ([(0, false, true), (0o100000, true, false), (0o200000, false, false), (0o000012, false, true)] :
      List (Half × Bool × Bool)).all (fun p => okThen (byTable 0o3000 0 0o61 (strings.setMem 0o3030 (xwd 0 p.1)))
        (fun r t => r.ends == p.2.1 && r.stores == p.2.2 && okThen (digitByTable 0o3000 0 0o61 t) fun d _ =>
          d.ends == (p.2.1 || p.1 == 0o000012))) = true := by
  decide +kernel

/-- R551, R561: CVTDBT of one byte that the table maps to digit 5 under code 3, S clear: -5, with S and N set; under code 2
after an N, +5. -/
theorem test_cvtdbt_codes :
    (let s (h : Half) (a : Word) := ((((strings.setAc 1 a).setAc 4 0).setAc 5 0).setMem 0o3030 (xwd 0 h))
     okThen (cvtdbLoop (digitByTable 0o3000) 1 1 true (s 0o300005 1)) (fun whole t => whole && t.ac 4 == 0 && t.ac 5 == 5) &&
      nextThen (exec (.cvtdbt 1 0o100 ⟨false, 0, 0o3000⟩) (s 0o300005 1)) (fun t => t.pc == demo.pc + 1 &&
        t.ac 1 == 0o600000000000 && t.ac 4 == 0o777777777777) &&
      nextThen (exec (.cvtdbt 1 0o100 ⟨false, 0, 0o3000⟩) (s 0o200005 0o200000000001)) fun t => t.pc == demo.pc + 1 &&
        t.ac 1 == 0o400000000000 && t.ac 4 == 0 && t.ac 5 == 5) = true := by
  decide +kernel

/-- CVTDBO of one digit, of one that overflows, and of a byte that is no digit; CVTBDO of two digits; MOVSRJ of two bytes to
one. -/
theorem witness_StringBytes_numbers :
    (let s := strings.setAc 1 1
     let two := strings.setAc 4 1
     strLen (s.ac 1) == 1 &&
      okThen (eaIn .cur ⟨false, 0, 0o777720⟩ s) (fun _ s1 => okThen (loadByte (bpIncr (s.ac 2)) s1) fun x s2 =>
        okThen (digitByOffset (sextE 0o777720) (s.ac 1) x s2) fun d _ => !d.ends && d.val == 1) &&
      nextThen (exec (.cvtdbo 1 0o100 ⟨false, 0, 0o777720⟩) s) (fun t => t.ac 1 == 0o400000000000 && t.pc == s.pc + 1 &&
        decide (dval (t.ac 4) (t.ac 5) = dval 2 0o440700002000 * 10 + 1)) &&
      nextThen (exec (.cvtdbo 1 0o100 ⟨false, 0, 0o777720⟩) (s.setAc 4 maxPos)) (fun t => t.flags.aov && t.flags.trap1) &&
      nextThen (exec (.cvtdbo 1 0o100 ⟨false, 0, 0⟩) s) (fun t => t.pc == s.pc && t.ac 1 == 1) &&
      okThen (storeDigits (decByOffset 0o60) 1 false true [4, 2] true strings) (fun _ t => t.ac 1 == 0 && t.ac 2 == 0 &&
        tblGet t.mem 0o2000 == some 0o321440000000) &&
      nextThen (exec (.movsrj 1 0o100 fld) two) fun t => t.pc == two.pc + 1 && t.ac 1 == 0 &&
        tblGet t.mem 0o2000 == some 0o311460000000) = true := by
  decide +kernel

/-- The pattern operators, S clear and set, with a fill and without. -/
theorem witness_EditSteps :
    (let s := (strings.setAc 4 0o3).setMem 0o101 0o52
     let at1 (p : BitVec 9) (a : Word) (k : State → Bool) := okThen (editPlain 1 0o100 a p s) fun _ t => k t
     at1 2 0o1000 (fun t => t.ac 3 == s.ac 5 && (t.ac 1).getLsbD 35) && at1 2 0o400000001000 (fun t => t.ac 5 == s.ac 5) &&
      at1 3 0o700000001000 (fun t => t.ac 1 == patNext 0o1000 1) &&
      at1 4 0o1000 (fun t => t.ac 4 == s.ac 5 && t.ac 5 == s.ac 4) && at1 0o100 0o1000 (fun t => t.ac 5 == bpIncr (s.ac 5)) &&
      at1 0o100 0o400000001000 (fun t => t.ac 5 == bpIncr (s.ac 5)) &&
      at1 0o577 0o100000001000 (fun t => t.ac 1 == patNext 0o100000001000 65) &&
      at1 0o600 0o1000 (fun t => t.ac 1 == patNext 0o1000 1) && at1 0o700 0o1000 (fun t => t.ac 1 == patNext 0o1000 2) &&
      at1 5 0o1000 (fun t => t.ac 1 == patNext 0o1000 1) && at1 0o477 0o1000 (fun t => t.ac 1 == patNext 0o1000 1) &&
      okThen (editSelect 1 0o100 0o3000 0o1000 s) (fun go t => go && t.ac 5 == bpIncr (s.ac 5)) &&
      okThen (editSelect 1 0o100 0o3000 0o1000 strings) (fun go t => go && t.ac 5 == strings.ac 5) &&
      okThen (editSelect 1 0o100 0o3000 0o400000001000 strings) (fun go t => go && t.ac 5 == bpIncr (strings.ac 5)) &&
      okThen (editSelect 1 0o100 0o3000 0o1000 (strings.setMem 0o3030 0o100000)) (fun go _ => !go) &&
      okThen (rdE (rh 0o1001) strings) fun w s1 => patByte 0o1001 w == 0 &&
        okThen (editLoop 1 0o100 0o3000 1 true (s1.setAc 1 0o1001)) fun stopped t => stopped && t.ac 1 == patNext 0o1001 1) = true := by
  decide +kernel

/-- R551, R1207: a conversion to decimal that an interrupt stops leaves in the accumulators what is left of it, and goes on
from there (log entry 24). -/
theorem test_cvtbd_restart :
    (let s := { (strings.setAc 1 0).setAc 2 42 with
       indCount := 1, pi := ⟨true, 0o177, 0, 0, 0⟩, env := { strings.env with agenda := [[.ioRequest 1]], arrivals := [true] } }
     nextThen (exec (.cvtbdo 1 0o100 ⟨false, 0, 0o60⟩) s) fun t => t.report == .reenter && t.flags.fpd && t.ac 2 == 12 &&
      t.ac 4 == 1 && nextThen (exec (.cvtbdo 1 0o100 ⟨false, 0, 0o60⟩) t) fun u => u.ac 2 == 0 && !u.flags.fpd &&
        tblGet u.mem 0o2000 == some 0o321440000000) = true := by
  decide +kernel

/-- R556: MESSAG stores the fill where S is clear, be it 0; R566: a byte too big for the destination ends MOVSLJ, and MOVSRJ,
with L1 counting it, and R564 has MOVSO count it off. -/
theorem test_messag_movslj :
    (let s := oneByte.setMem 0o1000 0o705440000000
     let at1 (i : Instr) (l1 : Word) (skips : Bool) := nextThen (exec i s) fun t =>
       t.pc == (if skips then s.pc + 1 else s.pc) && t.ac 4 == 1 && t.ac 1 == l1 && t.ac 2 == bpIncr (s.ac 2)
     okThen (editPlain 1 0o100 0o1000 0o100 strings) (fun _ t => t.ac 5 == bpIncr (strings.ac 5)) &&
      at1 (.movslj 1 0o100 fld) 1 false && at1 (.movsrj 1 0o100 fld) 1 true && at1 (.movso 1 0o100 ⟨false, 0, 0⟩) 0 false) = true := by
  decide +kernel

/-- Empty strings, a pattern that begins with STOP, and one byte moved. -/
theorem witness_ShortStrings :
    (let s := (strings.setAc 1 0).setAc 4 0
     let one := (strings.setAc 1 1).setAc 4 1
     okThen (eaIn .cur fld s) (fun _ s1 => decide (strLen (s.ac 1) = 0) && decide (strLen (s.ac 4) = 0) &&
        !(s.ac 1).getLsbD 34 && okThen (rdE (0o100 + 1) s1) (fun _ s2 => okThen (rdE (0o100 + 2) s2) fun _ s3 =>
          nextIs (exec (.cmpse 1 0o100 fld) s) (s3.setPc (s3.pc + 1))) &&
        [Instr.movso, .movst, .movslj, .movsrj, .cvtdbo, .cvtdbt].all (fun i =>
          nextIs (exec (i 1 0o100 fld) s) (s1.setPc (s1.pc + 1))) &&
        [Instr.cvtbdo, .cvtbdt].all fun i => nextIs (exec (i 1 0o100 fld) s) s1) &&
      (let p := strings.setAc 1 0o1001
       okThen (eaIn .cur fld p) fun _ s1 => okThen (rdE (rh (p.ac 1)) s1) fun w s2 => w == 0 &&
        nextIs (exec (.edit 1 0o100 fld) p) ((s2.setAc 1 (patNext 0o1001 1)).setPc (s2.pc + 1))) &&
      (let x := s.setMem 0o1000 0o016000000000
       okThen (ea fld x) fun e0 s1 => okThen (vread .cur e0 s1) fun w s2 => opField w == 0o16 &&
        nextIs (exec (.extend 1 fld) x) (s2.setPc (s2.pc + 1))) &&
      okThen (eaIn .cur fld one) fun _ s1 => decide (strLen (one.ac 1) = 1) &&
        okThen (loadByte (bpIncr (one.ac 2)) s1) fun b s2 => okThen (depositByte (bpIncr (one.ac 5)) b s2) fun _ s3 =>
          let t := (((s3.setAc 1 (withLen (one.ac 1) 0)).setAc 2 (bpIncr (one.ac 2))).setAc 4 (withLen (one.ac 4) 0)).setAc 5
            (bpIncr (one.ac 5))
          nextIs (exec (.movslj 1 0o100 fld) one) (t.setPc (t.pc + 1))) = true := by
  decide +kernel

/-- Every table, under the setting of ITS each entry asks for. -/
theorem witness_RegisterForms :
    ([demo, demoIts].all fun s => s.mayIo && okThen (ea fld s) fun e s1 =>
      registerReads.all (fun p => (p.2.1 == some (!s.cfg.its)) || okThen (wrE e (p.2.2 s1) s1) fun _ t =>
        nextIs (exec (p.1 fld) s) t) &&
      okThen (rdE e s1) (fun w s2 => registerLoads.all fun p => (p.2.1 == some (!s.cfg.its)) ||
        nextIs (exec (p.1 fld) s) (p.2.2 w s2)) &&
      addressFunctions.all (fun p => (p.2.1 == some (!s.cfg.its)) || nextIs (exec (p.1 fld) s) (p.2.2 e s1)) &&
      statusTests.all (fun p => nextIs (exec (p.1 fld) s)
        (if (p.2.1 s1 &&& e == 0) = p.2.2 then s1.setPc (s1.pc + 1) else s1)) &&
      okThen (rdE2 e s1) (fun _ s2 => okThen (rdE2 (e + 2) s2) fun _ _ => true) &&
      okThen (wrE2 e 0 0 s1) fun _ s2 => okThen (wrE2 (e + 2) 0 0 s2) fun _ _ => true) = true := by
  decide +kernel

/-- An I/O subsystem that answers once each way. -/
def answering (s : State) : State := { s with env := { demo.env with reads := [some 0o525], writes := [true] } }

theorem witness_BusForms :
    ([answering demo, answering demoIts].all fun s => s.mayIo && okThen (ea fld s) fun e s1 =>
      busReads.all (fun p => p.2.1 != s.cfg.its || okThen (p.2.2.1.get fld e s1) fun a s2 =>
        decide (s2.env.reads = [some 0o525]) && nextThen (exec (p.1 1 fld) s) fun t =>
          t.ac 1 == (if p.2.2.2 = .byte then 0o125 else 0o525) && decide (t.env.log = [.read a p.2.2.2])) &&
      busWrites.all (fun p => p.2.1 != s.cfg.its || okThen (p.2.2.1.get fld e s1) fun a s2 =>
        decide (s2.env.writes = [true]) && nextThen (exec (p.1 2 fld) s) fun t => decide (t.env.log =
          [.write a (if p.2.2.2 = .byte then s.ac 2 &&& 0o377 else s.ac 2) p.2.2.2])) &&
      okThen (ioea fld e s1) (fun a _ => s.cfg.its || (busTests.all (fun p => nextThen (exec (p.1 1 fld) s) fun t =>
          t.pc == (if decide (((if p.2.1 = .byte then 0o125 else 0o525) &&& s.ac 1) = 0) = p.2.2 then s1.pc + 1
            else s1.pc)) &&
        busModifies.all fun p => nextThen (exec (p.1 2 fld) s) fun t => decide (t.env.log =
          [.write a (if p.2.2 = .byte then p.2.1 0o525 (s.ac 2) &&& 0o377 else p.2.1 0o525 (s.ac 2)) p.2.2,
            .read a p.2.2]))) &&
      okThen (ioea ⟨true, 0, 0o1003⟩ 0 s1) (fun a _ => a == 0o2000) &&
      okThen (vread .prev e s1) (fun w s2 => nextIs (exec (.umove 1 fld) s) (s2.setAc 1 w)) &&
      okThen (vwrite .prev e (s.ac 1) s1) fun _ t => nextIs (exec (.umovem 1 fld) s) t) = true := by
  decide +kernel

/-- A device table that answers nothing: the page fail of R1149 for every read, test, modification and write. -/
theorem witness_BusForms_noDevice :
    ([demo.setMem 0o502 0o3000, demoIts.setMem 0o442 0o3000].all fun s => s.mayIo && s.env.reads.isEmpty && s.env.writes.isEmpty &&
      okThen (ea fld s) fun e s1 => okThen (ioea fld e s1) fun a s2 =>
        let page (i : Instr) := nextThen (exec i s) fun t => t.report == .pageFail && t.pc == 0o3000
        busReads.all (fun p => p.2.1 != s.cfg.its || page (p.1 1 fld)) &&
        busWrites.all (fun p => p.2.1 != s.cfg.its || page (p.1 1 fld)) &&
        (s.cfg.its || busTests.all (fun p => page (p.1 1 fld)) && busModifies.all fun p => page (p.1 1 fld)) &&
        s2.pfwWord (.io s2.flags.user a) == 0o370100001000) = true := by
  decide +kernel

/-- A register that reads and takes no write: the page fail of R1149 after both. -/
theorem witness_BusForms_noWrite :
    ([[], [false]].all fun l => let s := answering (demo.setMem 0o502 0o3000)
      let s := { s with env := { s.env with writes := l } }
      s.mayIo && !s.cfg.its && okThen (ea fld s) fun e s1 => okThen (ioea fld e s1) fun a s2 =>
        decide (s2.env.reads = [some 0o525]) && busModifies.all fun p => nextThen (exec (p.1 2 fld) s) fun t =>
          t.report == .pageFail && t.pc == 0o3000 && t.ac 2 == s.ac 2 && decide (t.env.log =
            [.write a (if p.2.2 = .byte then p.2.1 0o525 (s.ac 2) &&& 0o377 else p.2.1 0o525 (s.ac 2)) p.2.2,
              .read a p.2.2])) = true := by
  decide +kernel

/-- R1165: IORDI and IOWRQ at the default controllers 3 and 1. -/
theorem test_its_controllers :
    (nextThen (exec (.iordi 1 fld) (answering demoIts)) (fun t => decide (t.env.log = [.read 0o3001000 .word])) &&
      nextThen (exec (.iowrq 2 fld) (answering demoIts)) fun t =>
        decide (t.env.log = [.write 0o1001000 (demoIts.ac 2) .word])) = true := by
  decide +kernel

theorem witness_ClockAndHost :
    ({ demo with interval := 1 } : State).interval ≠ 0 ∧ demo.interval = 0 ∧ 0o77777 < demo.cfg.memSize ∧
      demo.cfg.memSize ≤ 0o100000 ∧ conmap false 0o1000 demo = .phys 0o1000 ∧ conmap true 0o12000 paged = .fail := by
  decide +kernel

/-- A breakpoint at PC with a request to skip it. -/
def skipping : State := { demo with breakpoints := [0o500], bkptSkip := true }

theorem skipping_at_fetch : AtFetch { skipping with breakpoints := [] } := by
  constructor <;> decide +kernel

/-- R1275, R1280, R1290, R1400: Stop(IBKPT) and the skip; Stop(IOERR), also from a fatal error of the same step 1; a later
reset; a deposit of the flags, with and without ITS; an APR input. -/
theorem witness_ClockAndHost_stops :
    (let b := { skipping with bkptSkip := false }
     let f := { demo with env := { demo.env with agenda := [[.tick 5, .ioFatal]] } }
     let r := { demo with env := { demo.env with agenda := [[.depositPc 0o1234, .reset]] } }
     decide (b.env.agenda = []) && b.piPending == 0 && !b.trapDue && decide (b.pc ∈ b.breakpoints) &&
      nextIs (step b) { b with report := .stop .ibkpt } && skipping.bkptSkip &&
      okThen (vread .cur skipping.pc { skipping with
        report := .ok, ipc := skipping.pc, indCount := 0, xctCount := 0, bkptSkip := false }) (fun w s1 =>
          nextThen (exec (decode skipping.cfg w) { s1 with pc := s1.pc + 1, pxct := 0, inhibit := false }) fun t =>
            t.pending == none && !t.its2pr && !t.bkptSkip &&
              nextIs (step skipping) { t with pxct := 0, inhibit := false, phase := .fetch }) &&
      nextThen (step f) (fun t => t.report == .stop .ioerr && t.pc == f.pc && !t.env.fatal && t.timeBase == 5) &&
      nextThen (step { demo with env := { demo.env with fatal := true } }) (fun t => t.report == .stop .ioerr) &&
      (let t := applyEvent (r.setAc 1 5) .reset
       t.pc == t.cfg.startPc && t.ac 1 == 5 && decide (t.mem = demo.mem) && t.flags == Flags.zero) &&
      (applyEvent demo (.depositFlags 0o777777)).flags.toHalf == 0o777740 &&
      (applyEvent demoIts (.depositFlags 0o777777)).flags.toHalf == 0o776740 &&
      (applyEvent demo (.aprInput true false false true)).apr.flg == 0o41) = true := by
  decide +kernel

/-- R99: the console's walk of a table nothing has written is a fault of the model (log entry 16). -/
theorem test_conmap_unwritten : (match conmap true 0o20000 paged with
    | .fault (.unwritten _) => true
    | _ => false) = true := by
  decide +kernel

/-- R453: under ITS_XCTRI_INHIBIT the page fail of the instruction XCTRI executes is suppressed (log entry 40). -/
theorem test_xctri_inhibit :
    ([true, false].all fun sup =>
      let s := { ((((demoIts.setMem 0o500 0o102000001000).setMem 0o1000 0o200040020000).setMem 0o10004 0).setMem 0o442 0o3000)
        with
          cfg := { itsConfig with xctriInhibit := sup }
          base := { demo.base with ebr := ⟨false, true, 0⟩, dbr4 := 0o10000 }
          cache := { demo.cache with tlbExec := [(0, ⟨0, true⟩), (1, ⟨1, true⟩)] } }
      nextThen (step s) fun t => if sup then t.pc == 0o501 && t.report == .ok && t.ac 1 == s.ac 1
        else t.pc == 0o3000 && t.report == .pageFail) = true := by
  decide +kernel

end Sys2Proof.Tests

end
end

section
/-! SUPPORT. The pager cache (R90, R91): what a translation for writing leaves in it, under every paging discipline. -/

namespace Sys2Proof.Machine

open Sys2Proof

/-! ### What an operation ensures when it completes -/

/-- Whenever the operation completes, its result and the state it leaves are in the relation. -/
def Ensures {α : Type} (x : M α) (Q : α → State → Prop) : Prop := ∀ s a t, x s = .ok a t → Q a t

theorem Ensures.raise {α : Type} (a : Abort) (Q : α → State → Prop) : Ensures (Machine.raise a : M α) Q :=
  fun _ _ _ h => by cases h

theorem Ensures.failWith {α : Type} (ev : PfwEvent) (Q : α → State → Prop) : Ensures (Machine.failWith ev : M α) Q :=
  fun _ _ _ h => by cases h

/-- A sequence ensures what its last operation ensures, whatever the first one answers. -/
theorem Ensures.bind {α β : Type} {x : M α} {f : α → M β} {Q : β → State → Prop} (hf : ∀ a, Ensures (f a) Q) :
    Ensures (x >>= f) Q := fun _ _ _ h => by
  obtain ⟨a, t, -, h⟩ := bind_ok h
  exact hf a t _ _ h

theorem Ensures.ite {α : Type} {c : Prop} [Decidable c] {x y : M α} {Q : α → State → Prop} (hx : c → Ensures x Q)
    (hy : ¬ c → Ensures y Q) : Ensures (if c then x else y) Q := by
  split
  · exact hx ‹_›
  · exact hy ‹_›

theorem Ensures.modS {f : State → State} {Q : Unit → State → Prop} (h : ∀ s, Q () (f s)) : Ensures (Machine.modS f) Q :=
  fun s _ _ he => by
    cases he
    exact h s

/-- An operation followed by a fixed answer. -/
theorem Ensures.then_pure {α β : Type} {x : M α} {b : β} {Q : β → State → Prop} (hx : Ensures x fun _ t => Q b t) :
    Ensures (x >>= fun _ => Pure.pure b) Q := fun s _ _ h => by
  obtain ⟨a, t, ht, h⟩ := bind_ok h
  cases h
  exact hx s a _ ht

/-! ### The fills for writing -/

/-- A read of a table after an entry is cached in it. -/
theorem tblGet_setTlb (s : State) (user : Bool) (v w : Nat) (e : TlbEntry) :
    tblGet ((s.setTlb user v e).cache.table user) w = if w = v then some e else tblGet (s.cache.table user) w := by
  cases user <;> exact tblGet_tblSet _ _ _ _

/-- The table of a space holds this entry for the page of an address, and it is writable. -/
def CachesWritable (user : Bool) (va : VAddr) (e : TlbEntry) (t : State) : Prop :=
  tblGet (t.cache.table user) (vpnOf va) = some e ∧ e.writable = true

theorem cachesWritable_setTlb {user : Bool} {va : VAddr} {e : TlbEntry} (hw : e.writable = true) (s : State) :
    CachesWritable user va e (s.setTlb user (vpnOf va) e) :=
  ⟨by rw [tblGet_setTlb, if_pos rfl], hw⟩

/-- TOPS-10: an entry not writable fails the fill (R182). -/
theorem fillT10_write_caches (user : Bool) (va : VAddr) : Ensures (fillT10 user .write va) (CachesWritable user va) := by
  unfold fillT10
  refine Ensures.bind fun s => Ensures.bind fun w => Ensures.bind fun _ => Ensures.ite (fun _ => Ensures.raise _ _) ?_
  intro hok
  simp only [Bool.not_eq_true, Bool.or_eq_false_iff, Bool.not_eq_false', decide_true, Bool.true_and] at hok
  exact Ensures.then_pure (Ensures.modS (cachesWritable_setTlb hok.2))

/-- A CST entry aged for a write has its modified bit set (R187). -/
theorem agedCst_dirty (s : State) (cst : Word) : (s.agedCst cst true).getLsbD 0 = true := by
  simp [State.agedCst]

/-- TOPS-20: a pointer not writable fails the fill, and the fill for a write sets the modified bit (R187). -/
theorem fillT20_write_caches (user : Bool) (va : VAddr) : Ensures (fillT20 user .write va) (CachesWritable user va) := by
  unfold fillT20
  refine Ensures.bind fun sect => Ensures.bind fun o => ?_
  cases o with
  | none => exact Ensures.failWith _ _
  | some pg =>
    refine Ensures.bind fun s => Ensures.bind fun cst => Ensures.ite (fun _ => Ensures.failWith _ _) fun _ =>
      Ensures.ite (fun _ => Ensures.failWith _ _) fun hw => ?_
    have hpg : pg.writable = true := by simpa using hw
    refine Ensures.bind fun _ => Ensures.bind fun _ => Ensures.then_pure (Ensures.modS (cachesWritable_setTlb ?_))
    simp [hpg, agedCst_dirty]

/-- The DEC page of an address under ITS: the even or odd half of its ITS page (R190). -/
theorem vpnOf_its (va : VAddr) :
    vpnOf va = if va.getLsbD 9 = true then 2 * (va.toNat / 0o2000) + 1 else 2 * (va.toNat / 0o2000) := by
  have hbit : va.getLsbD 9 = decide (va.toNat / 0o1000 % 2 = 1) := Nat.testBit_eq_decide_div_mod_eq ..
  simp only [vpnOf, hbit, decide_eq_true_eq]
  split <;> omega

/-- ITS: a class not writable fails the fill, which caches both DEC pages of the ITS page (R192). -/
theorem fillIts_write_caches (user : Bool) (va : VAddr) : Ensures (fillIts user .write va) (CachesWritable user va) := by
  unfold fillIts
  refine Ensures.bind fun s => Ensures.bind fun w => Ensures.bind fun _ => Ensures.ite (fun _ => Ensures.raise _ _) ?_
  intro hok
  simp only [decide_true, Bool.true_and, Bool.or_eq_true, decide_eq_true_eq, Bool.not_eq_true', not_or,
    Bool.not_eq_false] at hok
  refine Ensures.then_pure (Ensures.bind fun _ => Ensures.modS fun t => ⟨?_, hok.2⟩)
  rw [vpnOf_its, tblGet_setTlb, tblGet_setTlb]
  cases va.getLsbD 9 <;> simp

/-! ### Translation -/

/-- The fill for a write caches a writable entry, whatever the discipline (R182, R187, R192). -/
theorem fill_write_caches (user : Bool) (va : VAddr) : Ensures (fill user .write va) (CachesWritable user va) := by
  intro s e t h
  unfold fill at h
  split at h
  · exact fillIts_write_caches user va s e t h
  · split at h
    · exact fillT20_write_caches user va s e t h
    · exact fillT10_write_caches user va s e t h

/-- A cached entry answers every reference to its page it permits, with no walk (R91, R170). -/
theorem entryFor_cached {user : Bool} {mode : AccMode} {va : VAddr} {e : TlbEntry} {s : State}
    (hc : tblGet (s.cache.table user) (vpnOf va) = some e) (hw : mode = .write → e.writable = true) :
    entryFor user mode va s = .ok e s := by
  have hok : (mode != .write || e.writable) = true := by
    by_cases h : mode = .write
    · simp [hw h]
    · simp [h]
  simp only [entryFor, hc, hok, if_true]

/-- The entry that maps a reference for writing is cached for its page, and writable (R170). -/
theorem entryFor_write_caches (user : Bool) (va : VAddr) :
    Ensures (entryFor user .write va) (CachesWritable user va) := by
  intro s e t h
  cases hc : tblGet (s.cache.table user) (vpnOf va) with
  | none =>
    simp only [entryFor, hc] at h
    exact fill_write_caches user va s e t h
  | some e0 =>
    by_cases hw : e0.writable = true
    · rw [entryFor_cached hc fun _ => hw] at h
      cases h
      exact ⟨hc, hw⟩
    · simp only [entryFor, hc, bne_self_eq_false, Bool.false_or, hw] at h
      exact fill_write_caches user va s e t h

/-- With paging on a translation is the entry that maps the address, and its physical address (R170). -/
theorem translate_paged {user : Bool} {mode : AccMode} {va : VAddr} {s : State} (hp : s.base.ebr.pgon = true) :
    translate user mode va s = (do
      let e ← entryFor user mode va
      pure (physOf e.ppn va) : M Nat) s := by
  simp only [translate, hp, if_true]

/-- Settles O15: `entryFor_cached` for a page that is cached, `entryFor_write_caches` for what a write leaves cached. -/
theorem writeNeedsWritablePage : Obligations.WriteNeedsWritablePage := by
  constructor
  · intro user mode va e s hp hc hw
    rw [translate_paged hp, run_bind, entryFor_cached hc hw]
    rfl
  · intro user va pa s t hp h
    rw [translate_paged hp] at h
    obtain ⟨e, u, he, h⟩ := bind_ok h
    cases h
    obtain ⟨hc, hw⟩ := entryFor_write_caches user va s e _ he
    exact ⟨e, hc, hw, rfl⟩

end Sys2Proof.Machine
end

section
/-! SUPPORT. What a reference to memory leaves of memory: every word but those the pager itself rewrites (R187, R192). -/

namespace Sys2Proof.Machine

open Sys2Proof

/-! ### States a reference reaches -/

theorem SameRegisters.pagerOwns {s t : State} (h : SameRegisters s t) : t.pagerOwns = s.pagerOwns := by
  funext a
  simp only [State.pagerOwns, h.base, h.cfg]

/-- Reached by references to memory: the registers are the same, and memory is but for words the pager owns. -/
def Reached (s t : State) : Prop := SameRegisters s t ∧ MemSameOutside s.pagerOwns s t

theorem Reached.refl (s : State) : Reached s s := ⟨SameRegisters.refl s, fun _ _ => rfl⟩

/-- A change of the state that leaves memory as it is. -/
theorem Reached.of_mem {s t u : State} (h : Reached s t) (hr : SameRegisters t u) (hm : u.mem = t.mem) : Reached s u :=
  ⟨h.1.trans hr, fun a ha => by rw [hm]; exact h.2 a ha⟩

/-- A write of a word the pager owns. -/
theorem Reached.setMem {s t : State} {pa : Nat} (h : Reached s t) (ho : s.pagerOwns pa) (v : Word) :
    Reached s (t.setMem pa v) := by
  refine ⟨h.1.trans (same_mem t _), fun a ha => ?_⟩
  have hne : a ≠ pa := fun he => ha (he ▸ ho)
  simp only [State.setMem, tblGet_tblSet, hne, if_false]
  exact h.2 a ha

/-- From every state reached from `s`, the operation reaches only such states, however it ends. -/
def Walks {α : Type} (s : State) (x : M α) : Prop :=
  ∀ t, Reached s t →
    match x t with
    | .ok _ u => Reached s u
    | .error _ u => Reached s u

section
variable {α β : Type} {s : State}

/-! ### Combinators -/

theorem Walks.ok {x : M α} (hx : Walks s x) {a : α} {t : State} (h : x s = .ok a t) : Reached s t := by
  have key := hx s (Reached.refl s)
  rwa [h] at key

theorem Walks.pure (a : α) : Walks s (Pure.pure a : M α) := fun _ h => h

theorem Walks.raise (a : Abort) : Walks s (Machine.raise a : M α) := fun _ h => h

theorem Walks.bind {x : M α} {f : α → M β} (hx : Walks s x) (hf : ∀ a, Walks s (f a)) : Walks s (x >>= f) := by
  intro t h
  rw [run_bind]
  have key := hx t h
  cases hs : x t with
  | ok a u =>
    rw [hs] at key
    exact hf a u key
  | error e u =>
    rw [hs] at key
    exact key

/-- An operation that looks at the state, which then is one reached. -/
theorem Walks.getS_bind {f : State → M α} (hf : ∀ t, Reached s t → Walks s (f t)) : Walks s (getS >>= f) :=
  fun t h => hf t h t h

theorem Walks.ite {c : Prop} [Decidable c] {x y : M α} (hx : Walks s x) (hy : Walks s y) :
    Walks s (if c then x else y) := by
  split <;> assumption

theorem Walks.onlyIf {c : Bool} {x : M Unit} (hx : Walks s x) : Walks s (Machine.onlyIf c x) :=
  Walks.ite hx (Walks.pure ())

theorem Walks.modS {f : State → State} (hr : ∀ t, SameRegisters t (f t)) (hm : ∀ t, (f t).mem = t.mem) :
    Walks s (Machine.modS f) := fun t h => h.of_mem (hr t) (hm t)

/-! ### The operations of a reference -/

theorem Walks.setPagerWord (w : Word) : Walks s (Machine.setPagerWord w) := Walks.modS (same_pagerWord · w) fun _ => rfl

theorem Walks.notePfw (ev : PfwEvent) : Walks s (Machine.notePfw ev) := fun t h => h.of_mem (same_pagerWord t _) rfl

theorem Walks.failWith (ev : PfwEvent) : Walks s (Machine.failWith ev : M α) :=
  fun t h => h.of_mem (same_pagerWord t _) rfl

theorem Walks.physRead (pa : Nat) : Walks s (Machine.physRead pa) := by
  intro t h
  rcases physRead_cases pa t with ⟨-, w, -, he⟩ | ⟨-, -, he⟩ | ⟨-, he⟩ <;> rw [he]
  · exact h
  · exact h
  · exact h.of_mem (same_signalNxm t) rfl

theorem Walks.readP (user : Bool) (pa : Nat) : Walks s (Machine.readP user pa) :=
  Walks.bind (Walks.physRead pa) fun o => by
    cases o with
    | none => exact Walks.failWith _
    | some w => exact Walks.pure w

theorem Walks.physWrite {pa : Nat} (ho : s.pagerOwns pa) (v : Word) : Walks s (Machine.physWrite pa v) := by
  intro t h
  rcases physWrite_cases pa v t with ⟨-, he⟩ | ⟨-, he⟩ <;> rw [he]
  · exact h.setMem ho v
  · exact h.of_mem (same_signalNxm t) rfl

/-- The pager writes only words it owns. -/
theorem Walks.writeP (user : Bool) {pa : Nat} (ho : s.pagerOwns pa) (v : Word) : Walks s (Machine.writeP user pa v) :=
  Walks.bind (Walks.physWrite ho v) fun _ => Walks.ite (Walks.pure _) (Walks.failWith _)

theorem Walks.countIndirect : Walks s Machine.countIndirect := Walks.modS same_countIndirect fun _ => rfl

theorem Walks.indLimit (n : Nat) : Walks s (Machine.indLimit n) := by
  intro t h
  unfold Machine.indLimit
  by_cases hl : t.cfg.indMax ≠ 0 ∧ t.cfg.indMax < n
  · rw [if_pos hl]
    exact h
  · rw [if_neg hl]
    exact h

theorem Walks.reenterIfPending : Walks s Machine.reenterIfPending := by
  intro t h
  have hpass : Reached s t.passCheckpoint := h.of_mem (same_passCheckpoint t) rfl
  by_cases hc : t.piCycle = true
  · rw [reenterIfPending_cycle hc]
    exact h
  · unfold Machine.reenterIfPending
    rw [if_neg hc]
    by_cases hp : t.piPending ≠ 0 ∨ t.arrival = true
    · rw [if_pos hp]
      exact hpass
    · rw [if_neg hp]
      exact hpass

theorem Walks.setTlb (user : Bool) (v : Nat) (e : TlbEntry) : Walks s (Machine.modS fun t => t.setTlb user v e) :=
  Walks.modS (fun t => same_cache t _) fun _ => rfl

/-! ### The fills -/

theorem Walks.fillT10 (user : Bool) (mode : AccMode) (va : VAddr) : Walks s (Machine.fillT10 user mode va) :=
  Walks.getS_bind fun _ _ => Walks.bind (Walks.readP _ _) fun _ => Walks.bind (Walks.notePfw _) fun _ =>
    Walks.ite (Walks.raise _) (Walks.bind (Walks.onlyIf (Walks.setTlb _ _ _)) fun _ => Walks.pure _)

/-- The TOPS-20 pager is in force. -/
def State.pagesT20 (s : State) : Prop := s.base.ebr.pgon = true ∧ s.cfg.its = false ∧ s.base.ebr.t20 = true

/-- Under TOPS-20 the pager owns the CST entry of every page (R187). -/
theorem pagerOwns_cstAddr {t : State} (hs : s.pagesT20) (h : Reached s t) (ppn : BitVec 13) :
    s.pagerOwns (t.cstAddr ppn) := by
  obtain ⟨hp, hi, h20⟩ := hs
  have hlt := ppn.isLt
  have hb : t.base = s.base := h.1.base
  refine ⟨hp, ?_⟩
  simp only [hi, h20, State.cstAddr, hb, Bool.false_eq_true, if_false, true_and]
  omega

theorem Walks.pointerCheck (mode : AccMode) (n : Nat) : Walks s (Machine.pointerCheck mode n) :=
  Walks.ite
    (Walks.bind Walks.countIndirect fun _ => Walks.bind (Walks.indLimit n) fun _ =>
      Walks.bind Walks.reenterIfPending fun _ => Walks.pure _)
    (Walks.getS_bind fun _ _ => Walks.pure _)

theorem Walks.readSpt (user : Bool) (ptr : Word) : Walks s (Machine.readSpt user ptr) :=
  Walks.getS_bind fun _ _ => Walks.readP _ _

theorem Walks.tableAge (hs : s.pagesT20) (user : Bool) (mode : AccMode) (ppn : BitVec 13) :
    Walks s (Machine.tableAge user mode ppn) :=
  Walks.getS_bind fun _ h => Walks.ite
    (Walks.bind (Walks.readP _ _) fun _ => Walks.ite (Walks.pure _)
      (Walks.bind (Walks.onlyIf (Walks.writeP _ (pagerOwns_cstAddr hs h ppn) _)) fun _ => Walks.pure _))
    (Walks.pure _)

theorem Walks.resolve (hs : s.pagesT20) (user : Bool) (mode : AccMode) :
    ∀ (fuel n : Nat) (ptr : Word) (accW accC : Bool), Walks s (Machine.resolve user mode fuel n ptr accW accC)
  | 0, _, _, _, _ => Walks.raise _
  | fuel + 1, n, ptr, accW, accC => by
    unfold Machine.resolve
    refine Walks.getS_bind fun t _ => Walks.ite (Walks.pure _) (Walks.ite ?shared (Walks.ite ?indirect (Walks.pure _)))
    case shared => exact Walks.bind (Walks.readSpt _ _) fun _ => Walks.pure _
    case indirect =>
      refine Walks.bind (Walks.readSpt _ _) fun t => Walks.ite (Walks.pure _) ?_
      refine Walks.bind (Walks.pointerCheck _ _) fun b => Walks.ite ?_ (Walks.pure _)
      refine Walks.bind (Walks.tableAge hs _ _ _) fun b => Walks.ite ?_ (Walks.pure _)
      exact Walks.bind (Walks.readP _ _) fun _ => Walks.resolve hs user mode fuel _ _ _ _

theorem Walks.sectionRef (hs : s.pagesT20) (user : Bool) (mode : AccMode) (va : VAddr) :
    Walks s (Machine.sectionRef user mode va) := by
  refine Walks.getS_bind fun t _ => ?_
  cases t.cache.sect user with
  | some r => exact Walks.pure r
  | none =>
    refine Walks.bind (Walks.readP _ _) fun ptr => Walks.bind (Walks.resolve hs _ _ _ _ _ _ _) fun o => ?_
    cases o with
    | none => exact Walks.failWith _
    | some r => exact Walks.bind (Walks.onlyIf (Walks.modS (fun u => same_cache u _) fun _ => rfl)) fun _ => Walks.pure _

theorem Walks.pageRef (hs : s.pagesT20) (user : Bool) (mode : AccMode) (va : VAddr) (sect : PageRef) :
    Walks s (Machine.pageRef user mode va sect) :=
  Walks.getS_bind fun _ _ => Walks.bind (Walks.tableAge hs _ _ _) fun _ =>
    Walks.ite (Walks.bind (Walks.readP _ _) fun _ => Walks.resolve hs _ _ _ _ _ _ _) (Walks.pure _)

theorem Walks.fillT20 (hs : s.pagesT20) (user : Bool) (mode : AccMode) (va : VAddr) :
    Walks s (Machine.fillT20 user mode va) := by
  refine Walks.bind (Walks.sectionRef hs _ _ _) fun sect => Walks.bind (Walks.pageRef hs _ _ _ _) fun o => ?_
  cases o with
  | none => exact Walks.failWith _
  | some pg =>
    refine Walks.getS_bind fun t h => Walks.bind (Walks.readP _ _) fun cst =>
      Walks.ite (Walks.failWith _) (Walks.ite (Walks.failWith _) ?_)
    exact Walks.bind (Walks.onlyIf (Walks.writeP _ (pagerOwns_cstAddr hs h pg.ppn) _)) fun _ =>
      Walks.bind (Walks.notePfw _) fun _ => Walks.bind (Walks.onlyIf (Walks.setTlb _ _ _)) fun _ => Walks.pure _

/-- The ITS pager is in force. -/
def State.pagesIts (s : State) : Prop := s.base.ebr.pgon = true ∧ s.cfg.its = true

/-- The page tables of ITS start at one of the four descriptor base registers (R190). -/
theorem itsDbr_mem (t : State) (user : Bool) (va : VAddr) :
    ∃ d ∈ [t.base.dbr1, t.base.dbr2, t.base.dbr3, t.base.dbr4], t.itsDbr user va = d.toNat := by
  unfold State.itsDbr
  cases user <;> cases va.getLsbD 17 <;> simp

/-- Under ITS the pager owns the page-table word of every page (R190, R192). -/
theorem pagerOwns_itsPair {t : State} (hs : s.pagesIts) (h : Reached s t) (user : Bool) (va : VAddr) (ip : Nat) :
    s.pagerOwns (t.itsDbr user va + ip % 0o200 / 2) := by
  obtain ⟨hp, hi⟩ := hs
  obtain ⟨d, hd, he⟩ := itsDbr_mem t user va
  have hb : t.base = s.base := h.1.base
  rw [hb] at hd
  refine ⟨hp, ?_⟩
  rw [if_pos hi, he]
  exact ⟨d, hd, by omega, by omega⟩

theorem Walks.fillIts (hs : s.pagesIts) (user : Bool) (mode : AccMode) (va : VAddr) :
    Walks s (Machine.fillIts user mode va) :=
  Walks.getS_bind fun _ h => Walks.bind (Walks.readP _ _) fun _ => Walks.bind (Walks.setPagerWord _) fun _ =>
    Walks.ite (Walks.raise _) (Walks.bind (Walks.onlyIf
      (Walks.bind (Walks.writeP _ (pagerOwns_itsPair hs h user va _) _) fun _ =>
        Walks.modS (fun u => same_cache u _) fun _ => rfl)) fun _ => Walks.pure _)

/-! ### References and the effective address -/

/-- With paging on, the fill of whatever discipline is in force. -/
theorem Walks.fill (hp : s.base.ebr.pgon = true) (user : Bool) (mode : AccMode) (va : VAddr) :
    Walks s (Machine.fill user mode va) := by
  intro t h
  unfold Machine.fill
  have hc : t.cfg = s.cfg := h.1.cfg
  have hb : t.base = s.base := h.1.base
  by_cases hi : s.cfg.its = true
  · rw [hc, if_pos hi]
    exact Walks.fillIts ⟨hp, hi⟩ user mode va t h
  · by_cases h20 : s.base.ebr.t20 = true
    · rw [hc, if_neg hi, hb, if_pos h20]
      exact Walks.fillT20 ⟨hp, by simpa using hi, h20⟩ user mode va t h
    · rw [hc, if_neg hi, hb, if_neg h20]
      exact Walks.fillT10 user mode va t h

theorem Walks.entryFor (hp : s.base.ebr.pgon = true) (user : Bool) (mode : AccMode) (va : VAddr) :
    Walks s (Machine.entryFor user mode va) := by
  intro t h
  unfold Machine.entryFor
  cases tblGet (t.cache.table user) (vpnOf va) with
  | none => exact Walks.fill hp user mode va t h
  | some e =>
    by_cases hw : (mode != .write || e.writable) = true
    · simp only [hw, if_true]
      exact h
    · simp only [hw, Bool.false_eq_true, if_false]
      exact Walks.fill hp user mode va t h

theorem Walks.translate (user : Bool) (mode : AccMode) (va : VAddr) : Walks s (Machine.translate user mode va) := by
  intro t h
  unfold Machine.translate
  have hb : t.base = s.base := h.1.base
  by_cases hp : s.base.ebr.pgon = true
  · rw [hb, if_pos hp]
    exact Walks.bind (Walks.entryFor hp user mode va) (fun _ => Walks.pure _) t h
  · rw [hb, if_neg hp]
    exact h

theorem Walks.readAs (mode : AccMode) (c : Ctx) (va : VAddr) : Walks s (Machine.readAs mode c va) := by
  intro t h
  unfold Machine.readAs
  by_cases ha : isAc va = true
  · rw [if_pos ha]
    exact h
  · rw [if_neg ha]
    exact Walks.bind (Walks.translate _ _ _) (fun _ => Walks.readP _ _) t h

theorem Walks.indirectChecks (n : Nat) : Walks s (Machine.indirectChecks n) :=
  Walks.bind Walks.countIndirect fun _ => Walks.bind (Walks.indLimit _) fun _ =>
    Walks.ite Walks.reenterIfPending (Walks.pure _)

theorem Walks.eaLoop (c : Ctx) :
    ∀ (fuel n : Nat) (last : Option Word) (m : EaField), Walks s (Machine.eaLoop c fuel n last m)
  | 0, _, _, _ => Walks.raise _
  | fuel + 1, n, last, m => by
    unfold Machine.eaLoop
    refine Walks.getS_bind fun _ _ => Walks.ite ?_ (Walks.pure _)
    exact Walks.bind (Walks.indirectChecks _) fun _ => Walks.bind (Walks.readAs _ _ _) fun _ => Walks.eaLoop c fuel _ _ _

theorem Walks.ea (m : EaField) : Walks s (Machine.ea m) :=
  Walks.bind (fun t h => Walks.getS_bind (fun _ _ => Walks.eaLoop t.ctxEa _ _ _ _) t h) fun _ => Walks.pure _

end

/-- A write outside the accumulators changes, besides what its translation leaves changed, only the word it translates
to. -/
theorem vwrite_memSameOutside {c : Ctx} {va : VAddr} {v : Word} {s t u : State} {pa : Nat} (hva : isAc va = false)
    (hw : vwrite c va v s = .ok () t) (ht : translate (s.space c) .write va s = .ok pa u) :
    MemSameOutside (fun a => s.pagerOwns a ∨ a = pa) s t := by
  have hu : Reached s u := (Walks.translate _ _ _).ok ht
  simp only [vwrite, hva, Bool.false_eq_true, if_false, run_bind, ht, writeP] at hw
  intro a ha
  obtain ⟨ho, hne⟩ := not_or.mp ha
  rw [← hu.2 a ho]
  rcases physWrite_cases pa v u with ⟨-, he⟩ | ⟨-, he⟩
  · simp only [he, run_ite, if_true, run_pure] at hw
    cases hw
    simp only [State.setMem, tblGet_tblSet, hne, if_false]
  · simp only [he, run_ite, run_pure, run_failWith] at hw
    split at hw <;> cases hw
    rfl

/-- Settles O11: `Walks` for what the pager may rewrite, `vwrite_memSameOutside` for a write. -/
theorem operandFrame : Obligations.OperandFrame := by
  refine ⟨fun m e s t h => (Walks.ea m).ok h, ?_, ?_⟩
  · rintro c va w s t (h | h)
    · exact (Walks.readAs _ _ _).ok h
    · exact (Walks.readAs _ _ _).ok h
  · intro c va v s t hva h
    have hna : isAc va = false := by simpa [isAc] using hva
    exact ⟨vwrite_same hna h, fun pa u ht => vwrite_memSameOutside hna h ht⟩

end Sys2Proof.Machine
end

section
/-! SUPPORT. AFI, DEC bit 8, is in no flag set that an instruction ors into the flags register (R600 to R602, R502, R689), so
that setting them keeps the invariant of Safety.lean (R75). -/

namespace Sys2Proof.Machine

open Sys2Proof

theorem ite_afi {c : Prop} [Decidable c] {f g : Flags} (hf : f.afi = false) (hg : g.afi = false) :
    (if c then f else g).afi = false := by
  split <;> assumption

/-! ### Integer arithmetic -/

@[simp] theorem add36_afi (a b : Word) (cin : Bool) : (add36 a b cin).flags.afi = false := rfl

@[simp] theorem sub36_afi (a b : Word) : (sub36 a b).flags.afi = false := rfl

@[simp] theorem neg36_afi (x : Word) : (neg36 x).flags.afi = false := ite_afi rfl (ite_afi rfl rfl)

@[simp] theorem mag36_afi (x : Word) : (mag36 x).flags.afi = false := ite_afi rfl rfl

@[simp] theorem imul36_afi (a b : Word) : (imul36 a b).flags.afi = false := by
  unfold imul36
  dsimp only
  split
  · rfl
  · split <;> rfl

@[simp] theorem mul72_afi (a b : Word) : (mul72 a b).flags.afi = false := by
  unfold mul72
  split <;> rfl

@[simp] theorem dadd_afi (c : Config) (ah al bh bl : Word) : (dadd c ah al bh bl).flags.afi = false := rfl

@[simp] theorem dsub_afi (c : Config) (ah al bh bl : Word) : (dsub c ah al bh bl).flags.afi = false := rfl

@[simp] theorem dneg_afi (c : Config) (hi lo : Word) : (dneg c hi lo).flags.afi = false :=
  ite_afi rfl (ite_afi rfl rfl)

@[simp] theorem dmul_afi (c : Config) (ah al bh bl : Word) : (dmul c ah al bh bl).flags.afi = false := by
  unfold dmul
  dsimp only
  split <;> rfl

/-! ### Shifts and stack pointers -/

@[simp] theorem ash_afi (a : Word) (e : VAddr) : (ash a e).flags.afi = false := by
  unfold ash
  dsimp only
  cases (shiftOf e).left
  · rfl
  · exact ite_afi rfl rfl

@[simp] theorem ashc_afi (hi lo : Word) (e : VAddr) : (ashc hi lo e).flags.afi = false := ite_afi rfl rfl

@[simp] theorem adjsp_afi (old : Word) (e : VAddr) : (adjsp old e).flags.afi = false := ite_afi rfl rfl

@[simp] theorem stackFlags_afi (n : Word) : (stackFlags n).afi = false := ite_afi rfl rfl

/-! ### Floating point, under every setting of `FPU` -/

@[simp] theorem enc_afi (x : Scaled) (rnd : Bool) (fbits : Nat) : (enc x rnd fbits).flags.afi = false := by
  unfold enc
  by_cases h : x.num = 0
  · rw [if_pos h]
    rfl
  · rw [if_neg h]
    exact ite_afi rfl (ite_afi rfl rfl)

@[simp] theorem fp_afi (op : Scaled → Scaled → Scaled) (rnd : Bool) (a b : Word) : (fp op rnd a b).flags.afi = false :=
  enc_afi _ _ _

@[simp] theorem dfp_afi (op : Scaled → Scaled → Scaled) (rnd : Bool) (a b : Word × Word) :
    (dfp op rnd a b).flags.afi = false :=
  enc_afi _ _ _

@[simp] theorem answerFlags_afi (r : FpuAnswer) : (answerFlags r).afi = false := by
  unfold answerFlags
  split <;> rfl

theorem fdiv_afi {rnd : Bool} {a b : Word} {r : WordFlags} (h : fdiv rnd a b = some r) : r.flags.afi = false := by
  unfold fdiv at h
  split at h <;> cases h
  exact fp_afi _ _ _ _

theorem dfdiv_afi {rnd : Bool} {a b : Word × Word} {r : PairFlags} (h : dfdiv rnd a b = some r) :
    r.flags.afi = false := by
  unfold dfdiv at h
  split at h <;> cases h
  exact dfp_afi _ _ _ _

theorem floatNum_afi {c : Config} {op : FloatOp} {rnd : Bool} {a b : Word} {r : WordFlags}
    (h : floatNum c op rnd a b = some r) : r.flags.afi = false := by
  unfold floatNum at h
  split at h
  · split at h
    · exact fdiv_afi h
    · cases h
      exact fp_afi _ _ _ _
  · dsimp only at h
    split at h <;> cases h
    exact answerFlags_afi _

theorem dfloatNum_afi {c : Config} {op : FloatOp} {a b : Word × Word} {r : PairFlags}
    (h : dfloatNum c op a b = some r) : r.flags.afi = false := by
  unfold dfloatNum at h
  split at h
  · split at h
    · exact dfdiv_afi h
    · cases h
      exact dfp_afi _ _ _ _
  · dsimp only at h
    split at h <;> cases h
    exact answerFlags_afi _

@[simp] theorem floatedNum_afi (c : Config) (w : Word) : (floatedNum c w).flags.afi = false := by
  unfold floatedNum
  split
  · exact enc_afi _ _ _
  · exact answerFlags_afi _

@[simp] theorem scaledNum_afi (c : Config) (a : Word) (e : VAddr) : (scaledNum c a e).flags.afi = false := by
  unfold scaledNum
  split
  · exact enc_afi _ _ _
  · exact answerFlags_afi _

end Sys2Proof.Machine
end

section
/-! SUPPORT. Every operand form and every instruction's meaning keeps the invariant of Safety.lean, however it ends. -/

namespace Sys2Proof.Machine

open Sys2Proof

/-! ### Shared operations -/

/-- An operation that looks at the state, which then has the invariant. -/
theorem Keeps.getS_bind {α : Type} {f : State → M α} (hf : ∀ s, s.inv = true → Keeps (f s)) : Keeps (Machine.getS >>= f) :=
  fun s h => hf s h s h

theorem Keeps.wrE2 (e : VAddr) (hi lo : Word) : Keeps (Machine.wrE2 e hi lo) :=
  Keeps.bind (Keeps.wrE _ _) fun _ => Keeps.wrE _ _

theorem Keeps.rdE2 (e : VAddr) : Keeps (Machine.rdE2 e) :=
  Keeps.bind (Keeps.rdE _) fun _ => Keeps.bind (Keeps.rdE _) fun _ => Keeps.pure _

section
variable (ac : AcNum) (m : EaField)

/-! ### Operand forms without flags -/

theorem Keeps.acOnly (f : Word → Word) : Keeps (Machine.acOnly f ac m) :=
  Keeps.bind (Keeps.ea m) fun _ => Keeps.bind (Keeps.getAc _) fun _ => Keeps.putAc _ _

theorem Keeps.acFromImm (f : Word → Word → Word) : Keeps (Machine.acFromImm f ac m) :=
  Keeps.bind (Keeps.ea m) fun _ => Keeps.bind (Keeps.getAc _) fun _ => Keeps.putAc _ _

theorem Keeps.acFromMem (f : Word → Word → Word) : Keeps (Machine.acFromMem f ac m) :=
  Keeps.bind (Keeps.ea m) fun _ => Keeps.bind (Keeps.rdE _) fun _ => Keeps.bind (Keeps.getAc _) fun _ => Keeps.putAc _ _

theorem Keeps.memFromAc (f : Word → Word) : Keeps (Machine.memFromAc f ac m) :=
  Keeps.bind (Keeps.ea m) fun _ => Keeps.bind (Keeps.getAc _) fun _ => Keeps.wrE _ _

theorem Keeps.bothFromAc (f : Word → Word) : Keeps (Machine.bothFromAc f ac m) :=
  Keeps.bind (Keeps.ea m) fun _ => Keeps.bind (Keeps.getAc _) fun _ => Keeps.bind (Keeps.wrE _ _) fun _ =>
    Keeps.putAc _ _

theorem Keeps.memRmw (f : Word → Word → Word) : Keeps (Machine.memRmw f ac m) :=
  Keeps.bind (Keeps.ea m) fun _ => Keeps.bind (Keeps.rdmE _) fun _ => Keeps.bind (Keeps.getAc _) fun _ => Keeps.wrE _ _

theorem Keeps.bothRmw (f : Word → Word → Word) : Keeps (Machine.bothRmw f ac m) :=
  Keeps.bind (Keeps.ea m) fun _ => Keeps.bind (Keeps.rdmE _) fun _ => Keeps.bind (Keeps.getAc _) fun _ =>
    Keeps.bind (Keeps.wrE _ _) fun _ => Keeps.putAc _ _

theorem Keeps.selfRmw (f : Word → Word) : Keeps (Machine.selfRmw f ac m) :=
  Keeps.bind (Keeps.ea m) fun _ => Keeps.bind (Keeps.rdmE _) fun _ => Keeps.bind (Keeps.wrE _ _) fun _ =>
    Keeps.onlyIf (Keeps.putAc _ _)

/-! ### Operand forms with flags, none of which is AFI -/

theorem Keeps.acFromImmF {imm : VAddr → Word} {f : Word → Word → WordFlags} (hf : ∀ a w, (f a w).flags.afi = false) :
    Keeps (Machine.acFromImmF imm f ac m) :=
  Keeps.bind (Keeps.ea m) fun _ => Keeps.bind (Keeps.getAc _) fun _ => Keeps.bind (Keeps.putAc _ _) fun _ =>
    Keeps.setFlags (hf _ _)

theorem Keeps.acFromMemF {f : Word → Word → WordFlags} (hf : ∀ a w, (f a w).flags.afi = false) :
    Keeps (Machine.acFromMemF f ac m) :=
  Keeps.bind (Keeps.ea m) fun _ => Keeps.bind (Keeps.rdE _) fun _ => Keeps.bind (Keeps.getAc _) fun _ =>
    Keeps.bind (Keeps.putAc _ _) fun _ => Keeps.setFlags (hf _ _)

theorem Keeps.memFromAcF {f : Word → WordFlags} (hf : ∀ a, (f a).flags.afi = false) : Keeps (Machine.memFromAcF f ac m) :=
  Keeps.bind (Keeps.ea m) fun _ => Keeps.bind (Keeps.getAc _) fun _ => Keeps.bind (Keeps.wrE _ _) fun _ =>
    Keeps.setFlags (hf _)

theorem Keeps.memRmwF {f : Word → Word → WordFlags} (hf : ∀ a w, (f a w).flags.afi = false) :
    Keeps (Machine.memRmwF f ac m) :=
  Keeps.bind (Keeps.ea m) fun _ => Keeps.bind (Keeps.rdmE _) fun _ => Keeps.bind (Keeps.getAc _) fun _ =>
    Keeps.bind (Keeps.wrE _ _) fun _ => Keeps.setFlags (hf _ _)

theorem Keeps.bothRmwF {f : Word → Word → WordFlags} (hf : ∀ a w, (f a w).flags.afi = false) :
    Keeps (Machine.bothRmwF f ac m) :=
  Keeps.bind (Keeps.ea m) fun _ => Keeps.bind (Keeps.rdmE _) fun _ => Keeps.bind (Keeps.getAc _) fun _ =>
    Keeps.bind (Keeps.wrE _ _) fun _ => Keeps.bind (Keeps.putAc _ _) fun _ => Keeps.setFlags (hf _ _)

theorem Keeps.selfRmwF {f : Word → WordFlags} (hf : ∀ w, (f w).flags.afi = false) : Keeps (Machine.selfRmwF f ac m) :=
  Keeps.bind (Keeps.ea m) fun _ => Keeps.bind (Keeps.rdmE _) fun _ => Keeps.bind (Keeps.wrE _ _) fun _ =>
    Keeps.bind (Keeps.onlyIf (Keeps.putAc _ _)) fun _ => Keeps.setFlags (hf _)

/-! ### Double words and bytes (41_byte_double.md) -/

theorem Keeps.doubleOp {f : Config → Word → Word → Word → Word → PairFlags}
    (hf : ∀ c ah al bh bl, (f c ah al bh bl).flags.afi = false) : Keeps (Machine.doubleOp f ac m) :=
  Keeps.bind (Keeps.ea m) fun _ => Keeps.bind (Keeps.rdE2 _) fun _ => Keeps.bind (Keeps.getAc _) fun _ =>
    Keeps.bind (Keeps.getAc _) fun _ => Keeps.bind Keeps.getS fun _ => Keeps.bind (Keeps.putAc2 _ _ _) fun _ =>
      Keeps.setFlags (hf _ _ _ _ _)

theorem Keeps.dmulOp : Keeps (Machine.dmulOp ac m) :=
  Keeps.bind (Keeps.ea m) fun _ => Keeps.bind (Keeps.rdE2 _) fun _ => Keeps.bind (Keeps.getAc _) fun _ =>
    Keeps.bind (Keeps.getAc _) fun _ => Keeps.bind Keeps.getS fun _ => Keeps.bind (Keeps.putAc2 _ _ _) fun _ =>
      Keeps.bind (Keeps.putAc2 _ _ _) fun _ => Keeps.setFlags (dmul_afi _ _ _ _ _)

theorem Keeps.ddivOp : Keeps (Machine.ddivOp ac m) := by
  refine Keeps.bind (Keeps.ea m) fun e => Keeps.bind (Keeps.rdE2 _) fun b => Keeps.bind (Keeps.getAc _) fun w0 =>
    Keeps.bind (Keeps.getAc _) fun w1 => Keeps.bind (Keeps.getAc _) fun w2 => Keeps.bind (Keeps.getAc _) fun w3 =>
      Keeps.bind Keeps.getS fun s => ?_
  cases ddiv s.cfg w0 w1 w2 w3 b.1 b.2 with
  | none => exact Keeps.setFlags rfl
  | some r => exact Keeps.bind (Keeps.putAc2 _ _ _) fun _ => Keeps.putAc2 _ _ _

theorem Keeps.dmoveOp : Keeps (Machine.dmoveOp ac m) :=
  Keeps.bind (Keeps.ea m) fun _ => Keeps.bind (Keeps.rdE2 _) fun _ => Keeps.putAc2 _ _ _

theorem Keeps.dmovnOp : Keeps (Machine.dmovnOp ac m) :=
  Keeps.bind (Keeps.ea m) fun _ => Keeps.bind (Keeps.rdE2 _) fun _ => Keeps.bind Keeps.getS fun _ =>
    Keeps.bind (Keeps.putAc2 _ _ _) fun _ => Keeps.setFlags (dneg_afi _ _ _)

theorem Keeps.dmovemOp : Keeps (Machine.dmovemOp ac m) :=
  Keeps.bind (Keeps.ea m) fun _ => Keeps.bind (Keeps.getAc _) fun _ => Keeps.bind (Keeps.getAc _) fun _ =>
    Keeps.wrE2 _ _ _

theorem Keeps.dmovnmOp : Keeps (Machine.dmovnmOp ac m) :=
  Keeps.bind (Keeps.ea m) fun _ => Keeps.bind (Keeps.getAc _) fun _ => Keeps.bind (Keeps.getAc _) fun _ =>
    Keeps.bind Keeps.getS fun _ => Keeps.bind (Keeps.wrE2 _ _ _) fun _ => Keeps.setFlags (dneg_afi _ _ _)

theorem Keeps.adjspOp : Keeps (Machine.adjspOp ac m) :=
  Keeps.bind (Keeps.ea m) fun _ => Keeps.bind (Keeps.getAc _) fun _ => Keeps.bind (Keeps.putAc _ _) fun _ =>
    Keeps.setFlags (adjsp_afi _ _)

theorem Keeps.ibpOp : Keeps (Machine.ibpOp m) :=
  Keeps.bind (Keeps.ea m) fun _ => Keeps.bind (Keeps.rdmE _) fun _ => Keeps.wrE _ _

theorem Keeps.adjbpOp : Keeps (Machine.adjbpOp ac m) := by
  refine Keeps.bind (Keeps.ea m) fun e => Keeps.bind (Keeps.rdE _) fun bp => Keeps.bind (Keeps.getAc _) fun a => ?_
  cases adjbp bp (signed a) with
  | none => exact Keeps.setFlags rfl
  | some r => exact Keeps.putAc _ _

theorem Keeps.putFpd (v : Bool) : Keeps (Machine.putFpd v) := Keeps.modS fun _ h => h

theorem Keeps.incrPart (e : VAddr) : Keeps (Machine.incrPart e) :=
  Keeps.bind Keeps.getS fun _ => Keeps.ite (Keeps.pure _) (Keeps.bind (Keeps.rdmE _) fun _ =>
    Keeps.bind (Keeps.wrE _ _) fun _ => Keeps.putFpd _)

theorem Keeps.ildbOp : Keeps (Machine.ildbOp ac m) :=
  Keeps.bind (Keeps.ea m) fun _ => Keeps.bind (Keeps.incrPart _) fun _ => Keeps.bind (Keeps.rdE _) fun _ =>
    Keeps.bind (Keeps.loadByte _) fun _ => Keeps.bind (Keeps.putAc _ _) fun _ => Keeps.putFpd _

theorem Keeps.ldbOp : Keeps (Machine.ldbOp ac m) :=
  Keeps.bind (Keeps.ea m) fun _ => Keeps.bind (Keeps.rdE _) fun _ => Keeps.bind (Keeps.loadByte _) fun _ =>
    Keeps.putAc _ _

theorem Keeps.idpbOp : Keeps (Machine.idpbOp ac m) :=
  Keeps.bind (Keeps.ea m) fun _ => Keeps.bind (Keeps.incrPart _) fun _ => Keeps.bind (Keeps.rdE _) fun _ =>
    Keeps.bind (Keeps.getAc _) fun _ => Keeps.bind (Keeps.depositByte _ _) fun _ => Keeps.putFpd _

theorem Keeps.dpbOp : Keeps (Machine.dpbOp ac m) :=
  Keeps.bind (Keeps.ea m) fun _ => Keeps.bind (Keeps.rdE _) fun _ => Keeps.bind (Keeps.getAc _) fun _ =>
    Keeps.depositByte _ _

/-! ### Compares, jumps and skips (46_compare_skip.md) -/

theorem Keeps.caiOp (c : Cond) : Keeps (Machine.caiOp c ac m) :=
  Keeps.bind (Keeps.ea m) fun _ => Keeps.bind (Keeps.getAc _) fun _ => Keeps.skipIf _

theorem Keeps.camOp (c : Cond) : Keeps (Machine.camOp c ac m) :=
  Keeps.bind (Keeps.ea m) fun _ => Keeps.bind (Keeps.rdE _) fun _ => Keeps.bind (Keeps.getAc _) fun _ => Keeps.skipIf _

theorem Keeps.jumpOp (c : Cond) : Keeps (Machine.jumpOp c ac m) :=
  Keeps.bind (Keeps.ea m) fun _ => Keeps.bind (Keeps.getAc _) fun _ => Keeps.onlyIf (Keeps.jump _)

theorem Keeps.skipOp (c : Cond) : Keeps (Machine.skipOp c ac m) :=
  Keeps.bind (Keeps.ea m) fun _ => Keeps.bind (Keeps.rdE _) fun _ => Keeps.bind (Keeps.onlyIf (Keeps.putAc _ _)) fun _ =>
    Keeps.skipIf _

theorem Keeps.acStepJump (k : Word) (c : Cond) : Keeps (Machine.acStepJump k c ac m) :=
  Keeps.bind (Keeps.ea m) fun _ => Keeps.bind (Keeps.getAc _) fun _ => Keeps.bind (Keeps.putAc _ _) fun _ =>
    Keeps.bind (Keeps.setFlags (add36_afi _ _ _)) fun _ => Keeps.onlyIf (Keeps.jump _)

theorem Keeps.memStepSkip (k : Word) (c : Cond) : Keeps (Machine.memStepSkip k c ac m) :=
  Keeps.bind (Keeps.ea m) fun _ => Keeps.bind (Keeps.rdmE _) fun _ => Keeps.bind (Keeps.wrE _ _) fun _ =>
    Keeps.bind (Keeps.onlyIf (Keeps.putAc _ _)) fun _ => Keeps.bind (Keeps.setFlags (add36_afi _ _ _)) fun _ =>
      Keeps.skipIf _

/-! ### Floating point (42_float.md) -/

theorem Keeps.floatOp (op : FloatOp) (rnd : Bool) {operand : VAddr → M Word} (ho : ∀ e, Keeps (operand e))
    (toMem toAc : Bool) : Keeps (Machine.floatOp op rnd operand toMem toAc ac m) := by
  refine Keeps.bind (Keeps.ea m) fun e => Keeps.bind (ho e) fun b => Keeps.bind (Keeps.getAc _) fun a =>
    Keeps.bind Keeps.getS fun s => ?_
  cases hr : floatNum s.cfg op rnd a b with
  | none => exact Keeps.setFlags rfl
  | some r =>
    exact Keeps.bind (Keeps.onlyIf (Keeps.wrE _ _)) fun _ => Keeps.bind (Keeps.onlyIf (Keeps.putAc _ _)) fun _ =>
      Keeps.setFlags (floatNum_afi hr)

theorem Keeps.floatImm (e : VAddr) : Keeps (Machine.floatImm e) := Keeps.pure _

theorem Keeps.dfloatOp (op : FloatOp) : Keeps (Machine.dfloatOp op ac m) := by
  refine Keeps.bind (Keeps.ea m) fun e => Keeps.bind (Keeps.rdE2 _) fun b => Keeps.bind (Keeps.getAc _) fun a0 =>
    Keeps.bind (Keeps.getAc _) fun a1 => Keeps.bind Keeps.getS fun s => ?_
  cases hr : dfloatNum s.cfg op (a0, a1) b with
  | none => exact Keeps.setFlags rfl
  | some r => exact Keeps.bind (Keeps.putAc2 _ _ _) fun _ => Keeps.setFlags (dfloatNum_afi hr)

theorem Keeps.fixOp (rounded : Bool) : Keeps (Machine.fixOp rounded ac m) := by
  refine Keeps.bind (Keeps.ea m) fun e => Keeps.bind (Keeps.rdE _) fun w => Keeps.bind Keeps.getS fun s => ?_
  cases fixedNum s.cfg rounded w with
  | none => exact Keeps.setFlags rfl
  | some r => exact Keeps.putAc _ _

theorem Keeps.fscOp : Keeps (Machine.fscOp ac m) :=
  Keeps.bind (Keeps.ea m) fun _ => Keeps.bind (Keeps.getAc _) fun _ => Keeps.bind Keeps.getS fun _ =>
    Keeps.bind (Keeps.putAc _ _) fun _ => Keeps.setFlags (scaledNum_afi _ _ _)

/-! ### Tests (48_halfword_test.md) -/

theorem Keeps.maskSource (src : MaskSource) (e : VAddr) : Keeps (src.get e) :=
  match src with
  | .right => Keeps.pure _
  | .left => Keeps.pure _
  | .direct => Keeps.rdE _
  | .swapped => Keeps.bind (Keeps.rdE _) fun _ => Keeps.pure _

theorem Keeps.testOp (src : MaskSource) (md : TestMod) (sk : TestSkip) : Keeps (Machine.testOp src md sk ac m) :=
  Keeps.bind (Keeps.ea m) fun _ => Keeps.bind (Keeps.maskSource _ _) fun _ => Keeps.bind (Keeps.getAc _) fun _ =>
    Keeps.bind (Keeps.putAc _ _) fun _ => Keeps.skipIf _

/-! ### Multiplication and division (44_move_arith.md) -/

theorem Keeps.immOperand (e : VAddr) : Keeps (Machine.immOperand e) := Keeps.pure _

theorem Keeps.mulOp {operand : VAddr → M Word} (ho : ∀ e, Keeps (operand e)) (toMem toAc : Bool) :
    Keeps (Machine.mulOp operand toMem toAc ac m) :=
  Keeps.bind (Keeps.ea m) fun e => Keeps.bind (ho e) fun _ => Keeps.bind (Keeps.getAc _) fun _ =>
    Keeps.bind (Keeps.onlyIf (Keeps.wrE _ _)) fun _ => Keeps.bind (Keeps.onlyIf (Keeps.putAc2 _ _ _)) fun _ =>
      Keeps.setFlags (mul72_afi _ _)

theorem Keeps.divOp (quot : Config → Word → Word → Word → Option (Word × Word)) {operand : VAddr → M Word}
    (ho : ∀ e, Keeps (operand e)) (toMem toAc : Bool) : Keeps (Machine.divOp quot operand toMem toAc ac m) := by
  refine Keeps.bind (Keeps.ea m) fun e => Keeps.bind (ho e) fun b => Keeps.bind (Keeps.getAc _) fun a =>
    Keeps.bind (Keeps.getAc _) fun lo => Keeps.bind Keeps.getS fun s => ?_
  cases quot s.cfg a lo b with
  | none => exact Keeps.setFlags rfl
  | some r => exact Keeps.bind (Keeps.onlyIf (Keeps.wrE _ _)) fun _ => Keeps.onlyIf (Keeps.putAc2 _ _ _)

end

end Sys2Proof.Machine
end

section
/-! SUPPORT. The string instructions of EXTEND, the UUOs, the shift, jump, execute, map and stack instructions, and the I/O
and processor-register instructions keep the invariant of Safety.lean, however they end. -/

namespace Sys2Proof.Machine

open Sys2Proof

/-- An operation performed on a condition before the rest. -/
theorem Keeps.guarded {α β : Type} {c : Prop} [Decidable c] {x : M α} {k : M β} (hx : Keeps x) (hk : Keeps k) :
    Keeps (if c then x >>= fun _ => k else k) :=
  Keeps.ite (Keeps.bind hx fun _ => hk) hk

/-- An operation performed before the rest unless a condition holds. -/
theorem Keeps.unlessGuarded {α β : Type} {c : Prop} [Decidable c] {x : M α} {k : M β} (hx : Keeps x) (hk : Keeps k) :
    Keeps (if c then k else x >>= fun _ => k) :=
  Keeps.ite hk (Keeps.bind hx fun _ => hk)

section
variable (ac : AcNum) (m : EaField)

/-! ### EXTEND: shared operations (43_extend.md, R551) -/

theorem Keeps.nextByte (n : AcNum) : Keeps (Machine.nextByte n) :=
  Keeps.bind (Keeps.getAc _) fun _ => Keeps.bind (Keeps.loadByte _) fun _ => Keeps.pure _

theorem Keeps.storeNext (n : AcNum) (v : Word) : Keeps (Machine.storeNext n v) :=
  Keeps.bind (Keeps.getAc _) fun _ => Keeps.bind (Keeps.depositByte _ _) fun _ => Keeps.pure _

theorem Keeps.strPoint (first : Bool) : Keeps (Machine.strPoint first) :=
  Keeps.ite (Keeps.pure _) (Keeps.bind (Keeps.putFpd _) fun _ => Keeps.reenterIfPending)

theorem Keeps.strEnd (skips : Bool) : Keeps (Machine.strEnd skips) :=
  Keeps.bind (Keeps.putFpd _) fun _ => Keeps.skipIf _

theorem Keeps.tableEntry (e1 : VAddr) (b : Word) : Keeps (Machine.tableEntry e1 b) :=
  Keeps.bind (Keeps.rdE _) fun _ => Keeps.pure _

/-! ### EXTEND under another `EXTEND_DETAIL` -/

theorem Keeps.getSix : Keeps (Machine.getSix ac) := fun _ h => h

theorem Keeps.putSix : ∀ (ac : AcNum) (n : Nat) (l : List Word), Keeps (Machine.putSix ac n l)
  | _, 0, _ => Keeps.pure _
  | _, _ + 1, [] => Keeps.pure _
  | ac, n + 1, _ :: t => Keeps.bind (Keeps.putAc _ _) fun _ => Keeps.putSix (ac + 1) n t

theorem Keeps.otherLoop (k : Nat) (sub : BitVec 9) (e0 e1 : VAddr) :
    ∀ (fuel : Nat) (seen : List Word), Keeps (Machine.otherLoop k sub ac e0 e1 fuel seen)
  | 0, _ => Keeps.raise _
  | fuel + 1, seen => by
    have ih := Keeps.otherLoop k sub e0 e1 fuel
    refine Keeps.bind (Keeps.getSix _) fun acs => Keeps.bind Keeps.getS fun s => ?_
    cases Config.extendOther k sub e0 e1 s.flags.fpd acs seen with
    | read va => exact Keeps.bind (Keeps.rdE _) fun _ => ih _
    | write va v => exact Keeps.bind (Keeps.wrE _ _) fun _ => ih _
    | load bp => exact Keeps.bind (Keeps.loadByte _) fun _ => ih _
    | deposit bp v => exact Keeps.bind (Keeps.depositByte _ _) fun _ => ih _
    | progress l => exact Keeps.bind (Keeps.putSix _ _ _) fun _ => Keeps.bind (Keeps.strPoint _) fun _ => ih _
    | done l skips overflow =>
      exact Keeps.bind (Keeps.putSix _ _ _) fun _ => Keeps.bind (Keeps.onlyIf (Keeps.setFlags rfl)) fun _ =>
        Keeps.strEnd _

theorem Keeps.extSub (sub : BitVec 9) (e0 : VAddr) {detail : VAddr → M Unit} (hd : ∀ e1, Keeps (detail e1)) :
    Keeps (Machine.extSub sub ac e0 m detail) := by
  refine Keeps.bind (Keeps.eaIn _ _) fun r => Keeps.bind Keeps.getS fun s => ?_
  cases s.cfg.extendDetail with
  | standard => exact hd _
  | other k => exact Keeps.otherLoop ac _ _ _ _ _ _

/-! ### EXTEND: compare, move, convert, edit -/

theorem Keeps.byteOrFill (more : Bool) (n : AcNum) (fill : Word) : Keeps (Machine.byteOrFill more n fill) :=
  Keeps.ite (Keeps.nextByte _) (Keeps.bind (Keeps.getAc _) fun _ => Keeps.pure _)

theorem Keeps.cmpsLoop (f1 f2 : Word) : ∀ (fuel : Nat) (first : Bool), Keeps (Machine.cmpsLoop f1 f2 ac fuel first)
  | 0, _ => Keeps.pure _
  | fuel + 1, _ =>
    Keeps.bind (Keeps.getAc _) fun _ => Keeps.bind (Keeps.getAc _) fun _ => Keeps.ite (Keeps.pure _)
      (Keeps.bind (Keeps.strPoint _) fun _ => Keeps.bind (Keeps.byteOrFill _ _ _) fun _ =>
        Keeps.bind (Keeps.byteOrFill _ _ _) fun _ => Keeps.bind (Keeps.putAc2 _ _ _) fun _ =>
          Keeps.bind (Keeps.putAc2 _ _ _) fun _ => Keeps.ite (Keeps.cmpsLoop f1 f2 fuel false) (Keeps.pure _))

theorem Keeps.cmpsOp (c : Cond) (e0 : VAddr) : Keeps (Machine.cmpsOp c ac e0) :=
  Keeps.bind (Keeps.rdE _) fun _ => Keeps.bind (Keeps.rdE _) fun _ => Keeps.bind (Keeps.getAc _) fun _ =>
    Keeps.bind (Keeps.getAc _) fun _ => Keeps.bind (Keeps.cmpsLoop _ _ _ _ _) fun _ => Keeps.strEnd _

theorem Keeps.byTable (e1 : VAddr) (a b : Word) : Keeps (Machine.byTable e1 a b) :=
  Keeps.bind (Keeps.tableEntry _ _) fun _ => Keeps.pure _

theorem Keeps.fillNext (e0 : VAddr) (b : Word) : Keeps (Machine.fillNext e0 ac b) :=
  Keeps.bind (Keeps.rdE _) fun _ => Keeps.bind (Keeps.storeNext _ _) fun _ => Keeps.putAc2 _ _ _

section
variable {tr : Word → Word → M Moved} (ht : ∀ a b, Keeps (tr a b))
include ht

theorem Keeps.moveNext (a b : Word) : Keeps (Machine.moveNext tr ac a b) :=
  Keeps.bind (Keeps.nextByte _) fun _ => Keeps.bind (ht _ _) fun _ => Keeps.bind (Keeps.getAc _) fun _ =>
    Keeps.ite (Keeps.bind (Keeps.putAc2 _ _ _) fun _ => Keeps.pure _) <|
      Keeps.ite (Keeps.bind (Keeps.putAc2 _ _ _) fun _ => Keeps.pure _) <|
        Keeps.ite (Keeps.bind (Keeps.putAc2 _ _ _) fun _ => Keeps.pure _) <|
          Keeps.bind (Keeps.storeNext _ _) fun _ => Keeps.bind (Keeps.putAc2 _ _ _) fun _ =>
            Keeps.bind (Keeps.putAc2 _ _ _) fun _ => Keeps.pure _

theorem Keeps.movsLoop (pad : Nat → Nat → Bool) (e0 : VAddr) :
    ∀ (fuel : Nat) (first : Bool), Keeps (Machine.movsLoop tr pad ac e0 fuel first)
  | 0, _ => Keeps.pure _
  | fuel + 1, _ =>
    have ih := Keeps.movsLoop pad e0 fuel false
    Keeps.bind (Keeps.getAc _) fun _ => Keeps.bind (Keeps.getAc _) fun _ => Keeps.ite (Keeps.pure _)
      (Keeps.bind (Keeps.strPoint _) fun _ => Keeps.ite (Keeps.bind (Keeps.fillNext _ _ _) fun _ => ih)
        (Keeps.bind (Keeps.moveNext ac ht _ _) fun _ => Keeps.ite ih (Keeps.pure _)))

theorem Keeps.movsOp (e0 : VAddr) : Keeps (Machine.movsOp tr ac e0) :=
  Keeps.bind (Keeps.getAc _) fun _ => Keeps.bind (Keeps.getAc _) fun _ =>
    Keeps.bind (Keeps.movsLoop ac ht _ _ _ _) fun _ => Keeps.bind (Keeps.getAc _) fun _ => Keeps.strEnd _

end

theorem Keeps.movsrjOp (e0 : VAddr) : Keeps (Machine.movsrjOp ac e0) :=
  Keeps.bind (Keeps.getAc _) fun _ => Keeps.bind (Keeps.getAc _) fun _ => Keeps.bind (Keeps.getAc _) fun _ =>
    Keeps.bind (Keeps.onlyIf (Keeps.putAc2 _ _ _)) fun _ =>
      Keeps.bind (Keeps.movsLoop ac (fun _ _ => Keeps.pure _) _ _ _ _) fun _ => Keeps.strEnd _

theorem Keeps.digitByTable (e1 : VAddr) (a b : Word) : Keeps (Machine.digitByTable e1 a b) :=
  Keeps.bind (Keeps.tableEntry _ _) fun _ => Keeps.pure _

theorem Keeps.putResult (v : Int) : Keeps (Machine.putResult ac v) :=
  Keeps.bind (Keeps.putAc2 _ _ _) fun _ => Keeps.onlyIf (Keeps.setFlags rfl)

theorem Keeps.cvtdbLoop {dg : Word → Word → M Digit} (hd : ∀ a b, Keeps (dg a b)) :
    ∀ (fuel : Nat) (first : Bool), Keeps (Machine.cvtdbLoop dg ac fuel first)
  | 0, _ => Keeps.pure _
  | fuel + 1, _ =>
    Keeps.bind (Keeps.getAc _) fun _ => Keeps.ite (Keeps.pure _) <|
      Keeps.bind (Keeps.strPoint _) fun _ => Keeps.bind (Keeps.nextByte _) fun _ => Keeps.bind (hd _ _) fun _ =>
        Keeps.ite (Keeps.bind (Keeps.putAc _ _) fun _ => Keeps.pure _) <|
          Keeps.bind (Keeps.getAc _) fun _ => Keeps.bind (Keeps.getAc _) fun _ =>
            Keeps.bind (Keeps.putAc2 _ _ _) fun _ => Keeps.bind (Keeps.putResult _ _) fun _ =>
              Keeps.cvtdbLoop hd fuel false

theorem Keeps.cvtdbOp {dg : Word → Word → M Digit} (hd : ∀ a b, Keeps (dg a b)) : Keeps (Machine.cvtdbOp dg ac) :=
  Keeps.bind (Keeps.getAc _) fun _ => Keeps.bind (Keeps.cvtdbLoop ac hd _ _) fun _ => Keeps.ite
    (Keeps.bind (Keeps.getAc _) fun _ => Keeps.bind (Keeps.getAc _) fun _ => Keeps.bind (Keeps.getAc _) fun _ =>
      Keeps.bind (Keeps.onlyIf (Keeps.putResult _ _)) fun _ => Keeps.strEnd _)
    (Keeps.strEnd _)

theorem Keeps.storeDigits {dg : Nat → M Word} (hd : ∀ d, Keeps (dg d)) (signif neg : Bool) :
    ∀ (ds : List Nat) (first : Bool), Keeps (Machine.storeDigits dg ac signif neg ds first)
  | [], _ => Keeps.putAc2 _ _ _
  | _ :: t, _ =>
    Keeps.bind (Keeps.strPoint _) fun _ => Keeps.bind (hd _) fun _ => Keeps.bind (Keeps.storeNext _ _) fun _ =>
      Keeps.bind (Keeps.getAc _) fun _ => Keeps.bind (Keeps.putAc2 _ _ _) fun _ => Keeps.bind (Keeps.putAc2 _ _ _) fun _ =>
        Keeps.storeDigits hd signif neg t false

theorem Keeps.cvtbdOp {dg : Nat → M Word} (hd : ∀ d, Keeps (dg d)) : Keeps (Machine.cvtbdOp dg ac) :=
  Keeps.bind (Keeps.getAc _) fun _ => Keeps.bind (Keeps.getAc _) fun _ => Keeps.bind (Keeps.getAc _) fun _ =>
    Keeps.bind Keeps.getS fun _ => Keeps.bind (Keeps.putAc _ _) fun _ => Keeps.ite (Keeps.strEnd _)
      (Keeps.bind (Keeps.storeDigits ac hd _ _ _ _) fun _ => Keeps.strEnd _)

theorem Keeps.decByTable (e1 : VAddr) (d : Nat) : Keeps (Machine.decByTable e1 d) :=
  Keeps.bind (Keeps.rdE _) fun _ => Keeps.pure _

theorem Keeps.editStore (v : Word) : Keeps (Machine.editStore ac v) :=
  Keeps.bind (Keeps.storeNext _ _) fun _ => Keeps.putAc _ _

theorem Keeps.editUnlessZero (e : VAddr) : Keeps (Machine.editUnlessZero ac e) :=
  Keeps.bind (Keeps.rdE _) fun _ => Keeps.onlyIf (Keeps.editStore _ _)

theorem Keeps.editSelect (e0 e1 : VAddr) (a : Word) : Keeps (Machine.editSelect ac e0 e1 a) := by
  refine Keeps.bind (Keeps.nextByte _) fun _ => Keeps.bind (Keeps.tableEntry _ _) fun _ => Keeps.ite
    (Keeps.bind (Keeps.putAc2 _ _ _) fun _ => Keeps.pure _) ?_
  have hend (w v : Word) : Keeps (do
      Machine.putAc2 ac w v
      Pure.pure true) := Keeps.bind (Keeps.putAc2 _ _ _) fun _ => Keeps.pure _
  exact Keeps.ite (Keeps.bind (Keeps.editStore _ _) fun _ => hend _ _)
    (Keeps.bind (Keeps.editUnlessZero _ _) fun _ => hend _ _)

theorem Keeps.editSigst (e0 : VAddr) (a : Word) : Keeps (Machine.editSigst ac e0 a) :=
  Keeps.bind (Keeps.getAc _) fun _ => Keeps.bind (Keeps.getAc _) fun _ =>
    Keeps.bind (Keeps.onlyIf (Keeps.bind (Keeps.wrE _ _) fun _ => Keeps.editUnlessZero _ _)) fun _ => Keeps.putAc _ _

theorem Keeps.editExchmd (a : Word) : Keeps (Machine.editExchmd ac a) :=
  Keeps.bind (Keeps.getAc _) fun _ => Keeps.bind (Keeps.getAc _) fun _ => Keeps.bind (Keeps.putAc2 _ _ _) fun _ =>
    Keeps.putAc _ _

theorem Keeps.editPlain (e0 : VAddr) (a : Word) (p : BitVec 9) : Keeps (Machine.editPlain ac e0 a p) :=
  Keeps.ite (Keeps.editSigst _ _ _) <| Keeps.ite (Keeps.putAc _ _) <| Keeps.ite (Keeps.editExchmd _ _) <|
    Keeps.ite (Keeps.bind (Keeps.rdE _) fun _ => Keeps.bind (Keeps.editStore _ _) fun _ => Keeps.putAc _ _) <|
      Keeps.ite (Keeps.putAc _ _) <| Keeps.ite (Keeps.putAc _ _) <| Keeps.ite (Keeps.putAc _ _) (Keeps.putAc _ _)

theorem Keeps.editLoop (e0 e1 : VAddr) : ∀ (fuel : Nat) (first : Bool), Keeps (Machine.editLoop ac e0 e1 fuel first)
  | 0, _ => Keeps.raise _
  | fuel + 1, _ =>
    have ih := Keeps.editLoop e0 e1 fuel false
    Keeps.bind (Keeps.strPoint _) fun _ => Keeps.bind (Keeps.getAc _) fun _ => Keeps.bind (Keeps.rdE _) fun _ =>
      Keeps.ite (Keeps.bind (Keeps.putAc _ _) fun _ => Keeps.pure _) <|
        Keeps.ite (Keeps.bind (Keeps.editSelect _ _ _ _) fun _ => Keeps.ite ih (Keeps.pure _))
          (Keeps.bind (Keeps.editPlain _ _ _ _) fun _ => ih)

theorem Keeps.editOp (e0 e1 : VAddr) : Keeps (Machine.editOp ac e0 e1) :=
  Keeps.bind (Keeps.editLoop _ _ _ _ _) fun _ => Keeps.strEnd _

/-! ### EXTEND: the sub-operations (R550) -/

theorem Keeps.cmpsSub (sub : BitVec 9) (c : Cond) (e0 : VAddr) :
    Keeps (Machine.extSub sub ac e0 m fun _ => Machine.cmpsOp c ac e0) :=
  Keeps.extSub _ _ _ _ fun _ => Keeps.cmpsOp _ _ _

theorem Keeps.editSub (e0 : VAddr) : Keeps (Machine.editSub ac e0 m) := Keeps.extSub _ _ _ _ fun _ => Keeps.editOp _ _ _

theorem Keeps.cvtdboSub (e0 : VAddr) : Keeps (Machine.cvtdboSub ac e0 m) :=
  Keeps.extSub _ _ _ _ fun _ => Keeps.cvtdbOp _ fun _ _ => Keeps.pure _

theorem Keeps.cvtdbtSub (e0 : VAddr) : Keeps (Machine.cvtdbtSub ac e0 m) :=
  Keeps.extSub _ _ _ _ fun _ => Keeps.cvtdbOp _ (Keeps.digitByTable _)

theorem Keeps.cvtbdoSub (e0 : VAddr) : Keeps (Machine.cvtbdoSub ac e0 m) :=
  Keeps.extSub _ _ _ _ fun _ => Keeps.cvtbdOp _ fun _ => Keeps.pure _

theorem Keeps.cvtbdtSub (e0 : VAddr) : Keeps (Machine.cvtbdtSub ac e0 m) :=
  Keeps.extSub _ _ _ _ fun _ => Keeps.cvtbdOp _ (Keeps.decByTable _)

theorem Keeps.movsoSub (e0 : VAddr) : Keeps (Machine.movsoSub ac e0 m) :=
  Keeps.extSub _ _ _ _ fun _ => Keeps.movsOp _ (fun _ _ => Keeps.pure _) _

theorem Keeps.movstSub (e0 : VAddr) : Keeps (Machine.movstSub ac e0 m) :=
  Keeps.extSub _ _ _ _ fun _ => Keeps.movsOp _ (Keeps.byTable _) _

theorem Keeps.movsljSub (e0 : VAddr) : Keeps (Machine.movsljSub ac e0 m) :=
  Keeps.extSub _ _ _ _ fun _ => Keeps.movsOp _ (fun _ _ => Keeps.pure _) _

theorem Keeps.movsrjSub (e0 : VAddr) : Keeps (Machine.movsrjSub ac e0 m) :=
  Keeps.extSub _ _ _ _ fun _ => Keeps.movsrjOp _ _

theorem Keeps.extendBody (e0 : VAddr) (x : Word) : Keeps (Machine.extendBody ac e0 x) := by
  unfold Machine.extendBody
  split
  case h_1 | h_2 | h_3 | h_5 | h_6 | h_7 => exact Keeps.cmpsSub _ _ _ _ _
  case h_4 => exact Keeps.editSub _ _ _
  case h_8 => exact Keeps.cvtdboSub _ _ _
  case h_9 => exact Keeps.cvtdbtSub _ _ _
  case h_10 => exact Keeps.cvtbdoSub _ _ _
  case h_11 => exact Keeps.cvtbdtSub _ _ _
  case h_12 => exact Keeps.movsoSub _ _ _
  case h_13 => exact Keeps.movstSub _ _ _
  case h_14 => exact Keeps.movsljSub _ _ _
  case h_15 => exact Keeps.movsrjSub _ _ _
  case h_16 => exact Keeps.muuoSeq _ _ _

theorem Keeps.extendOp : Keeps (Machine.extendOp ac m) :=
  Keeps.bind (Keeps.ea m) fun _ => Keeps.bind (Keeps.vread _ _) fun _ => Keeps.extendBody _ _ _

/-! ### UUOs (40_uuo.md) -/

theorem Keeps.xctLevel : Keeps Machine.xctLevel :=
  Keeps.bind (Keeps.modS fun _ h => h) fun _ => Keeps.bind Keeps.getS fun _ =>
    Keeps.ite (Keeps.raise _) (Keeps.ite Keeps.reenterIfPending (Keeps.pure _))

theorem Keeps.leaveWord (p : Pending) : Keeps (Machine.leaveWord p) := Keeps.modS fun _ h => h

theorem Keeps.setPending (w : Word) (bits : BitVec 4) : Keeps (Machine.setPending w bits) := Keeps.leaveWord _

theorem Keeps.luuoOp (op : BitVec 9) : Keeps (Machine.luuoOp op ac m) :=
  Keeps.bind (Keeps.ea m) fun _ => Keeps.bind Keeps.getS fun _ => Keeps.ite (Keeps.muuoSeq _ _ _)
    (Keeps.bind (Keeps.vwrite _ _ _) fun _ => Keeps.bind (Keeps.vread _ _) fun _ => Keeps.bind Keeps.xctLevel fun _ =>
      Keeps.setPending _ _)

/-- Stop(ILLEG) puts back the state of the start of the instruction, which has the invariant (R433). -/
theorem Keeps.stopIlleg {start : State} (hs : start.inv = true) : Keeps (Machine.stopIlleg start) :=
  Keeps.bind (Keeps.modS fun _ _ => hs) fun _ => Keeps.raise _

theorem Keeps.muuoOp (op : BitVec 9) : Keeps (Machine.muuoOp op ac m) :=
  Keeps.getS_bind fun _ hs => Keeps.bind (Keeps.ea m) fun _ => Keeps.ite (Keeps.stopIlleg hs) (Keeps.muuoSeq _ _ _)

/-! ### Shifts, EXCH, block transfer, AOBJ (45_shift_jump.md) -/

theorem Keeps.shiftOp (f : Word → VAddr → Word) : Keeps (Machine.shiftOp f ac m) :=
  Keeps.bind (Keeps.ea m) fun _ => Keeps.bind (Keeps.getAc _) fun _ => Keeps.putAc _ _

theorem Keeps.ashOp : Keeps (Machine.ashOp ac m) :=
  Keeps.bind (Keeps.ea m) fun _ => Keeps.bind (Keeps.getAc _) fun _ => Keeps.bind (Keeps.putAc _ _) fun _ =>
    Keeps.setFlags (ash_afi _ _)

theorem Keeps.shift2Op (f : Word → Word → VAddr → Word × Word) : Keeps (Machine.shift2Op f ac m) :=
  Keeps.bind (Keeps.ea m) fun _ => Keeps.bind (Keeps.getAc _) fun _ => Keeps.bind (Keeps.getAc _) fun _ =>
    Keeps.putAc2 _ _ _

theorem Keeps.ashcOp : Keeps (Machine.ashcOp ac m) :=
  Keeps.bind (Keeps.ea m) fun _ => Keeps.bind (Keeps.getAc _) fun _ => Keeps.bind (Keeps.getAc _) fun _ =>
    Keeps.bind (Keeps.putAc2 _ _ _) fun _ => Keeps.setFlags (ashc_afi _ _ _)

theorem Keeps.jffoOp : Keeps (Machine.jffoOp ac m) :=
  Keeps.bind (Keeps.ea m) fun _ => Keeps.bind (Keeps.getAc _) fun _ => Keeps.ite (Keeps.putAc _ _)
    (Keeps.bind (Keeps.putAc _ _) fun _ => Keeps.jump _)

theorem Keeps.exchOp : Keeps (Machine.exchOp ac m) :=
  Keeps.bind (Keeps.ea m) fun _ => Keeps.bind (Keeps.rdmE _) fun _ => Keeps.bind (Keeps.getAc _) fun _ =>
    Keeps.bind (Keeps.wrE _ _) fun _ => Keeps.putAc _ _

theorem Keeps.bltLoop (f : Word → Word) :
    ∀ (n : Nat) (first : Bool) (src : VAddr) (dst : Nat), Keeps (Machine.bltLoop f ac n first src dst)
  | 0, _, _, _ => Keeps.putAc _ _
  | n + 1, _, _, _ =>
    Keeps.bind Keeps.getS fun _ => Keeps.bind (Keeps.putAc _ _) fun _ => Keeps.unlessGuarded Keeps.reenterIfPending <|
      Keeps.bind (Keeps.accViol _ _ _) fun _ => Keeps.guarded (Keeps.rdStk _) <|
        Keeps.bind (Keeps.accViol _ _ _) fun _ => Keeps.guarded (Keeps.rdmE _) <|
          Keeps.bind (Keeps.rdStk _) fun _ => Keeps.bind (Keeps.wrE _ _) fun _ => Keeps.bltLoop f n false _ _

theorem Keeps.bltOp (f : Word → Word) (e : VAddr) : Keeps (Machine.bltOp f ac e) :=
  Keeps.bind Keeps.getS fun _ => Keeps.ite (Keeps.ite (Keeps.bltLoop _ _ _ _ _ _) (Keeps.pure _))
    (Keeps.bltLoop _ _ _ _ _ _)

theorem Keeps.withE {act : VAddr → M Unit} (ha : ∀ e, Keeps (act e)) : Keeps (Machine.withE m act) :=
  Keeps.bind (Keeps.ea m) ha

theorem Keeps.aobjOp (whenNeg : Bool) : Keeps (Machine.aobjOp whenNeg ac m) :=
  Keeps.bind (Keeps.ea m) fun _ => Keeps.bind Keeps.getS fun _ => Keeps.bind (Keeps.putAc _ _) fun _ =>
    Keeps.onlyIf (Keeps.jump _)

/-! ### JRST -/

theorem Keeps.jrstOp (cls : JrstClass) (fn : AcNum) {act : VAddr → M Unit} (ha : ∀ e, Keeps (act e)) :
    Keeps (Machine.jrstOp cls fn m act) :=
  Keeps.bind (Keeps.ea m) fun _ => Keeps.bind Keeps.getS fun _ => Keeps.ite (ha _) (Keeps.muuoSeq _ _ _)

theorem Keeps.flagsWord (fn : AcNum) (r : EaResult) : Keeps (Machine.flagsWord fn m r) := fun _ h => h

theorem Keeps.portal (e : VAddr) : Keeps (Machine.portal e) :=
  Keeps.bind (Keeps.modS fun _ h => h) fun _ => Keeps.jump _

theorem Keeps.jrstfOp : Keeps (Machine.jrstfOp m) :=
  Keeps.bind (Keeps.eaFull _) fun _ => Keeps.bind (Keeps.flagsWord _ _ _) fun _ => Keeps.restoreFlpc _ _

theorem Keeps.halt (e : VAddr) : Keeps (Machine.halt e) := Keeps.bind (Keeps.jump _) fun _ => Keeps.raise _

theorem Keeps.xjrstf (e : VAddr) : Keeps (Machine.xjrstf e) := Keeps.bind (Keeps.rdE2 _) fun _ => Keeps.restoreFlpc _ _

theorem Keeps.xjen (e : VAddr) : Keeps (Machine.xjen e) :=
  Keeps.bind (Keeps.rdE2 _) fun _ => Keeps.bind Keeps.dismiss fun _ => Keeps.restoreFlpc _ _

theorem Keeps.xpcwIn {rd : VAddr → M Word} {wr : VAddr → Word → M Unit} (hr : ∀ e, Keeps (rd e))
    (hw : ∀ e v, Keeps (wr e v)) (e : VAddr) : Keeps (Machine.xpcwIn rd wr e) :=
  Keeps.bind Keeps.getS fun _ => Keeps.bind (hw _ _) fun _ => Keeps.bind (hw _ _) fun _ => Keeps.bind (hr _) fun _ =>
    Keeps.bind (hr _) fun _ => Keeps.modS fun _ h => inv_setNewflags _ _ h

theorem Keeps.jrst10 (e : VAddr) : Keeps (Machine.jrst10 e) := Keeps.bind Keeps.dismiss fun _ => Keeps.jump _

theorem Keeps.jenOp : Keeps (Machine.jenOp m) :=
  Keeps.bind (Keeps.eaFull _) fun _ => Keeps.bind Keeps.getS fun _ => Keeps.ite
    (Keeps.bind (Keeps.flagsWord _ _ _) fun _ => Keeps.bind Keeps.dismiss fun _ => Keeps.restoreFlpc _ _)
    (Keeps.muuoSeq _ _ _)

theorem Keeps.sfm (e : VAddr) : Keeps (Machine.sfm e) := Keeps.bind Keeps.getS fun _ => Keeps.wrE _ _

theorem Keeps.xjrst (e : VAddr) : Keeps (Machine.xjrst e) := Keeps.bind (Keeps.rdE _) fun _ => Keeps.jump _

/-! ### JFCL, execute, MAP -/

theorem Keeps.jfclOp : Keeps (Machine.jfclOp ac m) :=
  Keeps.bind (Keeps.ea m) fun _ => Keeps.bind Keeps.getS fun _ => Keeps.bind (Keeps.onlyIf (Keeps.jump _)) fun _ =>
    Keeps.modS fun _ h => h

theorem Keeps.xctOp (bits : BitVec 4) : Keeps (Machine.xctOp bits m) :=
  Keeps.bind (Keeps.ea m) fun _ => Keeps.bind Keeps.xctLevel fun _ => Keeps.bind (Keeps.rdEa _) fun _ =>
    Keeps.bind Keeps.getS fun _ => Keeps.setPending _ _

theorem Keeps.xctrOp (op : BitVec 9) (inhibits : Bool) : Keeps (Machine.xctrOp op inhibits ac m) :=
  Keeps.bind (Keeps.ea m) fun _ => Keeps.bind Keeps.getS fun _ => Keeps.ite
    (Keeps.bind Keeps.xctLevel fun _ => Keeps.bind (Keeps.vread _ _) fun _ => Keeps.leaveWord _) (Keeps.muuoSeq _ _ _)

theorem Keeps.mapWord (user : Bool) (va : VAddr) : Keeps (Machine.mapWord user va) := by
  intro s h
  unfold Machine.mapWord
  by_cases hd : (isAc va || !s.base.ebr.pgon) = true
  · rw [if_pos hd]
    exact h
  · rw [if_neg hd]
    have key := Keeps.entryFor user .map va s h
    cases hs : Machine.entryFor user .map va s with
    | ok e t =>
      rw [hs] at key
      exact key
    | error a t =>
      rw [hs] at key
      cases a <;> exact key

theorem Keeps.mapOp : Keeps (Machine.mapOp ac m) :=
  Keeps.bind (Keeps.ea m) fun _ => Keeps.bind Keeps.getS fun _ => Keeps.ite (Keeps.muuoSeq _ _ _)
    (Keeps.bind (Keeps.mapWord _ _) fun _ => Keeps.putAc _ _)

/-! ### Stack and subroutines -/

/-- Clearing FPD, AFI, TRAP1 and TRAP2 (R71). -/
theorem inv_callClr {s : State} (h : s.inv = true) : ({ s with flags := s.flags.callClr } : State).inv = true := by
  rw [inv_iff] at h ⊢
  obtain ⟨hmem, hexec, huser, -, hlatch, hcfg⟩ := h
  exact ⟨hmem, hexec, huser, fun _ => rfl, hlatch, hcfg⟩

theorem Keeps.clrCall : Keeps Machine.clrCall := Keeps.modS fun _ h => inv_callClr h

theorem Keeps.pushjOp : Keeps (Machine.pushjOp ac m) :=
  Keeps.bind (Keeps.ea m) fun _ => Keeps.bind Keeps.getS fun _ => Keeps.bind (Keeps.wrStk _ _) fun _ =>
    Keeps.bind (Keeps.putAc _ _) fun _ => Keeps.bind Keeps.clrCall fun _ =>
      Keeps.bind (Keeps.setFlags (stackFlags_afi _)) fun _ => Keeps.jump _

theorem Keeps.pushOp : Keeps (Machine.pushOp ac m) :=
  Keeps.bind (Keeps.ea m) fun _ => Keeps.bind (Keeps.rdE _) fun _ => Keeps.bind (Keeps.getAc _) fun _ =>
    Keeps.bind (Keeps.wrStk _ _) fun _ => Keeps.bind (Keeps.putAc _ _) fun _ => Keeps.setFlags (stackFlags_afi _)

theorem Keeps.popOp : Keeps (Machine.popOp ac m) :=
  Keeps.bind (Keeps.ea m) fun _ => Keeps.bind (Keeps.getAc _) fun _ => Keeps.bind (Keeps.rdStk _) fun _ =>
    Keeps.bind (Keeps.wrE _ _) fun _ => Keeps.bind (Keeps.getAc _) fun _ => Keeps.bind (Keeps.putAc _ _) fun _ =>
      Keeps.setFlags (stackFlags_afi _)

theorem Keeps.popjOp : Keeps (Machine.popjOp ac m) :=
  Keeps.bind (Keeps.ea m) fun _ => Keeps.bind (Keeps.getAc _) fun _ => Keeps.bind (Keeps.rdStk _) fun _ =>
    Keeps.bind (Keeps.putAc _ _) fun _ => Keeps.bind (Keeps.setFlags (stackFlags_afi _)) fun _ => Keeps.jump _

theorem Keeps.jsrOp : Keeps (Machine.jsrOp m) :=
  Keeps.bind (Keeps.ea m) fun _ => Keeps.bind Keeps.getS fun _ => Keeps.bind (Keeps.wrE _ _) fun _ =>
    Keeps.bind Keeps.clrCall fun _ => Keeps.jump _

theorem Keeps.jspOp : Keeps (Machine.jspOp ac m) :=
  Keeps.bind (Keeps.ea m) fun _ => Keeps.bind Keeps.getS fun _ => Keeps.bind (Keeps.putAc _ _) fun _ =>
    Keeps.bind Keeps.clrCall fun _ => Keeps.jump _

theorem Keeps.jsaOp : Keeps (Machine.jsaOp ac m) :=
  Keeps.bind (Keeps.ea m) fun _ => Keeps.bind (Keeps.getAc _) fun _ => Keeps.bind (Keeps.wrE _ _) fun _ =>
    Keeps.bind Keeps.getS fun _ => Keeps.bind (Keeps.putAc _ _) fun _ => Keeps.jump _

theorem Keeps.jraOp : Keeps (Machine.jraOp ac m) :=
  Keeps.bind (Keeps.ea m) fun _ => Keeps.bind (Keeps.getAc _) fun _ => Keeps.bind (Keeps.rdE _) fun _ =>
    Keeps.bind (Keeps.putAc _ _) fun _ => Keeps.jump _

/-! ### I/O and processor registers (49_io.md) -/

theorem Keeps.ioOp (op : BitVec 9) {act : VAddr → M Unit} (ha : ∀ e, Keeps (act e)) :
    Keeps (Machine.ioOp op ac m act) :=
  Keeps.bind (Keeps.ea m) fun _ => Keeps.bind Keeps.getS fun _ => Keeps.ite (ha _) (Keeps.muuoSeq _ _ _)

theorem Keeps.gatedIo (its : Bool) (op : BitVec 9) {act : VAddr → M Unit} (ha : ∀ e, Keeps (act e)) :
    Keeps (Machine.gatedIo its op ac m act) :=
  Keeps.ioOp _ _ _ fun _ => Keeps.bind Keeps.getS fun _ => Keeps.ite (ha _) (Keeps.muuoSeq _ _ _)

theorem Keeps.storeReg (f : State → Word) (e : VAddr) : Keeps (Machine.storeReg f e) :=
  Keeps.bind Keeps.getS fun _ => Keeps.wrE _ _

theorem Keeps.loadReg {f : Word → State → State} (hf : ∀ w s, s.inv = true → (f w s).inv = true) (e : VAddr) :
    Keeps (Machine.loadReg f e) :=
  Keeps.bind (Keeps.rdE _) fun _ => Keeps.modS (hf _)

theorem Keeps.wrapr (e : VAddr) : Keeps (Machine.wrapr e) := Keeps.modS fun _ h => h

theorem Keeps.consz (status : State → Half) (e : VAddr) : Keeps (Machine.consz status e) :=
  Keeps.bind Keeps.getS fun _ => Keeps.skipIf _

theorem Keeps.conso (status : State → Half) (e : VAddr) : Keeps (Machine.conso status e) :=
  Keeps.bind Keeps.getS fun _ => Keeps.skipIf _

theorem Keeps.wrpi (e : VAddr) : Keeps (Machine.wrpi e) := Keeps.modS fun _ h => h

theorem Keeps.clrcsh (e : VAddr) : Keeps (Machine.clrcsh e) := Keeps.pure _

theorem Keeps.clrpt (e : VAddr) : Keeps (Machine.clrpt e) := Keeps.modS fun _ h => inv_invalidate _ h

theorem inv_setInterval {s : State} (w : Word) (h : s.inv = true) : ({ s with interval := w } : State).inv = true := h

theorem inv_setBaseRegs {s : State} (b : BaseRegs) (h : s.inv = true) : ({ s with base := b } : State).inv = true := h

/-- A control register of the pager changed and the cache emptied (R174). -/
theorem inv_setBase {f : BaseRegs → BaseRegs} {s : State} (h : s.inv = true) : (setBase f s).inv = true :=
  inv_invalidateAll (inv_setBaseRegs _ h)

theorem inv_wrubrSt {w : Word} {s : State} (h : s.inv = true) : (wrubrSt w s).inv = true := by
  unfold wrubrSt
  dsimp only
  split
  · exact inv_invalidateAll (by split <;> exact h)
  · split <;> exact h

theorem Keeps.wrebr (e : VAddr) : Keeps (Machine.wrebr e) :=
  Keeps.modS fun _ h => inv_invalidateAll (inv_setBaseRegs _ h)

theorem Keeps.rdtim (e : VAddr) : Keeps (Machine.rdtim e) := Keeps.bind Keeps.getS fun _ => Keeps.wrE2 _ _ _

theorem Keeps.wrtim (e : VAddr) : Keeps (Machine.wrtim e) := Keeps.bind (Keeps.rdE2 _) fun _ => Keeps.modS fun _ h => h

theorem Keeps.spm (e : VAddr) : Keeps (Machine.spm e) :=
  Keeps.bind Keeps.getS fun _ => Keeps.bind (Keeps.wrE2 _ _ _) fun _ => Keeps.wrE2 _ _ _

theorem Keeps.lpmr (e : VAddr) : Keeps (Machine.lpmr e) :=
  Keeps.bind (Keeps.rdE2 _) fun _ => Keeps.bind (Keeps.rdE2 _) fun _ => Keeps.modS fun _ h => inv_setBase h

theorem Keeps.umove (e : VAddr) : Keeps (Machine.umove ac e) := Keeps.bind (Keeps.vread _ _) fun _ => Keeps.putAc _ _

theorem Keeps.umovem (e : VAddr) : Keeps (Machine.umovem ac e) := Keeps.bind (Keeps.getAc _) fun _ => Keeps.vwrite _ _ _

/-! ### The I/O bus -/

theorem Keeps.ioAddr (k : IoAddr) (e : VAddr) : Keeps (k.get m e) := by
  cases k with
  | plain => exact Keeps.ioea m e
  | formI => exact fun _ h => h
  | formQ => exact fun _ h => h

theorem Keeps.ioTest (size : IoSize) (onZero : Bool) (e : VAddr) : Keeps (Machine.ioTest size onZero ac m e) :=
  Keeps.bind (Keeps.ioAddr _ _ _) fun _ => Keeps.bind (Keeps.readIo _ _) fun _ => Keeps.bind (Keeps.getAc _) fun _ =>
    Keeps.skipIf _

theorem Keeps.ioRead (k : IoAddr) (size : IoSize) (e : VAddr) : Keeps (Machine.ioRead k size ac m e) :=
  Keeps.bind (Keeps.ioAddr _ _ _) fun _ => Keeps.bind (Keeps.readIo _ _) fun _ => Keeps.putAc _ _

theorem Keeps.ioWrite (k : IoAddr) (size : IoSize) (e : VAddr) : Keeps (Machine.ioWrite k size ac m e) :=
  Keeps.bind (Keeps.ioAddr _ _ _) fun _ => Keeps.bind (Keeps.getAc _) fun _ => Keeps.writeIo _ _ _

theorem Keeps.ioModify (f : Word → Word → Word) (size : IoSize) (e : VAddr) : Keeps (Machine.ioModify f size ac m e) :=
  Keeps.bind (Keeps.ioAddr _ _ _) fun _ => Keeps.bind (Keeps.readIo _ _) fun _ => Keeps.bind (Keeps.getAc _) fun _ =>
    Keeps.writeIo _ _ _

end

end Sys2Proof.Machine
end

section
/-! SUPPORT. The dispatch: whatever instruction is executed, its meaning keeps the invariant of Safety.lean. -/

namespace Sys2Proof.Machine

open Sys2Proof

/-- The meaning of every instruction is the end of an operation that keeps the invariant; the cases stand by operand
form. -/
theorem exec_finish_keeps (i : Instr) (s : State) : ∃ x : M Unit, Keeps x ∧ exec i s = finish x s := by
  cases i
  case muuo => exact ⟨_, Keeps.muuoOp _ _ _, rfl⟩
  case luuo01 | luuo02 | luuo03 | luuo04 | luuo05 | luuo06 | luuo07 | luuo10 | luuo11 | luuo12 | luuo13 | luuo14 |
      luuo15 | luuo16 | luuo17 | luuo20 | luuo21 | luuo22 | luuo23 | luuo24 | luuo25 | luuo26 | luuo27 | luuo30 |
      luuo31 | luuo32 | luuo33 | luuo34 | luuo35 | luuo36 | luuo37 =>
    exact ⟨_, Keeps.luuoOp _ _ _, rfl⟩
  case xctri | xctr => exact ⟨_, Keeps.xctrOp _ _ _ _, rfl⟩
  case adjsp => exact ⟨_, Keeps.adjspOp _ _, rfl⟩
  case dfad | dfsb | dfmp | dfdv => exact ⟨_, Keeps.dfloatOp _ _ _, rfl⟩
  case dadd | dsub => exact ⟨_, Keeps.doubleOp _ _ fun _ _ _ _ _ => by simp, rfl⟩
  case dmul => exact ⟨_, Keeps.dmulOp _ _, rfl⟩
  case ddiv => exact ⟨_, Keeps.ddivOp _ _, rfl⟩
  case dmove => exact ⟨_, Keeps.dmoveOp _ _, rfl⟩
  case dmovn => exact ⟨_, Keeps.dmovnOp _ _, rfl⟩
  case fix | fixr => exact ⟨_, Keeps.fixOp _ _ _, rfl⟩
  case extend => exact ⟨_, Keeps.extendOp _ _, rfl⟩
  case dmovem => exact ⟨_, Keeps.dmovemOp _ _, rfl⟩
  case dmovnm => exact ⟨_, Keeps.dmovnmOp _ _, rfl⟩
  case fltr | movn | movm | imul | add | sub => exact ⟨_, Keeps.acFromMemF _ _ fun _ _ => by simp, rfl⟩
  case fsc => exact ⟨_, Keeps.fscOp _ _, rfl⟩
  case ibp => exact ⟨_, Keeps.ibpOp _, rfl⟩
  case adjbp => exact ⟨_, Keeps.adjbpOp _ _, rfl⟩
  case ildb => exact ⟨_, Keeps.ildbOp _ _, rfl⟩
  case ldb => exact ⟨_, Keeps.ldbOp _ _, rfl⟩
  case idpb => exact ⟨_, Keeps.idpbOp _ _, rfl⟩
  case dpb => exact ⟨_, Keeps.dpbOp _ _, rfl⟩
  case fad | fadr | fsb | fsbr | fmp | fmpr | fdv | fdvr => exact ⟨_, Keeps.floatOp _ _ _ _ Keeps.rdE _ _, rfl⟩
  case fadm | fadb | fadrm | fadrb | fsbm | fsbb | fsbrm | fsbrb | fmpm | fmpb | fmprm | fmprb | fdvm | fdvb |
      fdvrm | fdvrb =>
    exact ⟨_, Keeps.floatOp _ _ _ _ Keeps.rdmE _ _, rfl⟩
  case fadri | fsbri | fmpri | fdvri => exact ⟨_, Keeps.floatOp _ _ _ _ Keeps.floatImm _ _, rfl⟩
  case move | movs | and | andca | setm | andcm | xor | ior | andcb | eqv | orca | setcm | orcm | orcb | hll | hrl
      | hllz | hrlz | hllo | hrlo | hlle | hrle | hrr | hlr | hrrz | hlrz | hrro | hlro | hrre | hlre =>
    exact ⟨_, Keeps.acFromMem _ _ _, rfl⟩
  case movei | movsi | movmi | andi | andcai | setmi | andcmi | xori | iori | andcbi | eqvi | orcai | setcmi |
      orcmi | orcbi | hlli | hrli | hllzi | hrlzi | hlloi | hrloi | hllei | hrlei | hrri | hlri | hrrzi | hlrzi |
      hrroi | hlroi | hrrei | hlrei =>
    exact ⟨_, Keeps.acFromImm _ _ _, rfl⟩
  case movem | movsm | setzm | setam | setcam | setom | hllzm | hrlzm | hllom | hrlom | hllem | hrlem | hrrzm |
      hlrzm | hrrom | hlrom | hrrem | hlrem =>
    exact ⟨_, Keeps.memFromAc _ _ _, rfl⟩
  case moves | movss | hlls | hrls | hllzs | hrlzs | hllos | hrlos | hlles | hrles | hrrs | hlrs | hrrzs | hlrzs |
      hrros | hlros | hrres | hlres =>
    exact ⟨_, Keeps.selfRmw _ _ _, rfl⟩
  case movni | imuli | addi | subi => exact ⟨_, Keeps.acFromImmF _ _ fun _ _ => by simp, rfl⟩
  case movnm | movmm => exact ⟨_, Keeps.memFromAcF _ _ fun _ => by simp, rfl⟩
  case movns | movms => exact ⟨_, Keeps.selfRmwF _ _ fun _ => by simp, rfl⟩
  case imulm | addm | subm => exact ⟨_, Keeps.memRmwF _ _ fun _ _ => by simp, rfl⟩
  case imulb | addb | subb => exact ⟨_, Keeps.bothRmwF _ _ fun _ _ => by simp, rfl⟩
  case mul => exact ⟨_, Keeps.mulOp _ _ Keeps.rdE _ _, rfl⟩
  case muli => exact ⟨_, Keeps.mulOp _ _ Keeps.immOperand _ _, rfl⟩
  case mulm | mulb => exact ⟨_, Keeps.mulOp _ _ Keeps.rdmE _ _, rfl⟩
  case idiv | div => exact ⟨_, Keeps.divOp _ _ _ Keeps.rdE _ _, rfl⟩
  case idivi | divi => exact ⟨_, Keeps.divOp _ _ _ Keeps.immOperand _ _, rfl⟩
  case idivm | idivb | divm | divb => exact ⟨_, Keeps.divOp _ _ _ Keeps.rdmE _ _, rfl⟩
  case ash => exact ⟨_, Keeps.ashOp _ _, rfl⟩
  case rot | lsh => exact ⟨_, Keeps.shiftOp _ _ _, rfl⟩
  case jffo => exact ⟨_, Keeps.jffoOp _ _, rfl⟩
  case ashc => exact ⟨_, Keeps.ashcOp _ _, rfl⟩
  case rotc | lshc => exact ⟨_, Keeps.shift2Op _ _ _, rfl⟩
  case circ => exact ⟨_, Keeps.ite (Keeps.shift2Op _ _ _) (Keeps.muuoOp _ _ _), rfl⟩
  case exch => exact ⟨_, Keeps.exchOp _ _, rfl⟩
  case blt => exact ⟨_, Keeps.withE _ (Keeps.bltOp _ _), rfl⟩
  case aobjp | aobjn => exact ⟨_, Keeps.aobjOp _ _ _, rfl⟩
  case jrst => exact ⟨_, Keeps.jrstOp _ _ _ Keeps.jump, rfl⟩
  case portal => exact ⟨_, Keeps.jrstOp _ _ _ Keeps.portal, rfl⟩
  case jrstf => exact ⟨_, Keeps.jrstfOp _, rfl⟩
  case halt => exact ⟨_, Keeps.jrstOp _ _ _ Keeps.halt, rfl⟩
  case xjrstf => exact ⟨_, Keeps.jrstOp _ _ _ Keeps.xjrstf, rfl⟩
  case xjen => exact ⟨_, Keeps.jrstOp _ _ _ Keeps.xjen, rfl⟩
  case xpcw => exact ⟨_, Keeps.jrstOp _ _ _ (Keeps.xpcwIn Keeps.rdE Keeps.wrE), rfl⟩
  case jrst10 => exact ⟨_, Keeps.jrstOp _ _ _ Keeps.jrst10, rfl⟩
  case jen => exact ⟨_, Keeps.jenOp _, rfl⟩
  case sfm => exact ⟨_, Keeps.jrstOp _ _ _ Keeps.sfm, rfl⟩
  case xjrst => exact ⟨_, Keeps.ite (Keeps.jrstOp _ _ _ Keeps.xjrst) (Keeps.muuoOp _ _ _), rfl⟩
  case jfcl => exact ⟨_, Keeps.jfclOp _ _, rfl⟩
  case xct | pxct => exact ⟨_, Keeps.xctOp _ _, rfl⟩
  case map => exact ⟨_, Keeps.mapOp _ _, rfl⟩
  case pushj => exact ⟨_, Keeps.pushjOp _ _, rfl⟩
  case push => exact ⟨_, Keeps.pushOp _ _, rfl⟩
  case pop => exact ⟨_, Keeps.popOp _ _, rfl⟩
  case popj => exact ⟨_, Keeps.popjOp _ _, rfl⟩
  case jsr => exact ⟨_, Keeps.jsrOp _, rfl⟩
  case jsp => exact ⟨_, Keeps.jspOp _ _, rfl⟩
  case jsa => exact ⟨_, Keeps.jsaOp _ _, rfl⟩
  case jra => exact ⟨_, Keeps.jraOp _ _, rfl⟩
  case cai | cail | caie | caile | caia | caige | cain | caig => exact ⟨_, Keeps.caiOp _ _ _, rfl⟩
  case cam | caml | came | camle | cama | camge | camn | camg => exact ⟨_, Keeps.camOp _ _ _, rfl⟩
  case jump | jumpl | jumpe | jumple | jumpa | jumpge | jumpn | jumpg => exact ⟨_, Keeps.jumpOp _ _ _, rfl⟩
  case skip | skipl | skipe | skiple | skipa | skipge | skipn | skipg => exact ⟨_, Keeps.skipOp _ _ _, rfl⟩
  case aoj | aojl | aoje | aojle | aoja | aojge | aojn | aojg | soj | sojl | soje | sojle | soja | sojge | sojn |
      sojg =>
    exact ⟨_, Keeps.acStepJump _ _ _ _, rfl⟩
  case aos | aosl | aose | aosle | aosa | aosge | aosn | aosg | sos | sosl | sose | sosle | sosa | sosge | sosn |
      sosg =>
    exact ⟨_, Keeps.memStepSkip _ _ _ _, rfl⟩
  case setz | setzi | seta | setai | setca | setcai | seto | setoi => exact ⟨_, Keeps.acOnly _ _ _, rfl⟩
  case setzb | setab | setcab | setob => exact ⟨_, Keeps.bothFromAc _ _ _, rfl⟩
  case andm | andcam | setmm | andcmm | xorm | iorm | andcbm | eqvm | orcam | setcmm | orcmm | orcbm | hllm | hrlm
      | hrrm | hlrm =>
    exact ⟨_, Keeps.memRmw _ _ _, rfl⟩
  case andb | andcab | setmb | andcmb | xorb | iorb | andcbb | eqvb | orcab | setcmb | orcmb | orcbb =>
    exact ⟨_, Keeps.bothRmw _ _ _, rfl⟩
  case trn | tln | trne | tlne | trna | tlna | trnn | tlnn | tdn | tsn | tdne | tsne | tdna | tsna | tdnn | tsnn |
      trz | tlz | trze | tlze | trza | tlza | trzn | tlzn | tdz | tsz | tdze | tsze | tdza | tsza | tdzn | tszn | trc
      | tlc | trce | tlce | trca | tlca | trcn | tlcn | tdc | tsc | tdce | tsce | tdca | tsca | tdcn | tscn | tro |
      tlo | troe | tloe | troa | tloa | tron | tlon | tdo | tso | tdoe | tsoe | tdoa | tsoa | tdon | tson =>
    exact ⟨_, Keeps.testOp _ _ _ _ _, rfl⟩
  case aprid | rdapr | rdpi | rdubr | rdebr | rdint | rdhsb => exact ⟨_, Keeps.ioOp _ _ _ (Keeps.storeReg _), rfl⟩
  case wrapr => exact ⟨_, Keeps.ioOp _ _ _ Keeps.wrapr, rfl⟩
  case conszapr | conszpi => exact ⟨_, Keeps.ioOp _ _ _ (Keeps.consz _), rfl⟩
  case consoapr | consopi => exact ⟨_, Keeps.ioOp _ _ _ (Keeps.conso _), rfl⟩
  case wrpi => exact ⟨_, Keeps.ioOp _ _ _ Keeps.wrpi, rfl⟩
  case clrcsh => exact ⟨_, Keeps.gatedIo _ _ _ _ Keeps.clrcsh, rfl⟩
  case clrpt => exact ⟨_, Keeps.ioOp _ _ _ Keeps.clrpt, rfl⟩
  case wrubr => exact ⟨_, Keeps.ioOp _ _ _ (Keeps.loadReg fun _ _ h => inv_wrubrSt h), rfl⟩
  case wrebr => exact ⟨_, Keeps.ioOp _ _ _ Keeps.wrebr, rfl⟩
  case rdspb | sdbr1 | rdcsb | sdbr2 | rdpur | sdbr3 | rdcstm | sdbr4 =>
    exact ⟨_, Keeps.gatedIo _ _ _ _ (Keeps.storeReg _), rfl⟩
  case rdtim => exact ⟨_, Keeps.ioOp _ _ _ Keeps.rdtim, rfl⟩
  case spm => exact ⟨_, Keeps.gatedIo _ _ _ _ Keeps.spm, rfl⟩
  case wrspb | ldbr1 | wrcsb | ldbr2 | wrpur | ldbr3 | wrcstm | ldbr4 =>
    exact ⟨_, Keeps.gatedIo _ _ _ _ (Keeps.loadReg fun _ _ h => inv_setBase h), rfl⟩
  case wrtim => exact ⟨_, Keeps.ioOp _ _ _ Keeps.wrtim, rfl⟩
  case wrint => exact ⟨_, Keeps.ioOp _ _ _ (Keeps.loadReg fun _ _ h => inv_setInterval _ h), rfl⟩
  case wrhsb => exact ⟨_, Keeps.ioOp _ _ _ (Keeps.loadReg fun _ _ h => inv_setBaseRegs _ h), rfl⟩
  case lpmr => exact ⟨_, Keeps.gatedIo _ _ _ _ Keeps.lpmr, rfl⟩
  case umove => exact ⟨_, Keeps.ioOp _ _ _ (Keeps.umove _), rfl⟩
  case umovem => exact ⟨_, Keeps.ioOp _ _ _ (Keeps.umovem _), rfl⟩
  case tioe | tion | tioeb | tionb => exact ⟨_, Keeps.gatedIo _ _ _ _ (Keeps.ioTest _ _ _ _), rfl⟩
  case iordi | iordq | rdio | iord | iordbi | iordbq | rdiob | iordb =>
    exact ⟨_, Keeps.gatedIo _ _ _ _ (Keeps.ioRead _ _ _ _), rfl⟩
  case wrio | iowr | iowri | iowrq | wriob | iowrb | iowrbi | iowrbq =>
    exact ⟨_, Keeps.gatedIo _ _ _ _ (Keeps.ioWrite _ _ _ _), rfl⟩
  case bsio | bcio | bsiob | bciob => exact ⟨_, Keeps.gatedIo _ _ _ _ (Keeps.ioModify _ _ _ _), rfl⟩
  case bltbu | bltub => exact ⟨_, Keeps.ioOp _ _ _ (Keeps.bltOp _ _), rfl⟩
  case cmpsl | cmpse | cmpsle | cmpsge | cmpsn | cmpsg => exact ⟨_, Keeps.cmpsSub _ _ _ _ _, rfl⟩
  case edit => exact ⟨_, Keeps.editSub _ _ _, rfl⟩
  case cvtdbo => exact ⟨_, Keeps.cvtdboSub _ _ _, rfl⟩
  case cvtdbt => exact ⟨_, Keeps.cvtdbtSub _ _ _, rfl⟩
  case cvtbdo => exact ⟨_, Keeps.cvtbdoSub _ _ _, rfl⟩
  case cvtbdt => exact ⟨_, Keeps.cvtbdtSub _ _ _, rfl⟩
  case movso => exact ⟨_, Keeps.movsoSub _ _ _, rfl⟩
  case movst => exact ⟨_, Keeps.movstSub _ _ _, rfl⟩
  case movslj => exact ⟨_, Keeps.movsljSub _ _ _, rfl⟩
  case movsrj => exact ⟨_, Keeps.movsrjSub _ _ _, rfl⟩

theorem inv_of_exec {i : Instr} {s t : State} (h : s.inv = true) (he : exec i s = .next t) : t.inv = true := by
  obtain ⟨x, hx, hfin⟩ := exec_finish_keeps i s
  exact inv_of_finish hx h (hfin ▸ he)

end Sys2Proof.Machine
end

section
/-! SUPPORT. One step of the loop (R1260) keeps the invariant of Safety.lean: the external agents, the sequences that supply a
word, the chain of executed words and the 1-proceed completion. -/

namespace Sys2Proof.Machine

open Sys2Proof

/-! ### The external agents (R1270, R1275, R1290) -/

theorem inv_poke {s : State} (pa : Nat) (v : Word) (h : s.inv = true) : (s.poke pa v).inv = true := by
  unfold State.poke
  split
  · exact inv_setMem ‹_› h
  · exact h

theorem inv_evictEntry {s : State} (user : Bool) (v : Nat) (h : s.inv = true) : (s.evictEntry user v).inv = true := by
  rw [inv_iff] at h ⊢
  obtain ⟨hmem, hexec, huser, hrest⟩ := h
  cases user
  · exact ⟨hmem, tlbWf_tblDrop v hexec, huser, hrest⟩
  · exact ⟨hmem, hexec, tlbWf_tblDrop v huser, hrest⟩

/-- A deposit of the flags drops AFI under ITS (R75). -/
theorem inv_depositFlags {s : State} (w : Half) (h : s.inv = true) : (s.depositFlags w).inv = true := by
  rw [inv_iff] at h ⊢
  obtain ⟨hmem, hexec, huser, -, hlatch, hcfg⟩ := h
  refine ⟨hmem, hexec, huser, fun hi => ?_, hlatch, hcfg⟩
  have hits : s.cfg.its = true := hi
  simp [State.depositFlags, hits]

/-- A later reset keeps memory and the configuration, and clears the rest (R1400). -/
theorem inv_laterReset {s : State} (h : s.inv = true) : s.laterReset.inv = true := by
  rw [inv_iff] at h ⊢
  obtain ⟨hmem, -, -, -, -, hcfg⟩ := h
  exact ⟨hmem, rfl, rfl, fun _ => rfl, fun _ => ⟨rfl, rfl⟩, hcfg⟩

theorem inv_applyEvent {s : State} (ev : AgentEvent) (h : s.inv = true) : (applyEvent s ev).inv = true := by
  cases ev with
  | dma pa v => exact inv_poke pa v h
  | depositPhys pa v => exact inv_poke pa v h
  | depositFlags w => exact inv_depositFlags w h
  | reset => exact inv_laterReset h
  | intervalDone =>
    simp only [applyEvent]
    split <;> exact h
  | evict user vpn =>
    simp only [applyEvent]
    split
    · exact inv_evictEntry user _ h
    · exact h
  | tick | ioRequest | ioFatal | aprInput | depositAc | depositPc | forceExec | setBreakpoints | skipBreakpoint
  | clearInt80 => exact h

theorem inv_foldl_applyEvent (l : List AgentEvent) {s : State} (h : s.inv = true) : (l.foldl applyEvent s).inv = true := by
  induction l generalizing s with
  | nil => exact h
  | cons ev l ih => exact ih (inv_applyEvent ev h)

theorem inv_agents {s : State} (h : s.inv = true) : (agents s).inv = true := inv_foldl_applyEvent _ h

/-! ### The sequences -/

theorem Keeps.interruptWord (n : Nat) : Keeps (Machine.interruptWord n) := by
  refine Keeps.bind Keeps.getS fun s => Keeps.ite (Keeps.bind (Keeps.ioVector n) fun o => ?_) (Keeps.seqRead _)
  cases o with
  | none => exact Keeps.seqRead _
  | some kv => exact Keeps.bind (Keeps.seqRead _) fun _ => Keeps.ite (Keeps.raise _) (Keeps.seqRead _)

theorem Keeps.interruptJsr (e : VAddr) : Keeps (Machine.interruptJsr e) :=
  Keeps.bind Keeps.getS fun _ => Keeps.bind (Keeps.modS fun _ h => inv_setNewflags _ _ h) fun _ =>
    Keeps.bind (Keeps.vwrite _ _ _) fun _ => Keeps.jump _

theorem Keeps.interruptSeq (n : Nat) : Keeps (Machine.interruptSeq n) := by
  refine Keeps.bind (Keeps.modS fun _ h => h) fun _ => Keeps.bind (Keeps.interruptWord n) fun w =>
    Keeps.bind (Keeps.modS fun _ h => h) fun _ => ?_
  have hend : Keeps (Machine.modS fun s => { s with piCycle := false }) := Keeps.modS fun _ h => h
  exact Keeps.ite (Keeps.bind (Keeps.interruptJsr _) fun _ => hend) <|
    Keeps.ite (Keeps.bind (Keeps.xpcwIn (Keeps.vread _) (Keeps.vwrite _) _) fun _ => hend) <|
      Keeps.bind (Keeps.raise _) fun _ => hend

theorem Keeps.beginAs (ph : Phase) : Keeps (Machine.beginAs ph) := Keeps.modS fun _ h => h

theorem Keeps.forcedSeq (a : Nat) : Keeps (Machine.forcedSeq a) :=
  Keeps.bind (Keeps.modS fun _ h => h) fun _ => Keeps.bind (Keeps.beginAs _) fun _ => Keeps.bind (Keeps.readP _ _) fun _ =>
    Keeps.setPending _ _

theorem Keeps.trapSeq : Keeps Machine.trapSeq :=
  Keeps.bind Keeps.getS fun _ => Keeps.bind (Keeps.modS fun _ h => h) fun _ => Keeps.bind (Keeps.beginAs _) fun _ =>
    Keeps.bind (Keeps.seqRead _) fun _ => Keeps.setPending _ _

/-- The fetch moves the 1-proceed request into the latch, so outside ITS both stay 0 (R75, R1245). -/
theorem inv_beginFetch {s : State} (h : s.inv = true) : s.beginFetch.inv = true := by
  rw [inv_iff] at h ⊢
  obtain ⟨hmem, hexec, huser, hafi, hlatch, hcfg⟩ := h
  refine ⟨hmem, hexec, huser, hafi, fun hi => ?_, hcfg⟩
  obtain ⟨h1, h2⟩ := hlatch hi
  simp [State.beginFetch, h1, h2]

theorem Keeps.fetchSeq : Keeps Machine.fetchSeq :=
  Keeps.bind (Keeps.modS fun _ h => inv_beginFetch h) fun _ => Keeps.bind Keeps.getS fun _ =>
    Keeps.bind (Keeps.vread _ _) fun _ => Keeps.bind (Keeps.modS fun _ h => h) fun _ => Keeps.setPending _ _

theorem inv_clearIts1pr {s : State} (h : s.inv = true) : ({ s with its1pr := false } : State).inv = true := by
  rw [inv_iff] at h ⊢
  obtain ⟨hmem, hexec, huser, hafi, hlatch, hcfg⟩ := h
  exact ⟨hmem, hexec, huser, hafi, fun hi => ⟨rfl, (hlatch hi).2⟩, hcfg⟩

theorem inv_clearIts2pr {s : State} (h : s.inv = true) : ({ s with its2pr := false } : State).inv = true := by
  rw [inv_iff] at h ⊢
  obtain ⟨hmem, hexec, huser, hafi, hlatch, hcfg⟩ := h
  exact ⟨hmem, hexec, huser, hafi, fun hi => ⟨(hlatch hi).1, rfl⟩, hcfg⟩

theorem Keeps.oneProceed : Keeps Machine.oneProceed :=
  Keeps.bind (Keeps.modS fun _ h => inv_clearIts2pr h) fun _ => Keeps.bind Keeps.getS fun _ =>
    Keeps.bind (Keeps.seqWrite _ _) fun _ => Keeps.bind (Keeps.modS fun _ h => inv_clearIts1pr h) fun _ =>
      Keeps.bind (Keeps.seqRead _) fun _ => Keeps.modS fun _ h => inv_setPc _ (inv_setNewflags _ _ h)

/-! ### Outcomes -/

/-- An outcome that is a next state is one with the invariant. -/
def AnswersInv (o : Out) : Prop := ∀ t, o = .next t → t.inv = true

theorem AnswersInv.next {s : State} (h : s.inv = true) : AnswersInv (.next s) := fun _ ht => by
  cases ht
  exact h

theorem AnswersInv.fault (f : Fault) : AnswersInv (.fault f) := fun _ ht => by cases ht

theorem AnswersInv.refused (r : Refusal) : AnswersInv (.refused r) := fun _ ht => by cases ht

theorem AnswersInv.finish {x : M Unit} {s : State} (hx : Keeps x) (h : s.inv = true) : AnswersInv (finish x s) :=
  fun _ ht => inv_of_finish hx h ht

/-- The end of a sequence that is no instruction, or the state `s0` before it (R1202). -/
theorem AnswersInv.seqOutcome {x : M Unit} {s0 s : State} (hx : Keeps x) (h0 : s0.inv = true) (h : s.inv = true) :
    AnswersInv (seqOutcome s0 (x s)) := by
  have key := hx s h
  cases hs : x s with
  | ok a t =>
    rw [hs] at key
    exact AnswersInv.next key
  | error a t =>
    rw [hs] at key
    cases a with
    | fault f => exact AnswersInv.fault f
    | stop n => exact AnswersInv.next key
    | pageFail => exact AnswersInv.next key
    | reenter => exact AnswersInv.next h0

theorem answersInv_complete {s : State} (h : s.inv = true) : AnswersInv (complete s) := by
  unfold complete
  split
  · exact AnswersInv.seqOutcome Keeps.oneProceed h h
  · exact AnswersInv.next h

theorem answersInv_settle {s : State} (h : s.inv = true) : AnswersInv (settle s) := by
  unfold settle
  cases s.pending with
  | some p => exact AnswersInv.next h
  | none =>
    have key := answersInv_complete h
    cases hc : complete s with
    | next t => exact AnswersInv.next (key t hc)
    | fault f => exact AnswersInv.fault f
    | refused r => exact AnswersInv.refused r

/-- Taking the word left to execute, with its selection bits. -/
theorem inv_takePending {s : State} (p : Pending) (h : s.inv = true) :
    ({ s with pending := none, pxct := p.pxct, inhibit := p.inhibit } : State).inv = true := h

theorem answersInv_drain (fuel : Nat) {s : State} (h : s.inv = true) : AnswersInv (drain fuel s) := by
  induction fuel generalizing s with
  | zero => exact AnswersInv.next h
  | succ fuel ih =>
    cases hp : s.pending with
    | none =>
      rw [drain_none hp]
      exact AnswersInv.next h
    | some p =>
      rw [drain_some hp]
      cases he : exec (decode s.cfg p.word) { s with pending := none, pxct := p.pxct, inhibit := p.inhibit } with
      | next t => exact ih (inv_of_exec (inv_takePending p h) he)
      | fault f => exact AnswersInv.fault f
      | refused r => exact AnswersInv.refused r

theorem answersInv_runPending {o : Out} (h : AnswersInv o) : AnswersInv (runPending o) := by
  cases o with
  | fault f => exact AnswersInv.fault f
  | refused r => exact AnswersInv.refused r
  | next s =>
    have key := answersInv_drain drainFuel (h s rfl)
    unfold runPending
    dsimp only
    cases hd : drain drainFuel s with
    | next t => exact answersInv_settle (key t hd)
    | fault f => exact AnswersInv.fault f
    | refused r => exact AnswersInv.refused r

theorem answersInv_boundary {s : State} (h : s.inv = true) : AnswersInv (boundary s) := by
  unfold boundary
  split
  case isTrue => exact AnswersInv.next h
  case isFalse =>
    cases s.forcedExec with
    | some a => exact answersInv_runPending (AnswersInv.finish (Keeps.forcedSeq a) h)
    | none =>
      dsimp only
      split
      · exact AnswersInv.seqOutcome (Keeps.interruptSeq _) h h
      · split
        · exact answersInv_runPending (AnswersInv.finish Keeps.trapSeq h)
        · split
          · exact AnswersInv.next h
          · exact answersInv_runPending (AnswersInv.finish Keeps.fetchSeq h)

theorem answersInv_step {s : State} (h : s.inv = true) : AnswersInv (Machine.step s) := by
  unfold Machine.step loopStep
  cases s.pending with
  | some p => exact answersInv_runPending (AnswersInv.next h)
  | none => exact answersInv_boundary (inv_agents h)

/-- Settles O3: the agents, the sequences and every instruction keep the invariant. -/
theorem stepKeepsInvariant : Obligations.StepKeepsInvariant := fun _ t h ht => answersInv_step h t ht

end Sys2Proof.Machine
end

section
/-! SUPPORT. What an access to a physical word and a reference to a virtual address answer (R160 to R169). -/

namespace Sys2Proof.Machine

open Sys2Proof

/-! ### Physical words (R166, R169) -/

theorem readP_run {user : Bool} {pa : Nat} {s : State} {w : Word} (h : pa < s.cfg.memSize)
    (hm : tblGet s.mem pa = some w) : readP user pa s = .ok w s := by
  simp only [readP, run_bind, physRead, h, hm, if_true, run_pure]

theorem readP_nxm_unpaged {user : Bool} {pa : Nat} {s : State} (h : s.cfg.memSize ≤ pa)
    (hp : s.base.ebr.pgon = false) : readP user pa s = .ok 0 s.signalNxm := by
  simp [readP, physRead, Nat.not_lt.mpr h, hp]

theorem readP_nxm_paged {user : Bool} {pa : Nat} {s : State} (h : s.cfg.memSize ≤ pa)
    (hp : s.base.ebr.pgon = true) :
    readP user pa s = .error .pageFail { s.signalNxm with pagerWord := s.pfwWord (.nxm user pa) } := by
  simp only [readP, run_bind, physRead, Nat.not_lt.mpr h, hp, if_false, if_true, run_failWith]
  rfl

theorem writeP_run {user : Bool} {pa : Nat} {v : Word} {s : State} (h : pa < s.cfg.memSize) :
    writeP user pa v s = .ok () (s.setMem pa v) := by
  simp only [writeP, run_bind, physWrite, h, if_true, run_pure]

theorem writeP_nxm_unpaged {user : Bool} {pa : Nat} {v : Word} {s : State} (h : s.cfg.memSize ≤ pa)
    (hp : s.base.ebr.pgon = false) : writeP user pa v s = .ok () s.signalNxm := by
  simp [writeP, physWrite, Nat.not_lt.mpr h, hp]

theorem writeP_nxm_paged {user : Bool} {pa : Nat} {v : Word} {s : State} (h : s.cfg.memSize ≤ pa)
    (hp : s.base.ebr.pgon = true) :
    writeP user pa v s = .error .pageFail { s.signalNxm with pagerWord := s.pfwWord (.nxm user pa) } := by
  simp only [writeP, run_bind, physWrite, Nat.not_lt.mpr h, hp, if_false, Bool.not_true, Bool.false_eq_true,
    run_failWith]
  rfl

/-- With paging on a physical read that completes changes nothing. -/
theorem readP_ok_paged {user : Bool} {pa : Nat} {s t : State} {w : Word} (hp : s.base.ebr.pgon = true)
    (h : readP user pa s = .ok w t) : t = s := by
  simp only [readP, run_bind] at h
  rcases physRead_cases pa s with ⟨-, x, -, he⟩ | ⟨-, -, he⟩ | ⟨-, he⟩
  · rw [he] at h
    cases h
    rfl
  · rw [he] at h
    cases h
  · rw [he, hp] at h
    cases h

theorem memSameOutside_setMem (s : State) (pa : Nat) (v : Word) : MemSameOutside (· = pa) s (s.setMem pa v) := by
  intro a ha
  rw [setMem_mem, tblGet_tblSet, if_neg ha]

/-- An operation that ends with a word stored: what it is said to leave. -/
theorem stores_word {x : EStateM.Result Abort State Unit} {s : State} {pa : Nat} {v : Word}
    (h : x = .ok () (s.setMem pa v)) :
    ∃ t, x = .ok () t ∧ tblGet t.mem pa = some v ∧ MemSameOutside (· = pa) s t ∧ { t with mem := s.mem } = s :=
  ⟨_, h, by rw [setMem_mem, tblGet_tblSet, if_pos rfl], memSameOutside_setMem s pa v, rfl⟩

/-! ### References (R160 to R163) -/

theorem isAc_of_lt {va : VAddr} (h : va.toNat < 0o20) : isAc va = true := decide_eq_true h

theorem isAc_of_ge {va : VAddr} (h : 0o20 ≤ va.toNat) : isAc va = false := decide_eq_false (Nat.not_lt.mpr h)

theorem readAs_ac {mode : AccMode} {c : Ctx} {va : VAddr} {s : State} (h : va.toNat < 0o20) :
    readAs mode c va s = .ok (s.acOf (s.block c) (acOfAddr va)) s := by
  simp only [readAs, isAc_of_lt h, if_true]

theorem vwrite_ac {c : Ctx} {va : VAddr} {v : Word} {s : State} (h : va.toNat < 0o20) :
    vwrite c va v s = .ok () (s.setAcOf (s.block c) (acOfAddr va) v) := by
  simp only [vwrite, isAc_of_lt h, if_true]

/-- A read outside the accumulators is a translation and a physical read. -/
theorem readAs_memory {mode : AccMode} {c : Ctx} {va : VAddr} {s : State} (h : 0o20 ≤ va.toNat) :
    readAs mode c va s = (translate (s.space c) mode va >>= readP (s.space c)) s := by
  simp only [readAs, isAc_of_ge h, Bool.false_eq_true, if_false]

theorem vwrite_memory {c : Ctx} {va : VAddr} {v : Word} {s : State} (h : 0o20 ≤ va.toNat) :
    vwrite c va v s = (translate (s.space c) .write va >>= fun pa => writeP (s.space c) pa v) s := by
  simp only [vwrite, isAc_of_ge h, Bool.false_eq_true, if_false]

theorem readAs_translated {mode : AccMode} {c : Ctx} {va : VAddr} {s t : State} {pa : Nat} (h : 0o20 ≤ va.toNat)
    (ht : translate (s.space c) mode va s = .ok pa t) : readAs mode c va s = readP (s.space c) pa t := by
  rw [readAs_memory h, run_bind, ht]

theorem vwrite_translated {c : Ctx} {va : VAddr} {v : Word} {s t : State} {pa : Nat} (h : 0o20 ≤ va.toNat)
    (ht : translate (s.space c) .write va s = .ok pa t) : vwrite c va v s = writeP (s.space c) pa v t := by
  rw [vwrite_memory h, run_bind, ht]

theorem readAs_aborted {mode : AccMode} {c : Ctx} {va : VAddr} {s t : State} {a : Abort} (h : 0o20 ≤ va.toNat)
    (ht : translate (s.space c) mode va s = .error a t) : readAs mode c va s = .error a t := by
  rw [readAs_memory h, run_bind, ht]

theorem vwrite_aborted {c : Ctx} {va : VAddr} {v : Word} {s t : State} {a : Abort} (h : 0o20 ≤ va.toNat)
    (ht : translate (s.space c) .write va s = .error a t) : vwrite c va v s = .error a t := by
  rw [vwrite_memory h, run_bind, ht]

/-- With paging off an address is its own translation (R170). -/
theorem translate_unpaged {user : Bool} {mode : AccMode} {va : VAddr} {s : State} (hp : s.base.ebr.pgon = false) :
    translate user mode va s = .ok va.toNat s := by
  simp only [translate, hp, Bool.false_eq_true, if_false]

/-- With paging on a read that completes has translated its address, and reading changes nothing more. -/
theorem readAs_ok_paged {mode : AccMode} {c : Ctx} {va : VAddr} {s t : State} {w : Word} (h : 0o20 ≤ va.toNat)
    (hp : s.base.ebr.pgon = true) (hr : readAs mode c va s = .ok w t) :
    ∃ pa, translate (s.space c) mode va s = .ok pa t := by
  rw [readAs_memory h] at hr
  obtain ⟨pa, u, ht, hu⟩ := bind_ok hr
  have hpu : u.base.ebr.pgon = true := by rw [((Frames.translate _ _ _).ok ht).base, hp]
  obtain rfl := readP_ok_paged hpu hu
  exact ⟨pa, ht⟩

/-! ### References beyond the memory (R169, R200) -/

theorem SameRegisters.pfwWord {s t : State} (h : SameRegisters s t) (ev : PfwEvent) : t.pfwWord ev = s.pfwWord ev := by
  simp only [State.pfwWord, h.cfg]

section
variable {c : Ctx} {va : VAddr} {s t : State} {pa : Nat} {mode : AccMode}

/-- The state a reference that page-fails for non-existent memory leaves, from the state its translation left. -/
theorem readAs_nxm_paged (h : 0o20 ≤ va.toNat) (hp : s.base.ebr.pgon = true)
    (ht : translate (s.space c) mode va s = .ok pa t) (hpa : s.cfg.memSize ≤ pa) :
    readAs mode c va s =
      .error .pageFail { t.signalNxm with pagerWord := s.pfwWord (.nxm (s.space c) pa) } := by
  have hs : SameRegisters s t := (Frames.translate _ _ _).ok ht
  rw [readAs_translated h ht, readP_nxm_paged (by rwa [hs.cfg]) (by rwa [hs.base]), hs.pfwWord]

theorem vwrite_nxm_paged {v : Word} (h : 0o20 ≤ va.toNat) (hp : s.base.ebr.pgon = true)
    (ht : translate (s.space c) .write va s = .ok pa t) (hpa : s.cfg.memSize ≤ pa) :
    vwrite c va v s =
      .error .pageFail { t.signalNxm with pagerWord := s.pfwWord (.nxm (s.space c) pa) } := by
  have hs : SameRegisters s t := (Frames.translate _ _ _).ok ht
  rw [vwrite_translated h ht, writeP_nxm_paged (by rwa [hs.cfg]) (by rwa [hs.base]), hs.pfwWord]

/-- A read whose translation completes gives the word held at its physical address. -/
theorem readAs_gives {w : Word} (h : 0o20 ≤ va.toNat) (ht : translate (s.space c) mode va s = .ok pa t)
    (hpa : pa < s.cfg.memSize) (hw : tblGet t.mem pa = some w) : readAs mode c va s = .ok w t := by
  rw [readAs_translated h ht, readP_run (by rwa [((Frames.translate _ _ _).ok ht).cfg]) hw]

/-- A write whose translation completes stores the word at its physical address. -/
theorem vwrite_stores {v : Word} (h : 0o20 ≤ va.toNat) (ht : translate (s.space c) .write va s = .ok pa t)
    (hpa : pa < s.cfg.memSize) : vwrite c va v s = .ok () (t.setMem pa v) := by
  rw [vwrite_translated h ht, writeP_run (by rwa [((Frames.translate _ _ _).ok ht).cfg])]

end

/-- The APR flag of a mask (R1103). -/
theorem getLsbD_aprMask (b : BitVec 3) {i : Nat} (hi : i < 8) : (aprMask b).getLsbD i = (i == b.toNat) := by
  simp only [aprMask, BitVec.natCast_eq_ofNat, BitVec.getLsbD_ofNat, Nat.one_shiftLeft, Nat.testBit_two_pow, hi,
    decide_true, Bool.true_and, beq_eq_decide, eq_comm]

/-- Settles O9: `readAs_ac` and `vwrite_ac`, with the read after a write of `acOf_setAcOf`. -/
theorem accumulatorAlias : Obligations.AccumulatorAlias := by
  intro c va v s h
  refine ⟨readAs_ac h, readAs_ac h, _, vwrite_ac h, ?_, ?_, rfl⟩
  · rw [acOf_setAcOf, if_pos ⟨rfl, rfl⟩]
  · intro b n hne
    rw [acOf_setAcOf]
    exact if_neg hne

/-- The references with paging off: the translation is the address itself (the first part of O10). -/
theorem references_unpaged (c : Ctx) (va : VAddr) (v w : Word) (s : State) (hp : s.base.ebr.pgon = false)
    (h : 0o20 ≤ va.toNat) :
    (va.toNat < s.cfg.memSize → tblGet s.mem va.toNat = some w → vread c va s = .ok w s ∧ vreadM c va s = .ok w s) ∧
    (va.toNat < s.cfg.memSize → ∃ t, vwrite c va v s = .ok () t ∧ tblGet t.mem va.toNat = some v ∧
      MemSameOutside (· = va.toNat) s t ∧ { t with mem := s.mem } = s) ∧
    (s.cfg.memSize ≤ va.toNat → vread c va s = .ok 0 s.signalNxm ∧ vreadM c va s = .ok 0 s.signalNxm ∧
      vwrite c va v s = .ok () s.signalNxm) := by
  have ht (mode : AccMode) : translate (s.space c) mode va s = .ok va.toNat s := translate_unpaged hp
  refine ⟨fun hm hw => ?_, fun hm => ?_, fun hm => ?_⟩
  · exact ⟨readAs_gives h (ht _) hm hw, readAs_gives h (ht _) hm hw⟩
  · exact stores_word (vwrite_stores h (ht _) hm)
  · refine ⟨?_, ?_, ?_⟩
    · exact (readAs_translated h (ht _)).trans (readP_nxm_unpaged hm hp)
    · exact (readAs_translated h (ht _)).trans (readP_nxm_unpaged hm hp)
    · exact (vwrite_translated h (ht _)).trans (writeP_nxm_unpaged hm hp)

/-- Settles O10: `references_unpaged` with paging off, `readAs_gives`, `vwrite_stores` and their non-existent-memory
counterparts with paging on, and O15 for the page of a write-checked read. -/
theorem physicalMemory : Obligations.PhysicalMemory := by
  refine ⟨references_unpaged, ?paged, ?aborts, ?physical, ?nxm⟩
  case paged =>
    rintro c va v w s t n pa hp h rfl
    refine ⟨fun ht => ⟨readAs_gives h ht, readAs_nxm_paged h hp ht⟩,
      fun ht => ⟨fun hm => ⟨?_, ?_⟩, fun hm => ⟨?_, ?_⟩⟩, ?_⟩
    · exact readAs_gives h ht hm
    · exact stores_word (vwrite_stores h ht hm)
    · exact readAs_nxm_paged h hp ht hm
    · exact vwrite_nxm_paged h hp ht hm
    · intro hr
      obtain ⟨pa, ht⟩ := readAs_ok_paged h hp hr
      obtain ⟨e, he, hw, -⟩ := writeNeedsWritablePage.2 _ _ _ _ _ hp ht
      exact ⟨e, he, hw⟩
  case aborts =>
    intro c va v s t a h
    exact ⟨readAs_aborted h, fun ht => ⟨readAs_aborted h ht, vwrite_aborted h ht⟩⟩
  case physical =>
    intro user pa v w s
    refine ⟨fun hm => ⟨readP_run hm, writeP_run hm⟩,
      fun hm hp => ⟨readP_nxm_paged hm hp, writeP_nxm_paged hm hp⟩, ?_⟩
    intro hl
    rw [State.pfwWord, hl]
    rfl
  case nxm =>
    intro s
    refine ⟨rfl, rfl, rfl, fun i hi => ?_⟩
    rw [signalNxm_apr, BitVec.getLsbD_or, getLsbD_aprMask _ hi]

end Sys2Proof.Machine
end

section
/-! SUPPORT. The status words of the pager and the start of a walk (R170, R200, R201). -/

namespace Sys2Proof.Machine

open Sys2Proof Sys2Proof.Statements

/-! ### Status words (R200, R201) -/

theorem getLsbD_ite_zero {n : Nat} (b : Bool) (x : BitVec n) (i : Nat) :
    (if b then x else 0).getLsbD i = (b && x.getLsbD i) := by
  cases b <;> simp

/-- The left half of the soft page-fail word: its fields, each at its bit (R200). -/
theorem getLsbD_pfw (user a w sm c p wr : Bool) (va : VAddr) {i : Nat} (hi : 18 ≤ i) :
    (pfw user a w sm c p wr va.toNat).getLsbD i =
      ((user && (0o400000000000 : Word).getLsbD i) || (a && (0o100000000000 : Word).getLsbD i) ||
        (w && (0o040000000000 : Word).getLsbD i) || (sm && (0o020000000000 : Word).getLsbD i) ||
        (c && (0o010000000000 : Word).getLsbD i) || (p && (0o000200000000 : Word).getLsbD i) ||
        (wr && (0o000040000000 : Word).getLsbD i)) := by
  have haddr : (BitVec.ofNat 36 va.toNat).getLsbD i = false := by simp [BitVec.getLsbD_of_ge va i hi]
  simp only [pfw, pfwU, signWord, BitVec.getLsbD_or, getLsbD_ite_zero, haddr, Bool.or_false]

/-- The soft page-fail word has each field at its place. -/
theorem softWord_pfw (user a w sm c p wr : Bool) (va : VAddr) :
    SoftWord (pfw user a w sm c p wr va.toNat) user a w sm c p wr va := by
  have haddr : (pfw user a w sm c p wr va.toNat).setWidth 22 = va.setWidth 22 := by
    simp [pfw, pfwU, signWord, BitVec.setWidth_or, apply_ite (BitVec.setWidth 22)]
  refine ⟨?_, ?_, ?_, ?_, ?_, ?_, ?_, ?_, ?_, haddr⟩ <;> rw [getLsbD_pfw _ _ _ _ _ _ _ _ (by decide)] <;> simp

theorem softWord_pfwWord {s : State} (hl : s.cfg.pfwLayout = .standard) (user a w sm c p wr : Bool) (va : VAddr) :
    SoftWord (s.pfwWord (.soft user a w sm c p wr va)) user a w sm c p wr va := by
  simp only [State.pfwWord, hl]
  exact softWord_pfw user a w sm c p wr va

/-- The right half of a soft page-fail word is the address. -/
theorem softWord_addr {p : Word} {user a w sm c pub wr : Bool} {va : VAddr} (h : SoftWord p user a w sm c pub wr va) :
    p.setWidth 18 = va := by
  obtain ⟨-, -, -, -, -, -, -, -, -, haddr⟩ := h
  calc p.setWidth 18 = (p.setWidth 22).setWidth 18 := by simp
    _ = (va.setWidth 22).setWidth 18 := by rw [haddr]
    _ = va := by simp

/-- An operation that page-fails with a soft word: nothing but the status word changes, and its fields. -/
theorem pageFails_soft {α : Type} {x : EStateM.Result Abort State α} {s t : State} {user a w sm c p wr : Bool}
    {va : VAddr} (h : x = .error .pageFail { t with pagerWord := t.pfwWord (.soft user a w sm c p wr va) })
    (hs : SameRegisters s t) :
    ∃ u, x = .error .pageFail u ∧ { u with pagerWord := t.pagerWord } = t ∧
      (s.cfg.pfwLayout = .standard → SoftWord u.pagerWord user a w sm c p wr va) :=
  ⟨_, h, rfl, fun hl => softWord_pfwWord (by rw [hs.cfg, hl]) ..⟩

/-- The fields of the ITS page-fail word (R201). -/
theorem pfwIts_fields (user : Bool) (acc : BitVec 2) (wr : Bool) (va : VAddr) :
    (pfwIts user acc wr va).getLsbD 35 = user ∧ (pfwIts user acc wr va).extractLsb' 28 2 = acc ∧
      (pfwIts user acc wr va).getLsbD 21 = wr ∧ (pfwIts user acc wr va).setWidth 18 = va := by
  have haddr (i : Nat) (hi : 18 ≤ i) : (va.setWidth 36).getLsbD i = false := by
    simp [BitVec.getLsbD_of_ge va i hi]
  refine ⟨?_, ?_, ?_, ?_⟩
  · simp only [pfwIts, pfwU, signWord, BitVec.getLsbD_or, getLsbD_ite_zero, haddr 35 (by decide)]
    simp
  · apply BitVec.eq_of_getLsbD_eq
    intro i hi
    simp only [BitVec.getLsbD_extractLsb', pfwIts, pfwU, signWord, BitVec.getLsbD_or, getLsbD_ite_zero,
      haddr (28 + i) (by omega)]
    obtain rfl | rfl : i = 0 ∨ i = 1 := by omega
    · simp
    · simp
  · simp only [pfwIts, pfwU, signWord, BitVec.getLsbD_or, getLsbD_ite_zero, haddr 21 (by decide)]
    simp
  · simp [pfwIts, pfwU, signWord, BitVec.setWidth_or, apply_ite (BitVec.setWidth 18)]

/-! ### The start of a walk (R170) -/

/-- No cached entry permits the reference: the page is not cached, or cached not writable for a write. -/
def MustWalk (user : Bool) (mode : AccMode) (va : VAddr) (s : State) : Prop :=
  ∀ e, tblGet (s.cache.table user) (vpnOf va) = some e → mode = .write ∧ e.writable = false

theorem mustWalk_of_none {user : Bool} {mode : AccMode} {va : VAddr} {s : State}
    (h : tblGet (s.cache.table user) (vpnOf va) = none) : MustWalk user mode va s := by
  intro e he
  rw [h] at he
  cases he

theorem entryFor_mustWalk {user : Bool} {mode : AccMode} {va : VAddr} {s : State} (h : MustWalk user mode va s) :
    entryFor user mode va s = fill user mode va s := by
  unfold entryFor
  cases hc : tblGet (s.cache.table user) (vpnOf va) with
  | none => rfl
  | some e =>
    obtain ⟨rfl, hw⟩ := h e hc
    simp [hw]

section
variable {user : Bool} {mode : AccMode} {va : VAddr} {s t : State}

theorem translate_filled {e : TlbEntry} (hp : s.base.ebr.pgon = true) (h : MustWalk user mode va s)
    (hf : fill user mode va s = .ok e t) : translate user mode va s = .ok (physOf e.ppn va) t := by
  rw [translate_paged hp, run_bind, entryFor_mustWalk h, hf]
  rfl

theorem translate_fillFails {a : Abort} (hp : s.base.ebr.pgon = true) (h : MustWalk user mode va s)
    (hf : fill user mode va s = .error a t) : translate user mode va s = .error a t := by
  rw [translate_paged hp, run_bind, entryFor_mustWalk h, hf]

theorem fill_t10 (hi : s.cfg.its = false) (h20 : s.base.ebr.t20 = false) :
    fill user mode va s = fillT10 user mode va s := by
  simp only [fill, hi, h20, Bool.false_eq_true, if_false]

theorem fill_t20 (hi : s.cfg.its = false) (h20 : s.base.ebr.t20 = true) :
    fill user mode va s = fillT20 user mode va s := by
  simp only [fill, hi, h20, Bool.false_eq_true, if_false, if_true]

theorem fill_its (hi : s.cfg.its = true) : fill user mode va s = fillIts user mode va s := by
  simp only [fill, hi, if_true]

end

/-- The mode of a fill that writes the cache (R172). -/
theorem commits_iff (mode : AccMode) : mode.commits = true ↔ mode ≠ .map := by
  cases mode <;> simp [AccMode.commits]

/-- Page numbers have at most 13 bits (D2). -/
theorem pageNo_toNat {s : State} (hw : s.cfg.wf = true) (n : Nat) :
    (s.pageNo n).toNat = n % 2 ^ (s.cfg.paWidth - 9) := by
  obtain ⟨⟨-, hmax⟩, -⟩ : (10 ≤ s.cfg.paWidth ∧ s.cfg.paWidth ≤ 22) ∧ _ := by simpa [Config.wf] using hw
  have hlt : n % 2 ^ (s.cfg.paWidth - 9) < 2 ^ 13 :=
    (Nat.mod_lt _ (Nat.two_pow_pos _)).trans_le (Nat.pow_le_pow_right (by decide) (by omega))
  rw [State.pageNo, BitVec.toNat_ofNat, Nat.mod_eq_of_lt hlt]

end Sys2Proof.Machine
end

section
/-! SUPPORT. TOPS-10 translation (R180 to R182). -/

namespace Sys2Proof.Machine

open Sys2Proof Sys2Proof.Statements

/-- The state with the status word of a TOPS-10 page-map entry (R181, R182). -/
def State.notedT10 (s : State) (user : Bool) (mode : AccMode) (va : VAddr) (pte : Half) : State :=
  { s with pagerWord := s.pfwWord (.soft user (pte.getLsbD 17) (pte.getLsbD 15) (pte.getLsbD 14) (pte.getLsbD 13)
      (pte.getLsbD 16) (decide (mode = .write)) va) }

section
variable {user : Bool} {mode : AccMode} {va : VAddr} {s : State} {w : Word} {pte : Half}

/-- The TOPS-10 fill, its pair of entries being present. -/
theorem fillT10_run (hm : s.t10Pair user (vpnOf va) < s.cfg.memSize)
    (hw : tblGet s.mem (s.t10Pair user (vpnOf va)) = some w) (hpte : pte = pairHalf w (vpnOf va)) :
    fillT10 user mode va s =
      if pte.getLsbD 17 = false ∨ (mode = .write ∧ pte.getLsbD 15 = false) then
        .error .pageFail (s.notedT10 user mode va pte)
      else .ok ⟨s.pageNo pte.toNat, pte.getLsbD 15⟩ (if mode.commits then
        (s.notedT10 user mode va pte).setTlb user (vpnOf va) ⟨s.pageNo pte.toNat, pte.getLsbD 15⟩
        else s.notedT10 user mode va pte) := by
  subst hpte
  simp only [fillT10, run_bind, run_getS, readP_run hm hw, run_notePfw, run_ite, run_raise, run_onlyIf, run_modS,
    run_pure, Bool.or_eq_true, Bool.and_eq_true, Bool.not_eq_true', decide_eq_true_eq]
  congr 1
  cases mode.commits <;> rfl

/-- TOPS-10 translation of a page that has to be walked for: the entry in the page map permits the reference. -/
theorem translate_t10_ok (hp : s.base.ebr.pgon = true) (hi : s.cfg.its = false) (h20 : s.base.ebr.t20 = false)
    (hwf : s.cfg.wf = true) (hwalk : MustWalk user mode va s) (hm : s.t10Pair user (vpnOf va) < s.cfg.memSize)
    (hw : tblGet s.mem (s.t10Pair user (vpnOf va)) = some w) (hpte : pte = pairHalf w (vpnOf va))
    (ha : pte.getLsbD 17 = true) (hwr : mode = .write → pte.getLsbD 15 = true) (hc : mode ≠ .map) :
    ∃ t, translate user mode va s = .ok (pte.toNat % 2 ^ (s.cfg.paWidth - 9) * 0o1000 + offOf va) t ∧
      tblGet (t.cache.table user) (vpnOf va) =
        some ⟨BitVec.ofNat 13 (pte.toNat % 2 ^ (s.cfg.paWidth - 9)), pte.getLsbD 15⟩ ∧ t.mem = s.mem := by
  have hgo : ¬ (pte.getLsbD 17 = false ∨ (mode = .write ∧ pte.getLsbD 15 = false)) := by
    rintro (h | ⟨h, h'⟩)
    · exact nomatch ha.symm.trans h
    · exact nomatch (hwr h).symm.trans h'
  have hfill := (fill_t10 hi h20).trans (fillT10_run hm hw hpte (mode := mode))
  rw [if_neg hgo, if_pos ((commits_iff mode).mpr hc)] at hfill
  have ht := translate_filled hp hwalk hfill
  rw [physOf, pageNo_toNat hwf] at ht
  exact ⟨_, ht, by rw [tblGet_setTlb, if_pos rfl, State.pageNo], rfl⟩

/-- The entry in the page map refuses the reference: only the status word changes. -/
theorem translate_t10_fails (hp : s.base.ebr.pgon = true) (hi : s.cfg.its = false) (h20 : s.base.ebr.t20 = false)
    (hwalk : MustWalk user mode va s) (hm : s.t10Pair user (vpnOf va) < s.cfg.memSize)
    (hw : tblGet s.mem (s.t10Pair user (vpnOf va)) = some w) (hpte : pte = pairHalf w (vpnOf va))
    (hno : pte.getLsbD 17 = false ∨ (mode = .write ∧ pte.getLsbD 15 = false)) :
    translate user mode va s = .error .pageFail (s.notedT10 user mode va pte) := by
  refine translate_fillFails hp hwalk ((fill_t10 hi h20).trans ?_)
  rw [fillT10_run hm hw hpte, if_pos hno]

end

/-- Settles O13: `translate_t10_ok` where the entry permits the reference, `translate_t10_fails` where it does not, with
the fields of the status word of `softWord_pfwWord`. -/
theorem tops10Translation : Obligations.Tops10Translation := by
  rintro user va w s hp hi h20 hwf hm hw pte p hpte rfl
  replace hpte : pte = pairHalf w (vpnOf va) := hpte
  refine ⟨fun hnone ha => ?read, fun hwalk ha hwr => ?write, fun hwalk ha hwr => ?refused, fun ha mode hwalk => ?absent⟩
  case read => exact translate_t10_ok hp hi h20 hwf (mustWalk_of_none hnone) hm hw hpte ha nofun nofun
  case write =>
    have hwalk : MustWalk user .write va s := fun e he => ⟨rfl, hwalk e he⟩
    obtain ⟨t, ht, hcache, hmem⟩ := translate_t10_ok hp hi h20 hwf hwalk hm hw hpte ha (fun _ => hwr) nofun
    exact ⟨t, ht, by rw [hcache, hwr], hmem⟩
  case refused =>
    have hwalk : MustWalk user .write va s := fun e he => ⟨rfl, hwalk e he⟩
    refine ⟨_, translate_t10_fails hp hi h20 hwalk hm hw hpte (.inr ⟨rfl, hwr⟩), rfl, rfl, fun hl => ?_⟩
    have hword := softWord_pfwWord hl user (pte.getLsbD 17) (pte.getLsbD 15) (pte.getLsbD 14) (pte.getLsbD 13)
      (pte.getLsbD 16) true va
    have haddr := softWord_addr hword
    obtain ⟨hu, hh, ha', hw', hm', hc', hpub, -, hwr', -⟩ := hword
    exact ⟨hu, hh, ha'.trans ha, hw'.trans hwr, hm', hc', hpub, hwr', haddr⟩
  case absent => exact ⟨_, translate_t10_fails hp hi h20 hwalk hm hw hpte (.inl ha), rfl, rfl⟩

end Sys2Proof.Machine
end

section
/-! SUPPORT. TOPS-20 pointers: what each type resolves to, and the section and page pointers (R173, R185 to R187). -/

namespace Sys2Proof.Machine

open Sys2Proof Sys2Proof.Statements

/-! ### The checks of an indirect pointer (R173) -/

theorem indLimit_within {n : Nat} {s : State} (h : s.cfg.indMax = 0 ∨ n ≤ s.cfg.indMax) : indLimit n s = .ok () s := by
  have hlim : ¬ (s.cfg.indMax ≠ 0 ∧ s.cfg.indMax < n) := by omega
  rw [indLimit, if_neg hlim]

theorem indLimit_beyond {n : Nat} {s : State} (h0 : s.cfg.indMax ≠ 0) (h : s.cfg.indMax < n) :
    indLimit n s = .error (.stop .ind) s := by
  rw [indLimit, if_pos ⟨h0, h⟩]

section
variable {mode : AccMode} {n : Nat} {s t : State}

/-- An indirect step in READ or WRITE counts, and checks the limit and for interrupts. -/
theorem pointerCheck_commits (hc : mode ≠ .map) (ht : t = { s with indCount := s.indCount + 1 }) :
    pointerCheck mode n s = (do
      indLimit n
      reenterIfPending
      pure true : M Bool) t := by
  subst ht
  simp only [pointerCheck, (commits_iff mode).mpr hc, if_true]
  rfl

theorem pointerCheck_quiet (hc : mode ≠ .map) (ht : t = { s with indCount := s.indCount + 1 })
    (hl : t.cfg.indMax = 0 ∨ n ≤ t.cfg.indMax) (hp : t.piPending = 0) (ha : t.env.arrivals = []) :
    pointerCheck mode n s = .ok true t := by
  simp only [pointerCheck_commits hc ht, run_bind, indLimit_within hl, reenterIfPending_quiet hp ha, run_pure]

theorem pointerCheck_beyond (hc : mode ≠ .map) (ht : t = { s with indCount := s.indCount + 1 })
    (h0 : t.cfg.indMax ≠ 0) (hl : t.cfg.indMax < n) : pointerCheck mode n s = .error (.stop .ind) t := by
  simp only [pointerCheck_commits hc ht, run_bind, indLimit_beyond h0 hl]

theorem pointerCheck_due (hc : mode ≠ .map) (ht : t = { s with indCount := s.indCount + 1 })
    (hl : t.cfg.indMax = 0 ∨ n ≤ t.cfg.indMax) (hcy : t.piCycle = false) (hp : t.piPending ≠ 0 ∨ t.arrival = true) :
    pointerCheck mode n s = .error .reenter t.passCheckpoint := by
  simp only [pointerCheck_commits hc ht, run_bind, indLimit_within hl, reenterIfPending_due hcy hp]

/-- In MAP an indirect step only asks whether the chain may go on (D17). -/
theorem pointerCheck_map :
    pointerCheck .map n s = .ok (decide (n ≤ if s.cfg.indMax = 0 then 2 ^ 18 else s.cfg.indMax)) s := rfl

end

/-! ### Pointers by type (R185, R186) -/

/-- Without `T20_CST_SCOPE` for the tables a page table has no CST step (D19). -/
theorem tableAge_off {user : Bool} {mode : AccMode} {ppn : BitVec 13} {s : State} (h : s.cfg.t20CstTables = false) :
    tableAge user mode ppn s = .ok true s := by
  simp only [tableAge, run_bind, run_getS, h, Bool.false_eq_true, if_false, run_pure]

theorem readSpt_run {user : Bool} {ptr x : Word} {s : State} (h : s.base.spb.toNat + (rh ptr).toNat < s.cfg.memSize)
    (hx : tblGet s.mem (s.base.spb.toNat + (rh ptr).toNat) = some x) : readSpt user ptr s = .ok x s := by
  simp only [readSpt, run_bind, run_getS, readP_run h hx]

/-- The type of a pointer, DEC bits 0-2 (R185). -/
def ptrType (ptr : Word) : Nat := (ptr.extractLsb' 33 3).toNat

section
variable {user : Bool} {mode : AccMode} {k n : Nat} {ptr x : Word} {accW accC : Bool} {s : State}

theorem resolve_immediate (h : ptrType ptr = 1) :
    resolve user mode (k + 1) n ptr accW accC s = .ok (if stmOf ptr = 0 then
      some ⟨s.ppnOf ptr, accW && ptr.getLsbD 31, accC && ptr.getLsbD 29⟩ else none) s := by
  unfold ptrType at h
  simp only [resolve, run_bind, run_getS, h, if_true, run_pure]

theorem resolve_badType (h1 : ptrType ptr ≠ 1) (h2 : ptrType ptr ≠ 2) (h3 : ptrType ptr ≠ 3) :
    resolve user mode (k + 1) n ptr accW accC s = .ok none s := by
  unfold ptrType at h1 h2 h3
  simp only [resolve, run_bind, run_getS, h1, h2, h3, if_false, run_pure]

theorem resolve_shared (h : ptrType ptr = 2) (hx : readSpt user ptr s = .ok x s) :
    resolve user mode (k + 1) n ptr accW accC s = .ok (if stmOf x = 0 then
      some ⟨s.ppnOf x, accW && ptr.getLsbD 31, accC && ptr.getLsbD 29⟩ else none) s := by
  unfold ptrType at h
  simp only [resolve, run_bind, run_getS, h, OfNat.ofNat_ne_one, if_false, if_true, hx, run_pure]

theorem resolve_indirect_absent (h : ptrType ptr = 3) (hx : readSpt user ptr s = .ok x s) (hst : stmOf x ≠ 0) :
    resolve user mode (k + 1) n ptr accW accC s = .ok none s := by
  unfold ptrType at h
  simp only [resolve, run_bind, run_getS, h, hx, hst, OfNat.ofNat_ne_one, Nat.reduceEqDiff, ne_eq, not_false_eq_true,
    if_false, if_true, run_pure]

/-- An indirect pointer whose SPT entry names a page in memory: the checks, then the pointer in that page. -/
theorem resolve_indirect (h : ptrType ptr = 3) (hx : readSpt user ptr s = .ok x s) (hst : stmOf x = 0) :
    resolve user mode (k + 1) n ptr accW accC s = (do
      if ← pointerCheck mode (n + 1) then
        if ← tableAge user mode (s.ppnOf x) then
          let next ← readP user ((s.ppnOf x).toNat * 0o1000 + (ptr.extractLsb' 18 9).toNat)
          resolve user mode k (n + 1) next (accW && ptr.getLsbD 31) (accC && ptr.getLsbD 29)
        else pure none
      else pure none) s := by
  unfold ptrType at h
  simp only [resolve, run_bind, run_getS, h, hx, hst, OfNat.ofNat_ne_one, Nat.reduceEqDiff, ne_eq, not_true,
    if_false, if_true]

/-- An indirect step that passes its checks goes on with the pointer it names. -/
theorem resolve_indirect_next {t : State} {y : Word} (h : ptrType ptr = 3) (hx : readSpt user ptr s = .ok x s)
    (hst : stmOf x = 0) (hcst : t.cfg.t20CstTables = false) (hchk : pointerCheck mode (n + 1) s = .ok true t)
    (hy : readP user ((s.ppnOf x).toNat * 0o1000 + (ptr.extractLsb' 18 9).toNat) t = .ok y t) :
    resolve user mode (k + 1) n ptr accW accC s =
      resolve user mode k (n + 1) y (accW && ptr.getLsbD 31) (accC && ptr.getLsbD 29) t := by
  rw [resolve_indirect h hx hst]
  simp only [run_bind, hchk, if_true, tableAge_off hcst, hy]

/-- An indirect step whose checks abort aborts the chain. -/
theorem resolve_indirect_aborts {t : State} {a : Abort} (h : ptrType ptr = 3) (hx : readSpt user ptr s = .ok x s)
    (hst : stmOf x = 0) (hchk : pointerCheck mode (n + 1) s = .error a t) :
    resolve user mode (k + 1) n ptr accW accC s = .error a t := by
  rw [resolve_indirect h hx hst, run_bind, hchk]

/-- In MAP an indirect step goes on within the limit of the chain, and answers no page beyond it. -/
theorem resolve_indirect_map {y : Word} (h : ptrType ptr = 3) (hx : readSpt user ptr s = .ok x s)
    (hst : stmOf x = 0) (hcst : s.cfg.t20CstTables = false)
    (hy : readP user ((s.ppnOf x).toNat * 0o1000 + (ptr.extractLsb' 18 9).toNat) s = .ok y s) :
    resolve user .map (k + 1) n ptr accW accC s =
      if n + 1 ≤ (if s.cfg.indMax = 0 then 2 ^ 18 else s.cfg.indMax) then
        resolve user .map k (n + 1) y (accW && ptr.getLsbD 31) (accC && ptr.getLsbD 29) s
      else .ok none s := by
  by_cases hl : n + 1 ≤ (if s.cfg.indMax = 0 then 2 ^ 18 else s.cfg.indMax)
  · rw [if_pos hl]
    exact resolve_indirect_next h hx hst hcst (pointerCheck_map.trans (by rw [decide_eq_true hl])) hy
  · rw [if_neg hl, resolve_indirect h hx hst, run_bind, pointerCheck_map, decide_eq_false hl]
    rfl

end

/-! ### The section and page pointers (R187) -/

section
variable {user : Bool} {mode : AccMode} {va : VAddr} {r : PageRef} {s t : State} {p : Word}

theorem sectionRef_cached (h : s.cache.sect user = some r) : sectionRef user mode va s = .ok r s := by
  simp only [sectionRef, run_bind, run_getS, h, run_pure]

/-- A section not cached: its pointer, in the UPT or EPT, is resolved, and cached but in MAP. -/
theorem sectionRef_resolved (h : s.cache.sect user = none)
    (hp : readP user ((if user then s.upt else s.ept) + 0o540) s = .ok p s)
    (hr : resolve user mode s.resolveFuel 0 p true true s = .ok (some r) t) :
    sectionRef user mode va s = .ok r (if mode = .map then t else t.setSect user r) := by
  simp only [sectionRef, run_bind, run_getS, h, hp, hr, run_onlyIf, run_modS, run_pure]
  cases mode <;> rfl

theorem sectionRef_absent (h : s.cache.sect user = none)
    (hp : readP user ((if user then s.upt else s.ept) + 0o540) s = .ok p s)
    (hr : resolve user mode s.resolveFuel 0 p true true s = .ok none t) :
    sectionRef user mode va s = failAbsent user mode va t := by
  simp only [sectionRef, run_bind, run_getS, h, hp, hr]

theorem sectionRef_aborts {a : Abort} (h : s.cache.sect user = none)
    (hp : readP user ((if user then s.upt else s.ept) + 0o540) s = .ok p s)
    (hr : resolve user mode s.resolveFuel 0 p true true s = .error a t) :
    sectionRef user mode va s = .error a t := by
  simp only [sectionRef, run_bind, run_getS, h, hp, hr]

/-- The word of a page fail for an absent page or section (R187). -/
theorem run_failAbsent {α : Type} (user : Bool) (mode : AccMode) (va : VAddr) (s : State) :
    (failAbsent user mode va : M α) s = .error .pageFail { s with
      pagerWord := s.pfwWord (.soft user false false false false false (decide (mode = .write)) va) } := rfl

theorem pageRef_run (hcst : s.cfg.t20CstTables = false)
    (hp : readP user (r.ppn.toNat * 0o1000 + vpnOf va) s = .ok p s) :
    pageRef user mode va r s = resolve user mode s.resolveFuel 0 p r.writable r.cacheable s := by
  simp only [pageRef, run_bind, run_getS, tableAge_off hcst, if_true, hp]

end

end Sys2Proof.Machine
end

section
/-! SUPPORT. The TOPS-20 and ITS fills: the CST step, the age bit of an ITS page, and what each caches (R187 to R192). -/

namespace Sys2Proof.Machine

open Sys2Proof Sys2Proof.Statements

/-! ### The CST step of a TOPS-20 fill (R187) -/

theorem agedCst_mode (s : State) (cst : Word) (mode : AccMode) :
    s.agedCst cst (decide (mode = .write)) =
      ((cst &&& s.base.cstm) ||| s.base.pur) ||| (if mode = .write then 1 else 0) := by
  simp only [State.agedCst, decide_eq_true_eq]

/-- A fill for a write, or for a read unless CST entries are written for writes only, writes the CST entry back. -/
theorem writesCst_iff (s : State) (mode : AccMode) :
    s.writesCst mode = true ↔ mode ≠ .map ∧ (mode = .write ∨ s.cfg.t20CstWriteOnly = false) := by
  simp only [State.writesCst, Bool.and_eq_true, commits_iff, Bool.or_eq_true, decide_eq_true_eq, Bool.not_eq_true']

/-- The entry a TOPS-20 fill answers: writable once the modified bit of the CST entry is set. -/
def State.entryT20 (s : State) (mode : AccMode) (pg : PageRef) (cst : Word) : TlbEntry :=
  ⟨pg.ppn, pg.writable && (s.agedCst cst (decide (mode = .write))).getLsbD 0⟩

/-- The state with the CST entry of a page written back, where the mode does so. -/
def State.cstAged (s : State) (mode : AccMode) (pg : PageRef) (cst : Word) : State :=
  if s.writesCst mode then s.setMem (s.cstAddr pg.ppn) (s.agedCst cst (decide (mode = .write))) else s

/-- The state a TOPS-20 fill that succeeds leaves. -/
def State.filledT20 (s : State) (user : Bool) (mode : AccMode) (va : VAddr) (pg : PageRef) (cst : Word) : State :=
  let noted := { s.cstAged mode pg cst with
    pagerWord := s.pfwWord (.soft user true pg.writable ((s.agedCst cst (decide (mode = .write))).getLsbD 0) pg.cacheable
      false (decide (mode = .write)) va) }
  if mode.commits then noted.setTlb user (vpnOf va) (s.entryT20 mode pg cst) else noted

section
variable {user : Bool} {mode : AccMode} {va : VAddr} {pg r : PageRef} {cst : Word} {s s1 s2 : State}

theorem filledT20_table (hc : mode ≠ .map) :
    tblGet ((s.filledT20 user mode va pg cst).cache.table user) (vpnOf va) = some (s.entryT20 mode pg cst) := by
  simp only [State.filledT20, (commits_iff mode).mpr hc, if_true, tblGet_setTlb]

theorem filledT20_mem : (s.filledT20 user mode va pg cst).mem = (s.cstAged mode pg cst).mem := by
  unfold State.filledT20
  cases mode.commits <;> rfl

theorem filledT20_mem_written (h : s.writesCst mode = true) : (s.filledT20 user mode va pg cst).mem =
    (s.setMem (s.cstAddr pg.ppn) (s.agedCst cst (decide (mode = .write)))).mem := by
  rw [filledT20_mem, State.cstAged, if_pos h]

/-- A fill that writes the CST entry back stores the aged entry, and nothing else. -/
theorem filledT20_stores (h : s.writesCst mode = true) :
    tblGet (s.filledT20 user mode va pg cst).mem (s.cstAddr pg.ppn) =
        some (s.agedCst cst (decide (mode = .write))) ∧
      MemSameOutside (· = s.cstAddr pg.ppn) s (s.filledT20 user mode va pg cst) := by
  unfold MemSameOutside
  rw [filledT20_mem_written h]
  exact ⟨by rw [setMem_mem, tblGet_tblSet, if_pos rfl], memSameOutside_setMem s _ _⟩

theorem filledT20_mem_unwritten (h : ¬ s.writesCst mode = true) : (s.filledT20 user mode va pg cst).mem = s.mem := by
  rw [filledT20_mem, State.cstAged, if_neg h]

theorem filledT20_pagerWord : (s.filledT20 user mode va pg cst).pagerWord =
    s.pfwWord (.soft user true pg.writable ((s.agedCst cst (decide (mode = .write))).getLsbD 0) pg.cacheable false
      (decide (mode = .write)) va) := by
  unfold State.filledT20
  cases mode.commits <;> rfl

/-- A TOPS-20 fill whose section or page pointer aborts. -/
theorem fillT20_section_aborts {a : Abort} (h : sectionRef user mode va s = .error a s1) :
    fillT20 user mode va s = .error a s1 := by
  rw [fillT20, run_bind, h]

theorem fillT20_page_aborts {a : Abort} (hs : sectionRef user mode va s = .ok r s1)
    (h : pageRef user mode va r s1 = .error a s2) : fillT20 user mode va s = .error a s2 := by
  rw [fillT20, run_bind, hs]
  simp only [run_bind, h]

/-- A TOPS-20 fill that finds no page. -/
theorem fillT20_absent (hs : sectionRef user mode va s = .ok r s1) (h : pageRef user mode va r s1 = .ok none s2) :
    fillT20 user mode va s = failAbsent user mode va s2 := by
  rw [fillT20, run_bind, hs]
  simp only [run_bind, h]

/-- A TOPS-20 fill that finds a page, its CST entry being present. -/
theorem fillT20_run (hs : sectionRef user mode va s = .ok r s1) (h : pageRef user mode va r s1 = .ok (some pg) s2)
    (hm : s2.cstAddr pg.ppn < s2.cfg.memSize) (hcst : tblGet s2.mem (s2.cstAddr pg.ppn) = some cst) :
    fillT20 user mode va s =
      if cstAge cst = 0 then failAbsent user mode va s2
      else if mode = .write ∧ pg.writable = false then
        failWith (.soft user true false (cst.getLsbD 0) pg.cacheable false true va) s2
      else .ok (s2.entryT20 mode pg cst) (s2.filledT20 user mode va pg cst) := by
  rw [fillT20, run_bind, hs]
  simp only [run_bind, h, run_getS, readP_run hm hcst, run_ite, Bool.and_eq_true, decide_eq_true_eq, Bool.not_eq_true',
    run_onlyIf, writeP_run hm, State.filledT20, State.cstAged]
  cases s2.writesCst mode <;> cases mode.commits <;> rfl

end

/-! ### The ITS fill (R190 to R192) -/

/-- The address of the pair of page-table halfwords of an ITS page (R190). -/
def State.itsPair (s : State) (user : Bool) (va : VAddr) : Nat :=
  s.itsDbr user va + va.toNat / 0o2000 % 0o200 / 2

/-- The access class of a page-table halfword permits writing. -/
def State.itsMayWrite (s : State) (pte : Half) : Bool := s.cfg.itsWritable.getLsbD (pte.extractLsb' 16 2).toNat

/-- The state with the status word of an ITS page-table halfword. -/
def State.notedIts (s : State) (user : Bool) (mode : AccMode) (va : VAddr) (pte : Half) : State :=
  { s with pagerWord := s.pfwItsWord user (pte.extractLsb' 16 2) (decide (mode = .write)) va }

/-- The state an ITS fill that succeeds leaves: the age bit cleared, both DEC pages cached. -/
def State.filledIts (s : State) (user : Bool) (mode : AccMode) (va : VAddr) (w : Word) (pte : Half) : State :=
  let stored := (s.notedIts user mode va pte).setMem (s.itsPair user va) (clearAge w (va.toNat / 0o2000))
  (stored.setTlb user (2 * (va.toNat / 0o2000)) ⟨s.pageNo (2 * pte.toNat), s.itsMayWrite pte⟩).setTlb user
    (2 * (va.toNat / 0o2000) + 1) ⟨s.pageNo (2 * pte.toNat) ||| 1, s.itsMayWrite pte⟩

section
variable {user : Bool} {mode : AccMode} {va : VAddr} {s : State} {w : Word} {pte : Half}

/-- The ITS fill, its pair of halfwords being present. -/
theorem fillIts_run (hm : s.itsPair user va < s.cfg.memSize) (hw : tblGet s.mem (s.itsPair user va) = some w)
    (hpte : pte = pairHalf w (va.toNat / 0o2000)) :
    fillIts user mode va s =
      if pte.extractLsb' 16 2 = 0 ∨ (mode = .write ∧ s.itsMayWrite pte = false) then
        .error .pageFail (s.notedIts user mode va pte)
      else .ok ⟨if va.getLsbD 9 then s.pageNo (2 * pte.toNat) ||| 1 else s.pageNo (2 * pte.toNat), s.itsMayWrite pte⟩
        (if mode.commits then s.filledIts user mode va w pte else s.notedIts user mode va pte) := by
  subst hpte
  unfold State.itsPair at hm hw
  simp only [fillIts, run_bind, run_getS, readP_run hm hw, run_setPagerWord, run_ite, run_raise, run_onlyIf, run_modS,
    run_pure, Bool.or_eq_true, Bool.and_eq_true, Bool.not_eq_true', decide_eq_true_eq]
  congr 1
  cases mode.commits with
  | false => rfl
  | true =>
    have hwrite : writeP user (s.itsDbr user va + va.toNat / 0o2000 % 0o200 / 2) (clearAge w (va.toNat / 0o2000))
        (s.notedIts user mode va (pairHalf w (va.toNat / 0o2000))) = _ := writeP_run hm
    unfold State.notedIts at hwrite
    simp only [if_true, hwrite]
    rfl

/-- The DEC pages of an ITS page are numbered twice its number and one more (R190). -/
theorem pageNo_double (hwf : s.cfg.wf = true) (n : Nat) :
    s.pageNo (2 * n) = BitVec.ofNat 13 (2 * (n % 2 ^ (s.cfg.paWidth - 10))) := by
  obtain ⟨⟨hmin, -⟩, -⟩ : (10 ≤ s.cfg.paWidth ∧ s.cfg.paWidth ≤ 22) ∧ _ := by simpa [Config.wf] using hwf
  have hpow : 2 ^ (s.cfg.paWidth - 9) = 2 * 2 ^ (s.cfg.paWidth - 10) := by
    rw [← Nat.pow_succ']
    congr 1
    omega
  rw [State.pageNo, hpow, Nat.mul_mod_mul_left]

theorem ofNat_double_or_one (n : Nat) : BitVec.ofNat 13 (2 * n) ||| 1 = BitVec.ofNat 13 (2 * n + 1) := by
  have hor : 2 * n + 1 = 2 * n ||| 1 := by
    have := Nat.shiftLeft_add_eq_or_of_lt (show 1 < 2 ^ 1 by decide) n
    rwa [Nat.shiftLeft_eq, Nat.pow_one, Nat.mul_comm] at this
  rw [hor, BitVec.ofNat_or]
  rfl

/-- The page number of an ITS page is below 2^12 (D2). -/
theorem itsPage_lt (hwf : s.cfg.wf = true) (n : Nat) : n % 2 ^ (s.cfg.paWidth - 10) < 2 ^ 12 := by
  obtain ⟨⟨-, hmax⟩, -⟩ : (10 ≤ s.cfg.paWidth ∧ s.cfg.paWidth ≤ 22) ∧ _ := by simpa [Config.wf] using hwf
  exact (Nat.mod_lt _ (Nat.two_pow_pos _)).trans_le (Nat.pow_le_pow_right (by decide) (by omega))

/-- The DEC page and offset of an address in an ITS page are the ITS page and offset (R190). -/
theorem physOf_its {p : Nat} (hp : p < 2 ^ 12) (va : VAddr) :
    physOf (if va.getLsbD 9 then BitVec.ofNat 13 (2 * p + 1) else BitVec.ofNat 13 (2 * p)) va =
      p * 0o2000 + va.toNat % 0o2000 := by
  have hpage := vpnOf_its va
  unfold vpnOf at hpage
  unfold physOf offOf
  cases hb : va.getLsbD 9 <;> simp only [hb, Bool.false_eq_true, if_false, if_true, BitVec.toNat_ofNat] at hpage ⊢ <;>
    omega

/-- ITS translation of a page that has to be walked for: the halfword permits the reference. -/
theorem translate_its_ok (hp : s.base.ebr.pgon = true) (hi : s.cfg.its = true) (hwf : s.cfg.wf = true)
    (hwalk : MustWalk user mode va s) (hm : s.itsPair user va < s.cfg.memSize)
    (hw : tblGet s.mem (s.itsPair user va) = some w) (hpte : pte = pairHalf w (va.toNat / 0o2000))
    (hacc : pte.extractLsb' 16 2 ≠ 0) (hwr : mode = .write → s.itsMayWrite pte = true) (hc : mode ≠ .map) :
    translate user mode va s =
      .ok (pte.toNat % 2 ^ (s.cfg.paWidth - 10) * 0o2000 + va.toNat % 0o2000) (s.filledIts user mode va w pte) := by
  have hgo : ¬ (pte.extractLsb' 16 2 = 0 ∨ (mode = .write ∧ s.itsMayWrite pte = false)) := by
    rintro (h | ⟨h, h'⟩)
    · exact hacc h
    · exact nomatch (hwr h).symm.trans h'
  have hfill := (fill_its hi).trans (fillIts_run hm hw hpte (mode := mode))
  rw [if_neg hgo, if_pos ((commits_iff mode).mpr hc)] at hfill
  rw [translate_filled hp hwalk hfill, pageNo_double hwf, ofNat_double_or_one, physOf_its (itsPage_lt hwf _)]

/-- The halfword refuses the reference: only the status word changes. -/
theorem translate_its_fails (hp : s.base.ebr.pgon = true) (hi : s.cfg.its = true) (hwalk : MustWalk user mode va s)
    (hm : s.itsPair user va < s.cfg.memSize) (hw : tblGet s.mem (s.itsPair user va) = some w)
    (hpte : pte = pairHalf w (va.toNat / 0o2000))
    (hno : pte.extractLsb' 16 2 = 0 ∨ (mode = .write ∧ s.itsMayWrite pte = false)) :
    translate user mode va s = .error .pageFail (s.notedIts user mode va pte) := by
  refine translate_fillFails hp hwalk ((fill_its hi).trans ?_)
  rw [fillIts_run hm hw hpte, if_pos hno]

/-- Both DEC pages of the ITS page are cached. -/
theorem filledIts_table (hwf : s.cfg.wf = true) {p : Nat} (hp : p = pte.toNat % 2 ^ (s.cfg.paWidth - 10)) :
    tblGet ((s.filledIts user mode va w pte).cache.table user) (2 * (va.toNat / 0o2000)) =
        some ⟨BitVec.ofNat 13 (2 * p), s.itsMayWrite pte⟩ ∧
      tblGet ((s.filledIts user mode va w pte).cache.table user) (2 * (va.toNat / 0o2000) + 1) =
        some ⟨BitVec.ofNat 13 (2 * p + 1), s.itsMayWrite pte⟩ := by
  subst hp
  simp only [State.filledIts, pageNo_double hwf, ofNat_double_or_one, tblGet_setTlb, if_true,
    Nat.ne_of_lt (Nat.lt_succ_self _), if_false, and_self]

/-- An ITS fill clears the age bit of the halfword in its pair, and stores nothing else (R192). -/
theorem filledIts_stores :
    tblGet (s.filledIts user mode va w pte).mem (s.itsPair user va) = some (clearAge w (va.toNat / 0o2000)) ∧
      MemSameOutside (· = s.itsPair user va) s (s.filledIts user mode va w pte) := by
  have hmem : (s.filledIts user mode va w pte).mem =
      (s.setMem (s.itsPair user va) (clearAge w (va.toNat / 0o2000))).mem := rfl
  unfold MemSameOutside
  rw [hmem]
  exact ⟨by rw [setMem_mem, tblGet_tblSet, if_pos rfl], memSameOutside_setMem s _ _⟩

end

/-- The age bit of a halfword of a pair is DEC bit 2 or 20 of the word (R191). -/
theorem clearAge_eq (w : Word) (page : Nat) :
    clearAge w page = w &&& ~~~(if page % 2 = 0 then 0o100000000000 else 0o000000100000) := by
  unfold clearAge
  split <;> rfl

end Sys2Proof.Machine
end

section
/-! SUPPORT. TOPS-20 and ITS translation (R185 to R192): the statement, from the pointers and the fills. -/

namespace Sys2Proof.Machine

open Sys2Proof Sys2Proof.Statements

/-! ### TOPS-20 translation of a page that has to be walked for (R187) -/

section
variable {user : Bool} {mode : AccMode} {va : VAddr} {pg r : PageRef} {cst : Word} {s s1 s2 : State}

/-- The two phases of a TOPS-20 fill leave the registers. -/
theorem sameRegisters_walked {o : Option PageRef} (hs : sectionRef user mode va s = .ok r s1)
    (h : pageRef user mode va r s1 = .ok o s2) : SameRegisters s s2 :=
  ((Frames.sectionRef _ _ _).ok hs).trans ((Frames.pageRef _ _ _ _).ok h)

/-- The CST entry is too old: the page counts as absent. -/
theorem fillT20_tooOld (hs : sectionRef user mode va s = .ok r s1)
    (h : pageRef user mode va r s1 = .ok (some pg) s2) (hm : s2.cstAddr pg.ppn < s2.cfg.memSize)
    (hcst : tblGet s2.mem (s2.cstAddr pg.ppn) = some cst) (hage : cstAge cst = 0) :
    fillT20 user mode va s = failAbsent user mode va s2 := by
  rw [fillT20_run hs h hm hcst, if_pos hage]

/-- A write to a page not writable. -/
theorem fillT20_readOnly (hs : sectionRef user mode va s = .ok r s1)
    (h : pageRef user mode va r s1 = .ok (some pg) s2) (hm : s2.cstAddr pg.ppn < s2.cfg.memSize)
    (hcst : tblGet s2.mem (s2.cstAddr pg.ppn) = some cst) (hage : cstAge cst ≠ 0)
    (hno : mode = .write ∧ pg.writable = false) :
    fillT20 user mode va s = failWith (.soft user true false (cst.getLsbD 0) pg.cacheable false true va) s2 := by
  rw [fillT20_run hs h hm hcst, if_neg hage, if_pos hno]

theorem fillT20_filled (hs : sectionRef user mode va s = .ok r s1)
    (h : pageRef user mode va r s1 = .ok (some pg) s2) (hm : s2.cstAddr pg.ppn < s2.cfg.memSize)
    (hcst : tblGet s2.mem (s2.cstAddr pg.ppn) = some cst) (hage : cstAge cst ≠ 0)
    (hw : mode = .write → pg.writable = true) :
    fillT20 user mode va s = .ok (s2.entryT20 mode pg cst) (s2.filledT20 user mode va pg cst) := by
  have hgo : ¬ (mode = .write ∧ pg.writable = false) := fun ⟨hmode, hno⟩ => nomatch (hw hmode).symm.trans hno
  rw [fillT20_run hs h hm hcst, if_neg hage, if_neg hgo]

theorem translate_t20 {t : State} (hp : s.base.ebr.pgon = true) (hi : s.cfg.its = false) (h20 : s.base.ebr.t20 = true)
    (hwalk : MustWalk user mode va s) (hf : fillT20 user mode va s = .ok (s2.entryT20 mode pg cst) t) :
    translate user mode va s = .ok (pg.ppn.toNat * 0o1000 + offOf va) t := by
  rw [translate_filled hp hwalk ((fill_t20 hi h20).trans hf), physOf, State.entryT20]

end

/-- Settles O14: the `resolve_` lemmas for the pointers, the `sectionRef_` lemmas for the section, `fillT20_tooOld`,
`fillT20_readOnly` and `fillT20_filled` for the CST step, `translate_its_ok` and `translate_its_fails` for ITS. -/
theorem pagedTranslation : Obligations.PagedTranslation := by
  refine ⟨?pointers, ?sections, ?fill, ?its⟩
  case pointers =>
    rintro user mode k n ptr x y accW accC s ty w c rfl rfl rfl hcst
    have hspt : s.base.spb.toNat + (rh ptr).toNat < s.cfg.memSize →
        tblGet s.mem (s.base.spb.toNat + (rh ptr).toNat) = some x → readSpt user ptr s = .ok x s := readSpt_run
    refine ⟨resolve_immediate, resolve_badType,
      fun hm hx => ⟨fun h => ?shared, fun h hst => ?absent, ?next⟩, ?checks, ?map⟩
    case shared => exact resolve_shared h (hspt hm hx)
    case absent => exact resolve_indirect_absent h (hspt hm hx) hst
    case next =>
      rintro a rfl h hst ha hy hc hl hp hq
      exact resolve_indirect_next h (hspt hm hx) hst hcst (pointerCheck_quiet hc rfl hl hp hq) (readP_run ha hy)
    case checks =>
      intro t hm hx h hst hc ht
      have hcfg : t.cfg = s.cfg := by rw [ht]
      have hcycle : t.piCycle = s.piCycle := by rw [ht]
      rw [← hcfg, ← hcycle]
      refine ⟨fun h0 hl => ?_, fun hl hcy hp => ?_⟩
      · exact resolve_indirect_aborts h (hspt hm hx) hst (pointerCheck_beyond hc ht h0 hl)
      · exact resolve_indirect_aborts h (hspt hm hx) hst (pointerCheck_due hc ht hl hcy hp)
    case map =>
      rintro a rfl hm hx h hst ha hy rfl
      exact resolve_indirect_map h (hspt hm hx) hst hcst (readP_run ha hy)
  case sections =>
    rintro user mode va p q r s t b a hcst rfl rfl
    refine ⟨sectionRef_cached, fun h hm hp hr => ?resolved, fun h hm hp hr => ?absent, fun ab h hm hp hr => ?aborts,
      fun hm hq => pageRef_run hcst (readP_run hm hq)⟩
    case resolved => exact sectionRef_resolved h (readP_run hm hp) hr
    case absent =>
      exact pageFails_soft ((sectionRef_absent h (readP_run hm hp) hr).trans (run_failAbsent ..))
        ((Frames.resolve _ _ _ _ _ _ _).ok hr)
    case aborts => exact sectionRef_aborts h (readP_run hm hp) hr
  case fill =>
    intro user mode va r pg s s1 s2 cst new a hp hi h20 hwalk
    have hfill := fill_t20 hi h20 (user := user) (mode := mode) (va := va)
    have hfails {ab : Abort} {t : State} (h : fillT20 user mode va s = .error ab t) :
        translate user mode va s = .error ab t := translate_fillFails hp hwalk (hfill.trans h)
    refine ⟨fun ab t h => hfails (fillT20_section_aborts h), fun hs =>
      ⟨fun ab t h => hfails (fillT20_page_aborts hs h), fun h => ?absent, ?found⟩⟩
    case absent =>
      exact pageFails_soft (hfails ((fillT20_absent hs h).trans (run_failAbsent ..))) (sameRegisters_walked hs h)
    case found =>
      rintro h rfl hm hcst hnew
      have hsame : SameRegisters s s2 := sameRegisters_walked hs h
      rw [← agedCst_mode] at hnew
      subst hnew
      have hfilled (hage : cstAge cst ≠ 0) (hw : mode = .write → pg.writable = true) :
          translate user mode va s = .ok (pg.ppn.toNat * 0o1000 + offOf va) (s2.filledT20 user mode va pg cst) :=
        translate_t20 hp hi h20 hwalk (fillT20_filled hs h hm hcst hage hw)
      refine ⟨fun hno => ?refused, fun hage hw hc hwr => ?written, fun hage hmode hwo => ?unwritten,
        fun hage hw hl p t ht => ?word⟩
      case refused =>
        by_cases hage : cstAge cst = 0
        · obtain ⟨t, ht, hrest, hword⟩ :=
            pageFails_soft (hfails ((fillT20_tooOld hs h hm hcst hage).trans (run_failAbsent ..))) hsame
          exact ⟨t, ht, hrest, fun hl => (if_pos hage).mpr (hword hl)⟩
        · obtain ⟨t, ht, hrest, hword⟩ :=
            pageFails_soft (hfails ((fillT20_readOnly hs h hm hcst hage (hno.resolve_left hage)).trans (run_failWith ..)))
              hsame
          exact ⟨t, ht, hrest, fun hl => (if_neg hage).mpr (hword hl)⟩
      case written =>
        have hst : s2.writesCst mode = true := (writesCst_iff s2 mode).mpr ⟨hc, hwr⟩
        obtain ⟨hmem, hrest⟩ := filledT20_stores (s := s2) hst
        exact ⟨_, hfilled hage hw, hmem, hrest, filledT20_table hc⟩
      case unwritten =>
        subst hmode
        exact ⟨_, hfilled hage nofun, filledT20_mem_unwritten fun hst => by simp [writesCst_iff, hwo] at hst,
          filledT20_table nofun⟩
      case word =>
        rw [hfilled hage hw] at ht
        cases ht
        rw [filledT20_pagerWord]
        exact softWord_pfwWord (by rw [hsame.cfg, hl]) ..
  case its =>
    rintro user mode va w pte s ip p a wr hp hi hwf hwalk rfl ha hm hw hpte rfl rfl
    obtain rfl : a = s.itsPair user va := ha.trans (by
      unfold State.itsPair State.itsDbr
      cases user <;> cases va.getLsbD 17 <;> rfl)
    refine ⟨fun hno => ?fails, fun hacc hwr hc => ?ok⟩
    case fails =>
      refine ⟨_, translate_its_fails hp hi hwalk hm hw hpte hno, rfl, fun hl => ?_⟩
      simp only [State.notedIts, State.pfwItsWord, hl]
      exact pfwIts_fields ..
    case ok =>
      obtain ⟨hmem, hrest⟩ := filledIts_stores (s := s) (user := user) (mode := mode) (va := va) (w := w) (pte := pte)
      rw [clearAge_eq] at hmem
      exact ⟨_, translate_its_ok hp hi hwf hwalk hm hw hpte hacc hwr hc, hmem, hrest, filledIts_table hwf rfl⟩

end Sys2Proof.Machine
end

section
/-! SUPPORT. The opcode table against the encoder: every row answers well-formed instructions that encode to a word of
the row's opcode (30_encoding.md section 4, R331, R340). -/

namespace Sys2Proof

/-! ### Rows of the table -/

/-- A row of the opcode table is right for its opcode: what it answers is well-formed and encodes to the fields given. -/
def RowEncodes (c : Config) (op : BitVec 9) (row : AcNum → EaField → Instr) : Prop :=
  ∀ (ac : AcNum) (m : EaField), (row ac m).wf c = true ∧ encode (row ac m) = [pack op ac m]

/-- The rows of a piece of the table are right for the opcodes from `n` up. -/
def RowsEncode (c : Config) : Nat → List (AcNum → EaField → Instr) → Prop
  | _, [] => True
  | n, row :: rows => RowEncodes c (BitVec.ofNat 9 n) row ∧ RowsEncode c (n + 1) rows

section
variable {c : Config}

theorem RowsEncode.append : ∀ {n k : Nat} {l r : List (AcNum → EaField → Instr)},
    RowsEncode c n l → l.length = k → RowsEncode c (n + k) r → RowsEncode c n (l ++ r)
  | _, _, [], _, _, rfl, hr => hr
  | _, _, _ :: _, _, ⟨hrow, hl⟩, rfl, hr => ⟨hrow, hl.append rfl (by rwa [Nat.add_right_comm, Nat.add_assoc])⟩

theorem RowsEncode.getD (d : AcNum → EaField → Instr) : ∀ {n i : Nat} {l : List (AcNum → EaField → Instr)},
    RowsEncode c n l → i < l.length → RowEncodes c (BitVec.ofNat 9 (n + i)) (l.getD i d)
  | _, 0, _ :: _, ⟨hrow, _⟩, _ => hrow
  | n, i + 1, _ :: l, ⟨_, hl⟩, hi => by
    rw [← Nat.add_assoc, Nat.add_right_comm]
    exact hl.getD d (Nat.lt_of_succ_lt_succ hi)

/-- Rows whose instructions are fixed are right when the two lists of answers, evaluated, are. -/
theorem rowsEncode_of_evaluated : ∀ {n : Nat} {l : List (AcNum → EaField → Instr)},
    (∀ ac m, l.all (fun row => (row ac m).wf c) = true) →
    (∀ ac m, l.map (fun row => encode (row ac m)) =
      (List.range' n l.length).map fun op => [pack (BitVec.ofNat 9 op) ac m]) →
    RowsEncode c n l
  | _, [], _, _ => trivial
  | n, row :: l, hwf, henc => by
    simp only [List.all_cons, Bool.and_eq_true] at hwf
    simp only [List.length_cons, List.range'_succ, List.map_cons, List.cons.injEq] at henc
    exact ⟨fun ac m => ⟨(hwf ac m).1, (henc ac m).1⟩,
      rowsEncode_of_evaluated (fun ac m => (hwf ac m).2) fun ac m => (henc ac m).2⟩

/-- The first `k` rows fixed, and the rest. -/
theorem rowsEncode_take_drop (k : Nat) {n : Nat} {l : List (AcNum → EaField → Instr)} (hk : (l.take k).length = k)
    (hwf : ∀ ac m, (l.take k).all (fun row => (row ac m).wf c) = true)
    (henc : ∀ ac m, (l.take k).map (fun row => encode (row ac m)) =
      (List.range' n k).map fun op => [pack (BitVec.ofNat 9 op) ac m])
    (hrest : RowsEncode c (n + k) (l.drop k)) : RowsEncode c n l := by
  rw [← List.take_append_drop k l]
  exact (rowsEncode_of_evaluated hwf (by rwa [hk])).append hk hrest

end

/-- The gates of the rows (R331), that of XJRST apart, go by `ITS` alone: a property of a row is shown for both settings. -/
theorem forall_config_of_its {P : Config → Prop} (hits : ∀ c : Config, P { c with its := true })
    (hdec : ∀ c : Config, P { c with its := false }) (c : Config) : P c := by
  have h : ∀ b : Bool, P { c with its := b } := Bool.forall_bool.mpr ⟨hdec c, hits c⟩
  exact h c.its

/-! ### Rows that go by the AC field -/

theorem rowEncodes_ibp (c : Config) : RowEncodes c 0o133 decodeIbp := by
  intro ac m
  by_cases h : ac = 0
  · subst h
    exact ⟨rfl, rfl⟩
  · rw [decodeIbp, if_neg h]
    exact ⟨bne_iff_ne.mpr h, rfl⟩

theorem rowEncodes_xct (c : Config) : RowEncodes c 0o256 decodeXct := by
  intro ac m
  by_cases h : ac = 0
  · subst h
    exact ⟨rfl, rfl⟩
  · rw [decodeXct, if_neg h]
    exact ⟨bne_iff_ne.mpr h, rfl⟩

/-- JRST 15 is XJRST where that exists, and an MUUO where it does not (R684). -/
theorem rowEncodes_jrst15 (c : Config) (m : EaField) :
    (decodeJrst c 0o15 m).wf c = true ∧ encode (decodeJrst c 0o15 m) = [pack 0o254 0o15 m] := by
  have h : decodeJrst c 0o15 m = if c.hasXjrst then .xjrst m else .muuo 0o254 0o15 m := rfl
  rw [h]
  split
  case isTrue hx => exact ⟨hx, rfl⟩
  case isFalse hx =>
    have hmuuo : isMuuo c 0o254 0o15 = true := by simp [isMuuo, hx]
    exact ⟨hmuuo, rfl⟩

theorem rowEncodes_jrst (c : Config) : RowEncodes c 0o254 (decodeJrst c) := by
  rintro ⟨⟨n, hn⟩⟩ m
  interval_cases n
  pick_goal 0o16 -- JRST 15, the row that goes by the configuration
  · exact rowEncodes_jrst15 c m
  all_goals exact ⟨rfl, rfl⟩

theorem rowEncodes_700 (c : Config) : RowEncodes c 0o700 decode700 := by
  rintro ⟨⟨n, hn⟩⟩ m
  interval_cases n <;> exact ⟨rfl, rfl⟩

theorem rowEncodes_701 (c : Config) : RowEncodes c 0o701 (decode701 c) := by
  revert c
  refine forall_config_of_its (fun c => ?_) (fun c => ?_)
  all_goals
    rintro ⟨⟨n, hn⟩⟩ m
    interval_cases n <;> exact ⟨rfl, rfl⟩

theorem rowEncodes_702 (c : Config) : RowEncodes c 0o702 (decode702 c) := by
  revert c
  refine forall_config_of_its (fun c => ?_) (fun c => ?_)
  all_goals
    rintro ⟨⟨n, hn⟩⟩ m
    interval_cases n <;> exact ⟨rfl, rfl⟩

/-! ### The eight pieces of the table -/

theorem rowsEncode_opcodes0 (c : Config) : RowsEncode c 0 opcodes0 :=
  rowsEncode_of_evaluated (fun _ _ => rfl) fun _ _ => rfl

theorem rowsEncode_opcodes1 (c : Config) : RowsEncode c 0o100 (opcodes1 c) := by
  revert c
  refine forall_config_of_its (fun c => ?_) (fun c => ?_)
  all_goals
    exact rowsEncode_take_drop 0o33 rfl (fun _ _ => rfl) (fun _ _ => rfl)
      ⟨rowEncodes_ibp _, rowsEncode_of_evaluated (fun _ _ => rfl) fun _ _ => rfl⟩

theorem rowsEncode_opcodes2 (c : Config) : RowsEncode c 0o200 (opcodes2 c) := by
  revert c
  refine forall_config_of_its (fun c => ?_) (fun c => ?_)
  all_goals
    exact rowsEncode_take_drop 0o54 rfl (fun _ _ => rfl) (fun _ _ => rfl)
      ⟨rowEncodes_jrst _, fun _ _ => ⟨rfl, rfl⟩, rowEncodes_xct _,
        rowsEncode_of_evaluated (fun _ _ => rfl) fun _ _ => rfl⟩

theorem rowsEncode_opcodes3 (c : Config) : RowsEncode c 0o300 opcodes3 :=
  rowsEncode_of_evaluated (fun _ _ => rfl) fun _ _ => rfl

theorem rowsEncode_opcodes4 (c : Config) : RowsEncode c 0o400 opcodes4 :=
  rowsEncode_of_evaluated (fun _ _ => rfl) fun _ _ => rfl

theorem rowsEncode_opcodes5 (c : Config) : RowsEncode c 0o500 opcodes5 :=
  rowsEncode_of_evaluated (fun _ _ => rfl) fun _ _ => rfl

theorem rowsEncode_opcodes6 (c : Config) : RowsEncode c 0o600 opcodes6 :=
  rowsEncode_of_evaluated (fun _ _ => rfl) fun _ _ => rfl

theorem rowsEncode_opcodes7 (c : Config) : RowsEncode c 0o700 (opcodes7 c) := by
  revert c
  refine forall_config_of_its (fun c => ?_) (fun c => ?_)
  all_goals
    exact ⟨rowEncodes_700 _, rowEncodes_701 _, rowEncodes_702 _,
      rowsEncode_of_evaluated (fun _ _ => rfl) fun _ _ => rfl⟩

/-! ### The whole table -/

theorem rowsEncode_opcodeTable (c : Config) : RowsEncode c 0 (opcodeTable c) := by
  simp only [opcodeTable, List.append_assoc]
  exact (rowsEncode_opcodes0 c).append rfl <| (rowsEncode_opcodes1 c).append rfl <|
    (rowsEncode_opcodes2 c).append rfl <| (rowsEncode_opcodes3 c).append rfl <|
    (rowsEncode_opcodes4 c).append rfl <| (rowsEncode_opcodes5 c).append rfl <|
    (rowsEncode_opcodes6 c).append rfl <| rowsEncode_opcodes7 c

theorem length_opcodeTable (c : Config) : (opcodeTable c).length = 0o1000 := by
  simp only [opcodeTable, List.length_append]
  rfl

/-- The row of an opcode is right for it (R331, R340). -/
theorem rowEncodes_getD (c : Config) (op : BitVec 9) (d : AcNum → EaField → Instr) :
    RowEncodes c op ((opcodeTable c).getD op.toNat d) := by
  have hop : op.toNat < (opcodeTable c).length := by
    rw [length_opcodeTable]
    exact op.isLt
  have hrow := (rowsEncode_opcodeTable c).getD d hop
  rwa [Nat.zero_add, BitVec.ofNat_toNat, BitVec.setWidth_eq] at hrow

/-- Settles O7: the row of the word's opcode is right, and a word is its fields. -/
theorem encodeDecode : Obligations.EncodeDecode := by
  intro cfg w
  obtain ⟨hwf, henc⟩ := rowEncodes_getD cfg (opField w) (.muuo (opField w)) (acField w) (eaField w)
  exact ⟨hwf, henc.trans (by rw [pack_fields])⟩

end Sys2Proof
end

section
/-! SUPPORT. The effective-address calculation: one equation per way a step of its loop goes (R310, R312). -/

namespace Sys2Proof.Machine

open Sys2Proof

section
variable {c : Ctx} {k n : Nat} {last : Option Word} {m : EaField} {s : State}

theorem eaLoop_direct (h : m.ind = false) : eaLoop c (k + 1) n last m s = .ok ⟨s.indexed c m, last, m.idx⟩ s := by
  simp only [eaLoop, run_bind, run_getS, h, Bool.false_eq_true, if_false, run_pure]

/-- An indirect step is its checks, the reference to the word named, and the rest of the loop from that word. -/
theorem eaLoop_indirect (h : m.ind = true) :
    eaLoop c (k + 1) n last m s = (do
      indirectChecks (n + 1)
      let w ← vread c (s.indexed c m)
      eaLoop c k (n + 1) (some w) (eaField w) : M EaResult) s := by
  simp only [eaLoop, run_bind, run_getS, h, if_true]

theorem eaLoop_aborts {a : Abort} {t : State} (h : m.ind = true) (hc : indirectChecks (n + 1) s = .error a t) :
    eaLoop c (k + 1) n last m s = .error a t := by
  rw [eaLoop_indirect h, run_bind, hc]

theorem eaLoop_continues {w : Word} {t u : State} (h : m.ind = true) (hc : indirectChecks (n + 1) s = .ok () t)
    (hr : vread c (s.indexed c m) t = .ok w u) :
    eaLoop c (k + 1) n last m s = eaLoop c k (n + 1) (some w) (eaField w) u := by
  simp only [eaLoop_indirect h, run_bind, hc, hr]

end

section
variable {n : Nat} {s t : State}

/-- Within the limit, the first step of a calculation, or one with no interrupt pending or to come, goes on. -/
theorem indirectChecks_quiet (hl : s.cfg.indMax = 0 ∨ n + 1 ≤ s.cfg.indMax)
    (hq : n = 0 ∨ s.piPending = 0 ∧ s.env.arrivals = []) :
    indirectChecks (n + 1) s = .ok () { s with indCount := s.indCount + 1 } := by
  rw [indirectChecks_within hl]
  split
  case isTrue hn =>
    obtain ⟨hp, ha⟩ := hq.resolve_left (by omega)
    exact reenterIfPending_quiet hp ha
  case isFalse => rfl

/-- From the second step on an interrupt pending is a re-entry, outside the interrupt sequence. -/
theorem indirectChecks_due (hl : s.cfg.indMax = 0 ∨ n + 1 ≤ s.cfg.indMax) (hn : n ≠ 0)
    (ht : t = { s with indCount := s.indCount + 1 }) (hc : s.piCycle = false)
    (hp : t.piPending ≠ 0 ∨ t.arrival = true) :
    indirectChecks (n + 1) s = .error .reenter t.passCheckpoint := by
  subst ht
  rw [indirectChecks_within hl, if_pos (by omega)]
  exact reenterIfPending_due hc hp

end

theorem eaFuel_pos (s : State) : 0 < s.eaFuel := Nat.add_pos_left (Nat.two_pow_pos 36) _

theorem eaIn_eq (c : Ctx) (m : EaField) (s : State) : eaIn c m s = eaLoop c s.eaFuel 0 none m s := rfl

theorem ea_direct {m : EaField} (h : m.ind = false) (s : State) : ea m s = .ok (s.indexed s.ctxEa m) s := by
  have hloop : eaFull m s = .ok ⟨s.indexed s.ctxEa m, none, m.idx⟩ s := by
    obtain ⟨k, hk⟩ := Nat.exists_eq_add_one.mpr (eaFuel_pos s)
    rw [eaFull, eaIn_eq, hk, eaLoop_direct h]
  rw [ea, run_bind, hloop]
  rfl

/-- Settles O12: `ea_direct` and `eaIn_eq`, then `eaLoop_continues` and `eaLoop_aborts` by what the checks of the step
answer. -/
theorem effectiveAddress : Obligations.EffectiveAddress := by
  refine ⟨fun m s hd => ea_direct hd s, eaIn_eq, ?continues, ?beyond, ?due⟩
  case continues =>
    intro c k n last m w s t hi hl hq hr
    exact eaLoop_continues hi (indirectChecks_quiet hl hq) hr
  case beyond =>
    intro c k n last m s hi h0 hl
    exact eaLoop_aborts hi (indirectChecks_beyond h0 hl)
  case due =>
    intro c k n last m s t hi hl hn ht hc hp
    exact eaLoop_aborts hi (indirectChecks_due hl hn ht hc hp)

end Sys2Proof.Machine
end

section
/-! SUPPORT. The double-word integer instructions: the whole next state (41_byte_double.md sections 4 and 6). -/

namespace Sys2Proof.Machine

open Sys2Proof

/-- What follows an operation that completes runs from its answer and its state. -/
theorem bind_of_ok {α β : Type} {x : M α} {f : α → M β} {s t : State} {a : α} (h : x s = .ok a t) :
    (x >>= f) s = f a t := by
  rw [run_bind, h]

section
variable {s s1 s2 t : State} {ac : AcNum} {m : EaField} {e : VAddr} {b : Word × Word}

/-- Reading the operand of a double-word instruction changes no register. -/
theorem sameRegisters_rdE2 (h1 : ea m s = .ok e s1) (h2 : rdE2 e s1 = .ok b s2) : SameRegisters s s2 :=
  ((Frames.ea m).ok h1).trans ((Frames.rdE2 e).ok h2)

theorem doubleOp_run {f : Config → Word → Word → Word → Word → PairFlags} {r : PairFlags} (h1 : ea m s = .ok e s1)
    (h2 : rdE2 e s1 = .ok b s2) (hr : r = f s.cfg (s.ac ac) (s.ac (ac + 1)) b.1 b.2) :
    doubleOp f ac m s = .ok () (((s2.setAc ac r.hi).setAc (ac + 1) r.lo).orFlags r.flags) := by
  have hs := sameRegisters_rdE2 h1 h2
  simp only [doubleOp, run_bind, h1, h2, run_getAc, run_getS, run_putAc2, run_setFlags, hs.ac, hs.cfg, ← hr]

theorem dmulOp_run {r : QuadFlags} (h1 : ea m s = .ok e s1) (h2 : rdE2 e s1 = .ok b s2)
    (hr : r = dmul s.cfg (s.ac ac) (s.ac (ac + 1)) b.1 b.2) :
    dmulOp ac m s = .ok () (((((s2.setAc ac r.w0).setAc (ac + 1) r.w1).setAc (ac + 2) r.w2).setAc (ac + 2 + 1)
      r.w3).orFlags r.flags) := by
  have hs := sameRegisters_rdE2 h1 h2
  simp only [dmulOp, run_bind, h1, h2, run_getAc, run_getS, run_putAc2, run_setFlags, hs.ac, hs.cfg, ← hr]

/-- DDIV stores the quotient and the remainder, or, not performed, sets its flags only (R459, R601). The rewriting is
step by step because the kernel must not evaluate `ddiv`, whose test is on literals above 2^70. -/
theorem ddivOp_run {d : Option (Word × Word × Word × Word)} (h1 : ea m s = .ok e s1) (h2 : rdE2 e s1 = .ok b s2)
    (hd : ddiv s.cfg (s.ac ac) (s.ac (ac + 1)) (s.ac (ac + 2)) (s.ac (ac + 3)) b.1 b.2 = d) :
    ddivOp ac m s = .ok () (match d with
      | none => s2.orFlags noDivideFlags
      | some (qh, ql, rh, rl) => (((s2.setAc ac qh).setAc (ac + 1) ql).setAc (ac + 2) rh).setAc (ac + 2 + 1) rl) := by
  have hs := sameRegisters_rdE2 h1 h2
  rw [← hs.cfg, ← hs.ac, ← hs.ac, ← hs.ac, ← hs.ac] at hd
  rw [ddivOp, bind_of_ok h1, bind_of_ok h2, bind_of_ok (run_getAc _ _), bind_of_ok (run_getAc _ _),
    bind_of_ok (run_getAc _ _), bind_of_ok (run_getAc _ _), bind_of_ok (run_getS _), hd]
  cases d with
  | none => rfl
  | some r => rfl

theorem dmoveOp_run (h1 : ea m s = .ok e s1) (h2 : rdE2 e s1 = .ok b s2) :
    dmoveOp ac m s = .ok () ((s2.setAc ac b.1).setAc (ac + 1) b.2) := by
  simp only [dmoveOp, run_bind, h1, h2, run_putAc2]

theorem dmovnOp_run {r : PairFlags} (h1 : ea m s = .ok e s1) (h2 : rdE2 e s1 = .ok b s2)
    (hr : r = dneg s.cfg b.1 b.2) :
    dmovnOp ac m s = .ok () (((s2.setAc ac r.hi).setAc (ac + 1) r.lo).orFlags r.flags) := by
  have hs := sameRegisters_rdE2 h1 h2
  simp only [dmovnOp, run_bind, h1, h2, run_getS, run_putAc2, run_setFlags, hs.cfg, ← hr]

theorem dmovemOp_run (h1 : ea m s = .ok e s1) (h2 : wrE2 e (s.ac ac) (s.ac (ac + 1)) s1 = .ok () t) :
    dmovemOp ac m s = .ok () t := by
  simp only [dmovemOp, run_bind, h1, run_getAc, ac_after_ea h1, h2]

theorem dmovnmOp_run {r : PairFlags} (h1 : ea m s = .ok e s1) (hr : r = dneg s.cfg (s.ac ac) (s.ac (ac + 1)))
    (h2 : wrE2 e r.hi r.lo s1 = .ok () t) : dmovnmOp ac m s = .ok () (t.orFlags r.flags) := by
  have hs := (Frames.ea m).ok h1
  simp only [dmovnmOp, run_bind, h1, run_getAc, run_getS, hs.ac, hs.cfg, ← hr, h2, run_setFlags]

end

/-- Settles O49: each instruction is `finish` of its operation, whose run the lemmas above give. -/
theorem doubleForms : Obligations.DoubleForms := by
  refine ⟨?addSub, ?mul, ?div, ?moves, ?movem, ?movnm⟩
  case addSub =>
    intro p hp ac m s s1 s2 e b r h1 h2 hr
    simp only [List.mem_cons, List.not_mem_nil, or_false] at hp
    obtain rfl | rfl := hp
    · exact finish_of_ok (doubleOp_run h1 h2 hr)
    · exact finish_of_ok (doubleOp_run h1 h2 hr)
  case mul =>
    intro ac m s s1 s2 e b r h1 h2 hr
    exact finish_of_ok (dmulOp_run h1 h2 hr)
  case div =>
    intro ac m s s1 s2 e b h1 h2
    exact ⟨fun qh ql rh rl hd => finish_of_ok (ddivOp_run h1 h2 hd), fun hd => finish_of_ok (ddivOp_run h1 h2 hd)⟩
  case moves =>
    intro ac m s s1 s2 e b h1 h2
    exact ⟨finish_of_ok (dmoveOp_run h1 h2), finish_of_ok (dmovnOp_run h1 h2 rfl)⟩
  case movem =>
    intro ac m s s1 t e h1 h2
    exact finish_of_ok (dmovemOp_run h1 h2)
  case movnm =>
    intro ac m s s1 t e r h1 hr h2
    exact finish_of_ok (dmovnmOp_run h1 hr h2)

end Sys2Proof.Machine
end

section
/-! SUPPORT. The byte-pointer, stack-pointer and byte instructions: the whole next state (41_byte_double.md sections 3,
5 and 7). -/

namespace Sys2Proof.Machine

open Sys2Proof

section
variable {s s1 s2 s3 s4 t : State} {ac : AcNum} {m : EaField} {e a : VAddr} {bp old v w : Word}

/-! ### Bytes in memory (R469, R471) and the increment part (R468) -/

theorem loadByte_run (ha : bpAddr bp s = .ok a s1) (hr : rdStk a s1 = .ok w s2) :
    loadByte bp s = .ok (bpByte (bpP bp) (bpS bp) w) s2 := by
  simp only [loadByte, run_bind, ha, hr, run_pure]

theorem depositByte_run (ha : bpAddr bp s = .ok a s1) (hr : rdmStk a s1 = .ok w s2)
    (hw : wrStk a (bpDeposit (bpP bp) (bpS bp) w v) s2 = .ok () t) : depositByte bp v s = .ok () t := by
  simp only [depositByte, run_bind, ha, hr, hw]

@[simp] theorem run_putFpd (v : Bool) (s : State) :
    putFpd v s = .ok () { s with flags := { s.flags with fpd := v } } := rfl

theorem setFpd_self (h : s.flags.fpd = true) : { s with flags := { s.flags with fpd := true } } = s := by
  rw [← h]

/-- The increment part steps the pointer where FPD is clear, and leaves FPD set (R64, R468). -/
theorem incrPart_run
    (h : if s.flags.fpd then s = s2 else rdmE e s = .ok old s1 ∧ wrE e (bpIncr old) s1 = .ok () s2) :
    incrPart e s = .ok () { s2 with flags := { s2.flags with fpd := true } } := by
  cases hf : s.flags.fpd with
  | true =>
    rw [if_pos hf] at h
    subst h
    simp only [incrPart, run_bind, run_getS, run_ite, hf, if_true, run_pure, setFpd_self hf]
  | false =>
    rw [if_neg (by rw [hf]; decide)] at h
    obtain ⟨hr, hw⟩ := h
    simp only [incrPart, run_bind, run_getS, run_ite, hf, Bool.false_eq_true, if_false, hr, hw, run_putFpd]

/-! ### The instructions -/

theorem ibpOp_run (h1 : ea m s = .ok e s1) (h2 : rdmE e s1 = .ok bp s2) (h3 : wrE e (bpIncr bp) s2 = .ok () t) :
    ibpOp m s = .ok () t := by
  simp only [ibpOp, run_bind, h1, h2, h3]

/-- ADJBP loads the adjusted pointer (R467). -/
theorem adjbpOp_performed {r : Word} (h1 : ea m s = .ok e s1) (h2 : rdE e s1 = .ok bp s2)
    (hr : adjbp bp (signed (s.ac ac)) = some r) : adjbpOp ac m s = .ok () (s2.setAc ac r) := by
  simp only [adjbpOp, run_bind, h1, h2, run_getAc, ac_after_rdE h1 h2, hr, run_putAc]

/-- ADJBP of a pointer whose word holds no byte sets its flags only (R467, R601). -/
theorem adjbpOp_noDivide (h1 : ea m s = .ok e s1) (h2 : rdE e s1 = .ok bp s2)
    (hr : adjbp bp (signed (s.ac ac)) = none) : adjbpOp ac m s = .ok () (s2.orFlags noDivideFlags) := by
  simp only [adjbpOp, run_bind, h1, h2, run_getAc, ac_after_rdE h1 h2, hr, run_setFlags]

theorem adjspOp_run (h1 : ea m s = .ok e s1) :
    adjspOp ac m s = .ok () ((s1.setAc ac (adjsp (s.ac ac) e).word).orFlags (adjsp (s.ac ac) e).flags) := by
  simp only [adjspOp, run_bind, h1, run_getAc, ac_after_ea h1, run_putAc, run_setFlags]

theorem ldbOp_run (h1 : ea m s = .ok e s1) (h2 : rdE e s1 = .ok bp s2) (ha : bpAddr bp s2 = .ok a s3)
    (hr : rdStk a s3 = .ok w s4) : ldbOp ac m s = .ok () (s4.setAc ac (bpByte (bpP bp) (bpS bp) w)) := by
  simp only [ldbOp, run_bind, h1, h2, loadByte_run ha hr, run_putAc]

theorem dpbOp_run (h1 : ea m s = .ok e s1) (h2 : rdE e s1 = .ok bp s2) (ha : bpAddr bp s2 = .ok a s3)
    (hr : rdmStk a s3 = .ok w s4) (hw : wrStk a (bpDeposit (bpP bp) (bpS bp) w (s.ac ac)) s4 = .ok () t) :
    dpbOp ac m s = .ok () t := by
  simp only [dpbOp, run_bind, h1, h2, run_getAc, ac_after_rdE h1 h2, depositByte_run ha hr hw]

end

section
variable {s s1 s2 s3 s4 s5 s6 t : State} {ac : AcNum} {m : EaField} {e a : VAddr} {bp old w : Word}

theorem ildbOp_run (h1 : ea m s = .ok e s1)
    (hi : if s1.flags.fpd then s1 = s3 else rdmE e s1 = .ok old s2 ∧ wrE e (bpIncr old) s2 = .ok () s3)
    (h2 : rdE e { s3 with flags := { s3.flags with fpd := true } } = .ok bp s4) (ha : bpAddr bp s4 = .ok a s5)
    (hr : rdStk a s5 = .ok w s6) :
    ildbOp ac m s = .ok () { s6.setAc ac (bpByte (bpP bp) (bpS bp) w) with
      flags := { s6.flags with fpd := false } } := by
  simp only [ildbOp, run_bind, h1, incrPart_run hi, h2, loadByte_run ha hr, run_putAc, run_putFpd, setAc_flags]

theorem idpbOp_run (h1 : ea m s = .ok e s1)
    (hi : if s1.flags.fpd then s1 = s3 else rdmE e s1 = .ok old s2 ∧ wrE e (bpIncr old) s2 = .ok () s3)
    (h2 : rdE e { s3 with flags := { s3.flags with fpd := true } } = .ok bp s4) (ha : bpAddr bp s4 = .ok a s5)
    (hr : rdmStk a s5 = .ok w s6) (hw : wrStk a (bpDeposit (bpP bp) (bpS bp) w (s4.ac ac)) s6 = .ok () t) :
    idpbOp ac m s = .ok () { t with flags := { t.flags with fpd := false } } := by
  simp only [idpbOp, run_bind, h1, incrPart_run hi, h2, run_getAc, depositByte_run ha hr hw, run_putFpd]

end

/-- Settles O51: each instruction is `finish` of its operation; ILDB and IDPB go by `incrPart_run`, FPD being as it was
before the effective address. -/
theorem byteForms : Obligations.ByteForms := by
  refine ⟨?ibp, ?adjbp, ?adjsp, ?ldb, ?dpb, ?ildb, ?idpb⟩
  case ibp =>
    intro m s s1 s2 t e bp h1 h2 h3
    exact finish_of_ok (ibpOp_run h1 h2 h3)
  case adjbp =>
    intro ac m s s1 s2 e bp h1 h2
    exact ⟨fun r hr => finish_of_ok (adjbpOp_performed h1 h2 hr), fun hr => finish_of_ok (adjbpOp_noDivide h1 h2 hr)⟩
  case adjsp =>
    intro ac m s s1 e h1
    exact finish_of_ok (adjspOp_run h1)
  case ldb =>
    intro ac m s s1 s2 s3 s4 e a bp w h1 h2 ha hr
    exact finish_of_ok (ldbOp_run h1 h2 ha hr)
  case dpb =>
    intro ac m s s1 s2 s3 s4 t e a bp w h1 h2 ha hr hw
    exact finish_of_ok (dpbOp_run h1 h2 ha hr hw)
  case ildb =>
    intro ac m s s1 s2 s3 s4 s5 s6 e a old bp w h1 hi h2 ha hr
    rw [← ((Frames.ea m).ok h1).flags] at hi
    exact finish_of_ok (ildbOp_run h1 hi h2 ha hr)
  case idpb =>
    intro ac m s s1 s2 s3 s4 s5 s6 t e a old bp w h1 hi h2 ha hr hw
    rw [← ((Frames.ea m).ok h1).flags] at hi
    exact finish_of_ok (idpbOp_run h1 hi h2 ha hr hw)

end Sys2Proof.Machine
end

section
/-! SUPPORT. Byte pointers bit by bit and in integers, and the trap of ADJSP (41_byte_double.md sections 3, 5 and 7). -/

namespace Sys2Proof.Machine

open Sys2Proof

/-! ### Bytes (R460, R470) -/

theorem getLsbD_sizeMask {i : Nat} (n : Nat) (hi : i < 36) : (sizeMask n).getLsbD i = decide (i < n) := by
  rw [sizeMask, BitVec.getLsbD_ofNat, Nat.testBit_two_pow_sub_one, decide_eq_true hi, Bool.true_and]

theorem getLsbD_bpMask {i : Nat} (p n : Nat) (hi : i < 36) :
    (bpMask p n).getLsbD i = decide (p ≤ i ∧ i < p + n) := by
  rw [bpMask, BitVec.getLsbD_ofNat, Nat.testBit_mul_two_pow, Nat.testBit_two_pow_sub_one, decide_eq_true hi,
    Bool.true_and, ← Bool.decide_and, decide_eq_decide]
  omega

theorem getLsbD_bpByte {i : Nat} (p n : Nat) (w : Word) (hi : i < 36) :
    (bpByte p n w).getLsbD i = (decide (p < 36) && decide (i < n) && w.getLsbD (p + i)) := by
  rw [bpByte]
  split
  case isTrue hp =>
    rw [BitVec.getLsbD_and, BitVec.getLsbD_ushiftRight, getLsbD_sizeMask n hi, decide_eq_true hp, Bool.true_and,
      Bool.and_comm]
  case isFalse hp =>
    rw [decide_eq_false hp, Bool.false_and, Bool.false_and]
    exact BitVec.getLsbD_zero

theorem getLsbD_bpDeposit {i : Nat} (p n : Nat) (w v : Word) (hi : i < 36) :
    (bpDeposit p n w v).getLsbD i = if p ≤ i ∧ i < p + n then v.getLsbD (i - p) else w.getLsbD i := by
  simp only [bpDeposit, BitVec.getLsbD_or, BitVec.getLsbD_and, BitVec.getLsbD_not, BitVec.getLsbD_shiftLeft, hi,
    getLsbD_bpMask p n hi]
  split
  case isTrue h => simp [h]
  case isFalse h => simp [h]

/-! ### The fields of a pointer and its increment (R304, R461) -/

@[simp] theorem bpP_bpWith (bp : Word) (p : BitVec 6) (y : BitVec 18) : bpP (bpWith bp p y) = p.toNat := by
  rw [bpP, bpWith, BitVec.extractLsb'_append_eq_of_le (by decide), BitVec.extractLsb'_append_eq_left]

@[simp] theorem rh_bpWith (bp : Word) (p : BitVec 6) (y : BitVec 18) : rh (bpWith bp p y) = y :=
  BitVec.extractLsb'_append_eq_right

/-- The size and the address fields I and X stay. -/
@[simp] theorem middle_bpWith (bp : Word) (p : BitVec 6) (y : BitVec 18) :
    (bpWith bp p y).extractLsb' 18 12 = bp.extractLsb' 18 12 := by
  rw [bpWith, BitVec.extractLsb'_append_eq_of_le (Nat.le_refl 18), BitVec.extractLsb'_append_eq_right]

theorem bpP_lt (bp : Word) : bpP bp < 64 := (bp.extractLsb' 30 6).isLt

/-- The next byte is in the same word, S bits to the right. -/
theorem bpIncr_same_word {bp : Word} (h : bpS bp ≤ bpP bp) :
    bpP (bpIncr bp) = bpP bp - bpS bp ∧ rh (bpIncr bp) = rh bp := by
  have hlt := bpP_lt bp
  rw [bpIncr, if_pos h, bpP_bpWith, rh_bpWith, BitVec.toNat_ofNat, Nat.mod_eq_of_lt (by omega)]
  exact ⟨rfl, rfl⟩

/-- The next byte is the first of the next word. -/
theorem bpIncr_next_word {bp : Word} (h : bpP bp < bpS bp) (hs : bpS bp ≤ 36) :
    bpP (bpIncr bp) = 36 - bpS bp ∧ rh (bpIncr bp) = rh bp + 1 := by
  rw [bpIncr, if_neg (by omega), bpP_bpWith, rh_bpWith, BitVec.toNat_ofInt]
  exact ⟨by omega, rfl⟩

theorem middle_bpIncr (bp : Word) : (bpIncr bp).extractLsb' 18 12 = bp.extractLsb' 18 12 := by
  rw [bpIncr]
  split <;> exact middle_bpWith bp _ _

/-! ### ADJBP (R467) -/

/-- The bytes to the left of the byte and those from it on make no negative number, whatever P is. -/
theorem bytesPerWord_nonneg (p : Nat) {n : Nat} (hn : n ≠ 0) : 0 ≤ (36 - (p : Int)).tdiv n + (p : Int).tdiv n := by
  have hp : 0 ≤ (p : Int).tdiv n := Int.tdiv_nonneg p.cast_nonneg n.cast_nonneg
  by_cases h : (p : Int) ≤ 36
  · exact Int.add_nonneg (Int.tdiv_nonneg (by omega) n.cast_nonneg) hp
  · have hneg : (36 - (p : Int)).tdiv n = -((p : Int) - 36).tdiv n := by rw [← Int.neg_tdiv, Int.neg_sub]
    have hle : ((p : Int) - 36).tdiv n ≤ (p : Int).tdiv n := by
      rw [Int.tdiv_eq_ediv_of_nonneg (by omega), Int.tdiv_eq_ediv_of_nonneg (by omega)]
      exact Int.ediv_le_ediv (Nat.cast_pos.mpr (Nat.pos_of_ne_zero hn)) (by omega)
    omega

/-- Truncating division with the remainder moved to `1 .. b`, as ADJBP counts the bytes of a word. -/
theorem tdiv_tmod_from_one {x b : Int} (hb : 0 < b) :
    x = (if x.tmod b ≤ 0 then x.tdiv b - 1 else x.tdiv b) * b +
        (if x.tmod b ≤ 0 then x.tmod b + b else x.tmod b) ∧
      1 ≤ (if x.tmod b ≤ 0 then x.tmod b + b else x.tmod b) ∧
      (if x.tmod b ≤ 0 then x.tmod b + b else x.tmod b) ≤ b := by
  have hdiv := Int.tdiv_mul_add_tmod x b
  have hlt := Int.tmod_lt_of_pos x hb
  have hgt := Int.lt_tmod_of_pos x hb
  split
  · exact ⟨by linarith, by omega, by omega⟩
  · exact ⟨by linarith, by omega, by omega⟩

section
variable {bp : Word} {count perWord : Int}

theorem adjbp_size_zero (h : bpS bp = 0) : adjbp bp count = some bp := by
  simp only [adjbp, h, Nat.cast_zero, if_true]

theorem adjbp_no_byte (h : bpS bp ≠ 0) (hw : (36 - (bpP bp : Int)).tdiv (bpS bp) + (bpP bp : Int).tdiv (bpS bp) = 0) :
    adjbp bp count = none := by
  simp only [adjbp, Nat.cast_eq_zero, h, hw, if_true, if_false]

/-- The pointer goes to byte `j` of `1 .. perWord`, `k` words on, and keeps its alignment in the word. -/
theorem adjbp_moves (h : bpS bp ≠ 0)
    (hp : perWord = (36 - (bpP bp : Int)).tdiv (bpS bp) + (bpP bp : Int).tdiv (bpS bp)) (hw : perWord ≠ 0) :
    ∃ j k : Int, (36 - (bpP bp : Int)).tdiv (bpS bp) + count = k * perWord + j ∧ 1 ≤ j ∧ j ≤ perWord ∧
      adjbp bp count = some (bpWith bp (BitVec.ofInt 6 (36 - j * bpS bp - (36 - (bpP bp : Int)).tmod (bpS bp)))
        (rh bp + BitVec.ofInt 18 k)) := by
  have hpos : 0 < perWord := lt_of_le_of_ne (hp ▸ bytesPerWord_nonneg _ h) hw.symm
  obtain ⟨hsum, hone, hle⟩ := tdiv_tmod_from_one (x := (36 - (bpP bp : Int)).tdiv (bpS bp) + count) hpos
  refine ⟨_, _, hsum, hone, hle, ?_⟩
  simp only [adjbp, Nat.cast_eq_zero, h, ← hp, hw, if_false]

end

/-! ### ADJSP (R455) -/

theorem getLsbD_sign (h : Half) : h.getLsbD 17 = decide (h.toInt < 0) := by
  rw [← BitVec.msb_eq_toInt, BitVec.msb_eq_getLsbD_last]

theorem adjsp_flags (old : Word) (e : VAddr) :
    (adjsp old e).flags = if (0 ≤ e.toInt ∧ (lh old).toInt < 0 ∧ 0 ≤ (lh old + e).toInt) ∨
        (e.toInt < 0 ∧ 0 ≤ (lh old).toInt ∧ (lh old + e).toInt < 0)
      then { Flags.zero with trap2 := true } else Flags.zero := by
  simp only [adjsp, pushdownFlags, getLsbD_sign]
  congr 1
  simp only [Bool.or_eq_true, Bool.and_eq_true, Bool.not_eq_true', decide_eq_true_eq, decide_eq_false_iff_not, not_lt,
    and_assoc]

/-- Settles O52: the bits by `getLsbD_bpByte` and `getLsbD_bpDeposit`, the increment by its two cases, ADJBP by
`adjbp_moves`, ADJSP by `adjsp_flags`. -/
theorem byteValues : Obligations.ByteValues := by
  refine ⟨fun p n i w => getLsbD_bpByte p n w, fun p n i w v => getLsbD_bpDeposit p n w v, fun bp => bpIncr_same_word,
    fun bp => bpIncr_next_word, middle_bpIncr, ?adjbp, fun old e => ⟨rfl, adjsp_flags old e⟩⟩
  case adjbp =>
    intro bp count left perWord hl hp
    subst hl
    exact ⟨adjbp_size_zero, fun h hw => adjbp_no_byte h (hp ▸ hw), fun h hw => adjbp_moves h hp hw⟩

end Sys2Proof.Machine
end

section
/-! SUPPORT. Double words as exact integers (41_byte_double.md sections 1, 4 and 6, R451, R456 to R459, R463). -/

namespace Sys2Proof.Machine

open Sys2Proof

/-! ### Words as integers (R13) -/

theorem signed_ge (w : Word) : -2 ^ 35 ≤ signed w := w.le_toInt

theorem signed_lt (w : Word) : signed w < 2 ^ 35 := w.toInt_lt

theorem signed_wordOfInt {v : Int} (h : -2 ^ 35 ≤ v) (h2 : v < 2 ^ 35) : signed (wordOfInt v) = v :=
  BitVec.toInt_ofInt_eq_self (by decide) h h2

theorem signed_not (w : Word) : signed (~~~w) = -signed w - 1 := by
  have := w.isLt
  simp only [signed, BitVec.toInt_eq_toNat_cond, BitVec.toNat_not]
  omega

/-- The 35 low bits of an integer, as the low word of a pair holds them. -/
theorem low_wordOfInt (v : Int) : (((wordOfInt v).toNat % 2 ^ 35 : Nat) : Int) = v % 2 ^ 35 := by
  rw [wordOfInt, BitVec.toNat_ofInt]
  omega

theorem low_not (w : Word) : (~~~w).toNat % 2 ^ 35 = 2 ^ 35 - 1 - w.toNat % 2 ^ 35 := by
  have := w.isLt
  rw [BitVec.toNat_not]
  omega

/-! ### The sign of a low word (R451) -/

@[simp] theorem negative_withSign (b : Bool) (w : Word) : negative (withSign b w) = b := by
  cases b with
  | true =>
    rw [withSign, if_pos rfl, negative, BitVec.getLsbD_or]
    exact Bool.or_true _
  | false =>
    rw [withSign, if_neg Bool.false_ne_true, negative, BitVec.getLsbD_and]
    exact Bool.and_false _

/-- The sign given to a low word leaves its 35 low bits. -/
@[simp] theorem low_withSign (b : Bool) (w : Word) : (withSign b w).toNat % 2 ^ 35 = w.toNat % 2 ^ 35 := by
  simp only [← BitVec.toNat_setWidth]
  cases b with
  | true =>
    have hs : signWord.setWidth 35 = 0#35 := by decide
    rw [withSign, if_pos rfl, BitVec.setWidth_or, hs, BitVec.or_zero]
  | false =>
    have hs : maxPos.setWidth 35 = BitVec.allOnes 35 := by decide
    rw [withSign, if_neg Bool.false_ne_true, BitVec.setWidth_and, hs, BitVec.and_allOnes]

@[simp] theorem dval_withSign (hi : Word) (b : Bool) (lo : Word) : dval hi (withSign b lo) = dval hi lo := by
  rw [dval, low_withSign, ← dval]

/-! ### Double words (R451) -/

theorem dval_ge (hi lo : Word) : -2 ^ 70 ≤ dval hi lo := by
  have := signed_ge hi
  rw [dval]
  omega

theorem dval_lt (hi lo : Word) : dval hi lo < 2 ^ 70 := by
  have := signed_lt hi
  rw [dval]
  omega

theorem abs_dval_le (hi lo : Word) : |dval hi lo| ≤ 2 ^ 70 :=
  abs_le.mpr ⟨dval_ge hi lo, (dval_lt hi lo).le⟩

/-- A value in range is that of its words. -/
theorem dval_dhi_dlo {v : Int} (h : -2 ^ 70 ≤ v) (h2 : v < 2 ^ 70) : dval (dhi v) (dlo v) = v := by
  rw [dval, dhi, dlo, signed_wordOfInt (by omega) (by omega), low_wordOfInt]
  omega

/-- The negative of the most negative value does not fit, and is that value again. -/
theorem dval_dhi_dlo_overflow : dval (dhi (2 ^ 70)) (dlo (2 ^ 70)) = -2 ^ 70 := by decide

/-- The complement of both words is one less than the negative. -/
theorem dval_not (hi lo : Word) : dval (~~~hi) (~~~lo) = -dval hi lo - 1 := by
  rw [dval, dval, signed_not, low_not]
  omega

/-! ### DADD and DSUB (R456, R457, R600) -/

/-- The sum is exact modulo 2^36. -/
theorem signed_add36 (a b : Word) (cin : Bool) :
    (signed (add36 a b cin).word - (signed a + signed b + cin.toNat)) % 2 ^ 36 = 0 := by
  have := a.isLt
  have := b.isLt
  simp only [add36, signed, BitVec.toInt_eq_toNat_cond, BitVec.toNat_ofNat]
  omega

theorem addDouble_value (c : Config) (ah al bh bl : Word) (cin : Bool) :
    (dval (addDouble c ah al bh bl cin).hi (addDouble c ah al bh bl cin).lo -
      (dval ah al + dval bh bl + cin.toNat)) % 2 ^ 71 = 0 := by
  have hcin := cin.toNat_le
  generalize hlow : al.toNat % 2 ^ 35 + bl.toNat % 2 ^ 35 + cin.toNat = low
  have hhigh := signed_add36 ah bh (2 ^ 35 ≤ low)
  simp only [addDouble, hlow, dval_withSign]
  simp only [dval, BitVec.toNat_ofNat]
  generalize signed (add36 ah bh _).word = high at hhigh ⊢
  by_cases hc : 2 ^ 35 ≤ low
  · simp only [hc, decide_true, Bool.toNat_true] at hhigh
    omega
  · simp only [hc, decide_false, Bool.toNat_false] at hhigh
    omega

theorem dadd_value (c : Config) (ah al bh bl : Word) :
    (dval (dadd c ah al bh bl).hi (dadd c ah al bh bl).lo - (dval ah al + dval bh bl)) % 2 ^ 71 = 0 := by
  have h := addDouble_value c ah al bh bl false
  rwa [Bool.toNat_false, Nat.cast_zero, add_zero] at h

theorem dadd_flags (c : Config) (ah al bh bl : Word) :
    (dadd c ah al bh bl).flags = (add36 ah bh (decide (2 ^ 35 ≤ al.toNat % 2 ^ 35 + bl.toNat % 2 ^ 35))).flags := rfl

theorem dsub_value (c : Config) (ah al bh bl : Word) :
    (dval (dsub c ah al bh bl).hi (dsub c ah al bh bl).lo - (dval ah al - dval bh bl)) % 2 ^ 71 = 0 := by
  have h := addDouble_value c ah al (~~~bh) (~~~bl) true
  rw [dval_not, Bool.toNat_true] at h
  rw [dsub, ← h]
  congr 1
  push_cast
  ring

theorem dsub_flags (c : Config) (ah al bh bl : Word) :
    (dsub c ah al bh bl).flags = (add36 ah (~~~bh) (decide (bl.toNat % 2 ^ 35 ≤ al.toNat % 2 ^ 35))).flags := by
  have hcarry : 2 ^ 35 ≤ al.toNat % 2 ^ 35 + (~~~bl).toNat % 2 ^ 35 + 1 ↔ bl.toNat % 2 ^ 35 ≤ al.toNat % 2 ^ 35 := by
    rw [low_not]
    omega
  rw [dsub, addDouble, Bool.toNat_true, decide_eq_decide.mpr hcarry]

/-! ### The negative (R463) -/

theorem dneg_value (c : Config) (hi lo : Word) :
    dval (dneg c hi lo).hi (dneg c hi lo).lo = if dval hi lo = -2 ^ 70 then -2 ^ 70 else -dval hi lo := by
  have hge := dval_ge hi lo
  have hlt := dval_lt hi lo
  have hwords : dval (dneg c hi lo).hi (dneg c hi lo).lo = dval (dhi (-dval hi lo)) (dlo (-dval hi lo)) :=
    dval_withSign _ _ _
  rw [hwords]
  split
  case isTrue h => rw [h, neg_neg, dval_dhi_dlo_overflow]
  case isFalse h => exact dval_dhi_dlo (by omega) (by omega)

/-! ### The product (R458) -/

/-- Only the square of the most negative value leaves the range of a quadruple word. -/
theorem product_lt {a b : Int} (ha : |a| ≤ 2 ^ 70) (hb : |b| ≤ 2 ^ 70) (h : |a| < 2 ^ 70 ∨ |b| < 2 ^ 70) :
    |a * b| < 2 ^ 140 := by
  rw [abs_mul]
  obtain h | h := h
  · calc |a| * |b| ≤ |a| * 2 ^ 70 := mul_le_mul_of_nonneg_left hb (abs_nonneg a)
      _ < 2 ^ 70 * 2 ^ 70 := mul_lt_mul_of_pos_right h (by norm_num)
      _ = 2 ^ 140 := by norm_num
  · calc |a| * |b| ≤ 2 ^ 70 * |b| := mul_le_mul_of_nonneg_right ha (abs_nonneg b)
      _ < 2 ^ 70 * 2 ^ 70 := mul_lt_mul_of_pos_left h (by norm_num)
      _ = 2 ^ 140 := by norm_num

theorem abs_dval_lt {hi lo : Word} (h : dval hi lo ≠ -2 ^ 70) : |dval hi lo| < 2 ^ 70 :=
  abs_lt.mpr ⟨lt_of_le_of_ne (dval_ge hi lo) h.symm, dval_lt hi lo⟩

/-- A value in range is that of its four words, whatever their low signs. -/
theorem qval_words {p : Int} (h : |p| < 2 ^ 140) (b1 b2 b3 : Bool) :
    qval (wordOfInt (p / 2 ^ 105)) (withSign b1 (wordOfInt (p / 2 ^ 70))) (withSign b2 (wordOfInt (p / 2 ^ 35)))
      (withSign b3 (wordOfInt p)) = p := by
  obtain ⟨hge, hlt⟩ := abs_lt.mp h
  simp only [qval, low_withSign, low_wordOfInt]
  rw [signed_wordOfInt (by omega) (by omega)]
  omega

theorem dmul_overflow {c : Config} {ah al bh bl : Word} (h : dval ah al = -2 ^ 70 ∧ dval bh bl = -2 ^ 70) :
    dmul c ah al bh bl =
      ⟨signWord, withSign c.dlowArith 0, withSign c.dlowArith 0, withSign c.dlowArith 0, overflowFlags⟩ := by
  rw [dmul, if_pos h]

theorem withSign_zero (b : Bool) : withSign b 0 = if b then 0o400000000000 else 0 := by
  cases b <;> decide

/-- The product is exact but for the square of the most negative value. -/
theorem dmul_exact {c : Config} {ah al bh bl : Word} {p : Int} {r : QuadFlags}
    (h : ¬(dval ah al = -2 ^ 70 ∧ dval bh bl = -2 ^ 70)) (hp : p = dval ah al * dval bh bl)
    (hr : r = dmul c ah al bh bl) :
    r.flags = Flags.zero ∧ qval r.w0 r.w1 r.w2 r.w3 = p ∧
      ∀ w ∈ [r.w1, r.w2, r.w3], negative w = (c.dlowArith && decide (p < 0)) := by
  have hfits : |p| < 2 ^ 140 :=
    hp ▸ product_lt (abs_dval_le ah al) (abs_dval_le bh bl) ((not_and_or.mp h).imp abs_dval_lt abs_dval_lt)
  rw [dmul, if_neg h, ← hp] at hr
  subst hr
  refine ⟨rfl, qval_words hfits _ _ _, ?_⟩
  simp only [List.forall_mem_cons, negative_withSign, List.not_mem_nil, false_imp_iff, implies_true, and_self]

/-! ### The quotient and the remainder (R459) -/

/-- DDIV in terms of the two integers: not performed, or the words of the truncated quotient and of its remainder. -/
theorem ddiv_eq {c : Config} {w0 w1 w2 w3 bh bl : Word} {n b : Int} (hn : n = qval w0 w1 w2 w3)
    (hb : b = dval bh bl) :
    ddiv c w0 w1 w2 w3 bh bl =
      if |b| * 2 ^ 70 ≤ |n| then none
      else some (dhi (n.tdiv b), withSign (c.dlowArith && decide (n.tdiv b < 0)) (dlo (n.tdiv b)),
        dhi (n.tmod b), withSign (c.dlowArith && decide (n.tmod b < 0)) (dlo (n.tmod b))) := by
  have hfits : b.natAbs * 2 ^ 70 ≤ n.natAbs ↔ |b| * 2 ^ 70 ≤ |n| := by
    rw [Int.abs_eq_natAbs, Int.abs_eq_natAbs]
    norm_cast
  rw [ddiv, ← hn, ← hb, Int.tmod_def, mul_comm b]
  exact if_congr hfits rfl rfl

theorem ddiv_none_iff {c : Config} {w0 w1 w2 w3 bh bl : Word} {n b : Int} (hn : n = qval w0 w1 w2 w3)
    (hb : b = dval bh bl) : ddiv c w0 w1 w2 w3 bh bl = none ↔ |b| * 2 ^ 70 ≤ |n| := by
  rw [ddiv_eq hn hb]
  split
  case isTrue h => exact iff_of_true rfl h
  case isFalse h => exact iff_of_false (Option.some_ne_none _) h

/-- The remainder of a truncated division has the sign of the dividend. -/
theorem tmod_mul_self_nonneg (n b : Int) : 0 ≤ n.tmod b * n := by
  obtain h | h := le_total 0 n
  · exact mul_nonneg (Int.tmod_nonneg b h) h
  · have := Int.tmod_nonneg b (neg_nonneg.mpr h)
    rw [Int.neg_tmod] at this
    exact mul_nonneg_of_nonpos_of_nonpos (neg_nonneg.mp this) h

theorem abs_tdiv_lt {n b k : Int} (h : |n| < |b| * k) : |n.tdiv b| < k := by
  have hb : 0 < |b| := (abs_nonneg b).lt_of_ne fun h0 => by
    rw [← h0, zero_mul] at h
    exact (abs_nonneg n).not_gt h
  have hle : |b| * |n.tdiv b| ≤ |n| := by
    rw [Int.abs_eq_natAbs, Int.abs_eq_natAbs, Int.abs_eq_natAbs, Int.natAbs_tdiv]
    exact_mod_cast Nat.mul_div_le _ _
  exact lt_of_mul_lt_mul_left (hle.trans_lt h) hb.le

theorem abs_tmod_lt (n : Int) {b : Int} (hb : b ≠ 0) : |n.tmod b| < |b| := by
  rw [Int.abs_eq_natAbs, Int.abs_eq_natAbs, Int.natAbs_tmod]
  exact_mod_cast Nat.mod_lt _ (Int.natAbs_pos.mpr hb)

/-- What DDIV answers when it is performed has the values and the signs of the quotient and the remainder. -/
theorem ddiv_some {c : Config} {w0 w1 w2 w3 bh bl qh ql rh rl : Word} {n b : Int} (hn : n = qval w0 w1 w2 w3)
    (hb : b = dval bh bl) (h : ddiv c w0 w1 w2 w3 bh bl = some (qh, ql, rh, rl)) :
    dval qh ql = n.tdiv b ∧ dval rh rl = n.tmod b ∧ |n.tmod b| < |b| ∧
      negative ql = (c.dlowArith && decide (n.tdiv b < 0)) ∧ negative rl = (c.dlowArith && decide (n.tmod b < 0)) := by
  have hfits : ¬|b| * 2 ^ 70 ≤ |n| := by
    rw [← ddiv_none_iff hn hb, h]
    exact Option.some_ne_none _
  have hb0 : b ≠ 0 := by
    rintro rfl
    rw [abs_zero, zero_mul] at hfits
    exact hfits (abs_nonneg n)
  obtain ⟨hqge, hqlt⟩ := abs_lt.mp (abs_tdiv_lt (not_le.mp hfits))
  have hrem := abs_tmod_lt n hb0
  obtain ⟨hrge, hrlt⟩ := abs_lt.mp (hrem.trans_le (hb ▸ abs_dval_le bh bl))
  rw [ddiv_eq hn hb, if_neg hfits] at h
  cases h
  exact ⟨(dval_withSign _ _ _).trans (dval_dhi_dlo hqge.le hqlt),
    (dval_withSign _ _ _).trans (dval_dhi_dlo hrge.le hrlt), hrem, negative_withSign _ _, negative_withSign _ _⟩

/-- Settles O50: DADD and DSUB by `addDouble_value`, the negative by `dneg_value`, the product by `dmul_exact` and
`dmul_overflow`, DDIV by `ddiv_none_iff` and `ddiv_some`. -/
theorem doubleValues : Obligations.DoubleValues := by
  intro c
  refine ⟨?add, ?sub, ?neg, ?mul, ?div⟩
  case add =>
    rintro ah al bh bl r cin rfl rfl
    exact ⟨dadd_value c ah al bh bl, dadd_flags c ah al bh bl, negative_withSign _ _⟩
  case sub =>
    rintro ah al bh bl r cin rfl rfl
    exact ⟨dsub_value c ah al bh bl, dsub_flags c ah al bh bl, negative_withSign _ _⟩
  case neg =>
    rintro hi lo r rfl
    exact ⟨dneg_value c hi lo, negative_withSign _ _, rfl⟩
  case mul =>
    intro ah al bh bl p r hp hr
    refine ⟨fun h => ?_, fun h => dmul_exact h hp hr⟩
    rw [dmul_overflow h] at hr
    subst hr
    simp only [List.forall_mem_cons, withSign_zero, List.not_mem_nil, false_imp_iff, implies_true, and_true]
    exact ⟨rfl, rfl⟩
  case div =>
    rintro w0 w1 w2 w3 bh bl n b hn hb
    refine ⟨ddiv_none_iff hn hb, fun qh ql rh rl h => ?_⟩
    obtain ⟨hq, hr, hlt, hql, hrl⟩ := ddiv_some hn hb h
    rw [hq, hr]
    exact ⟨(Int.tdiv_mul_add_tmod n b).symm, hlt, tmod_mul_self_nonneg n b, hql, hrl⟩

end Sys2Proof.Machine
end

section
/-! SUPPORT. The floating-point instructions under every setting of `FPU`: the whole next state (42_float.md
sections 1 to 4). -/

namespace Sys2Proof.Machine

open Sys2Proof Sys2Proof.Statements

/-! ### Operations on values under the standard `FPU` (R503, R508) -/

theorem floatNum_standard {c : Config} (h : c.fpu = .standard) (op : FloatOp) (rnd : Bool) (a b : Word) :
    floatNum c op rnd a b =
      if op = .div ∧ (fval b).num = 0 then none else some (packSingle (enc (exactOp op (fval a) (fval b)) rnd 27)) := by
  unfold floatNum
  rw [h]
  by_cases hop : op = .div
  · subst hop
    simp only [fdiv, true_and, if_true]
    rfl
  · simp only [hop, false_and, if_false]
    rfl

theorem dfloatNum_standard {c : Config} (h : c.fpu = .standard) (op : FloatOp) (a b : Word × Word) :
    dfloatNum c op a b =
      if op = .div ∧ (dfval b.1 b.2).num = 0 then none
      else some (packDouble (enc (exactOp op (dfval a.1 a.2) (dfval b.1 b.2)) c.dfpRound 62)) := by
  unfold dfloatNum
  rw [h]
  by_cases hop : op = .div
  · subst hop
    simp only [dfdiv, true_and, if_true]
    rfl
  · simp only [hop, false_and, if_false]
    rfl

theorem scaledNum_standard {c : Config} (h : c.fpu = .standard) (a : Word) (e : VAddr) :
    scaledNum c a e = fscNum a e := by
  rw [scaledNum, h]

theorem floatedNum_standard {c : Config} (h : c.fpu = .standard) (w : Word) : floatedNum c w = fltrNum w := by
  rw [floatedNum, h]

/-! ### Only a division is refused (R502) -/

theorem floatNum_ne_none (c : Config) {op : FloatOp} (hop : op ≠ .div) (rnd : Bool) (a b : Word) :
    floatNum c op rnd a b ≠ none := by
  unfold floatNum
  cases c.fpu <;> simp only [hop, false_and, if_false] <;> exact Option.some_ne_none _

theorem dfloatNum_ne_none (c : Config) {op : FloatOp} (hop : op ≠ .div) (a b : Word × Word) :
    dfloatNum c op a b ≠ none := by
  unfold dfloatNum
  cases c.fpu <;> simp only [hop, false_and, if_false] <;> exact Option.some_ne_none _

/-! ### The flags of a result (R61, R63, R502) -/

/-- The flags a floating-point result can set: none, those of overflow, those of underflow. -/
def floatResultFlags : List Flags := [Flags.zero, floatOverflowFlags, floatUnderflowFlags]

theorem ite_flags_mem {p q : Prop} [Decidable p] [Decidable q] :
    (if p then floatOverflowFlags else if q then floatUnderflowFlags else Flags.zero) ∈ floatResultFlags := by
  split
  · exact .tail _ (.head _)
  · split
    · exact .tail _ (.tail _ (.head _))
    · exact .head _

theorem enc_flags_mem (x : Scaled) (rnd : Bool) (n : Nat) : (enc x rnd n).flags ∈ floatResultFlags := by
  unfold enc
  split
  · exact .head _
  · exact ite_flags_mem

theorem answerFlags_mem (r : FpuAnswer) : answerFlags r ∈ floatResultFlags := by
  unfold answerFlags
  cases r.range with
  | fits => exact .head _
  | overflow => exact .tail _ (.head _)
  | underflow => exact .tail _ (.tail _ (.head _))

theorem floatNum_flags_mem {c : Config} {op : FloatOp} {rnd : Bool} {a b : Word} {r : WordFlags}
    (h : floatNum c op rnd a b = some r) : r.flags ∈ floatResultFlags := by
  cases hc : c.fpu with
  | standard =>
    rw [floatNum_standard hc] at h
    split at h <;> cases h
    exact enc_flags_mem _ _ _
  | other k =>
    simp only [floatNum, hc] at h
    split at h <;> cases h
    exact answerFlags_mem _

theorem dfloatNum_flags_mem {c : Config} {op : FloatOp} {a b : Word × Word} {r : PairFlags}
    (h : dfloatNum c op a b = some r) : r.flags ∈ floatResultFlags := by
  cases hc : c.fpu with
  | standard =>
    rw [dfloatNum_standard hc] at h
    split at h <;> cases h
    exact enc_flags_mem _ _ _
  | other k =>
    simp only [dfloatNum, hc] at h
    split at h <;> cases h
    exact answerFlags_mem _

theorem scaledNum_flags_mem (c : Config) (a : Word) (e : VAddr) : (scaledNum c a e).flags ∈ floatResultFlags := by
  unfold scaledNum
  cases c.fpu with
  | standard => exact enc_flags_mem _ _ _
  | other k => exact answerFlags_mem _

theorem floatedNum_flags_mem (c : Config) (w : Word) : (floatedNum c w).flags ∈ floatResultFlags := by
  unfold floatedNum
  cases c.fpu with
  | standard => exact enc_flags_mem _ _ _
  | other k => exact answerFlags_mem _

/-! ### The operand forms (R504 to R540) -/

section
variable {s s1 s2 s3 : State} {ac : AcNum} {m : EaField} {e : VAddr} {op : FloatOp} {rnd toMem toAc : Bool}
  {operand : VAddr → M Word} {b w : Word} {p : Word × Word}

/-- A single-precision operation stores its result where the form says so, and sets its flags after the stores. -/
theorem floatOp_performed {r : WordFlags} (ho : Frames (operand e)) (h1 : ea m s = .ok e s1)
    (h2 : operand e s1 = .ok b s2) (hr : floatNum s.cfg op rnd (s.ac ac) b = some r)
    (h3 : (if toMem then wrE e r.word s2 else .ok () s2) = .ok () s3) :
    floatOp op rnd operand toMem toAc ac m s =
      .ok () ((if toAc then s3.setAc ac r.word else s3).orFlags r.flags) := by
  have hs := ((Frames.ea m).ok h1).trans (ho.ok h2)
  simp only [floatOp, run_bind, h1, h2, run_getAc, run_getS, hs.ac, hs.cfg, hr, run_onlyIf, h3, run_putAc]
  cases toAc <;> rfl

/-- A no divide sets its flags only (R502). -/
theorem floatOp_noDivide (ho : Frames (operand e)) (h1 : ea m s = .ok e s1) (h2 : operand e s1 = .ok b s2)
    (hr : floatNum s.cfg op rnd (s.ac ac) b = none) :
    floatOp op rnd operand toMem toAc ac m s = .ok () (s2.orFlags floatNoDivideFlags) := by
  have hs := ((Frames.ea m).ok h1).trans (ho.ok h2)
  simp only [floatOp, run_bind, h1, h2, run_getAc, run_getS, hs.ac, hs.cfg, hr, run_setFlags]

theorem dfloatOp_performed {r : PairFlags} (h1 : ea m s = .ok e s1) (h2 : rdE2 e s1 = .ok p s2)
    (hr : dfloatNum s.cfg op (s.ac ac, s.ac (ac + 1)) p = some r) :
    dfloatOp op ac m s = .ok () (((s2.setAc ac r.hi).setAc (ac + 1) r.lo).orFlags r.flags) := by
  have hs := sameRegisters_rdE2 h1 h2
  simp only [dfloatOp, run_bind, h1, h2, run_getAc, run_getS, hs.ac, hs.cfg, hr, run_putAc2, run_setFlags]

theorem dfloatOp_noDivide (h1 : ea m s = .ok e s1) (h2 : rdE2 e s1 = .ok p s2)
    (hr : dfloatNum s.cfg op (s.ac ac, s.ac (ac + 1)) p = none) :
    dfloatOp op ac m s = .ok () (s2.orFlags floatNoDivideFlags) := by
  have hs := sameRegisters_rdE2 h1 h2
  simp only [dfloatOp, run_bind, h1, h2, run_getAc, run_getS, hs.ac, hs.cfg, hr, run_setFlags]

theorem fixOp_performed {r : Word} (h1 : ea m s = .ok e s1) (h2 : rdE e s1 = .ok w s2)
    (hr : fixedNum s.cfg rnd w = some r) : fixOp rnd ac m s = .ok () (s2.setAc ac r) := by
  have hs := ((Frames.ea m).ok h1).trans ((Frames.rdE e).ok h2)
  simp only [fixOp, run_bind, h1, h2, run_getS, hs.cfg, hr, run_putAc]

/-- A value outside 36 bits sets the overflow flags and leaves AC (R509). -/
theorem fixOp_overflow (h1 : ea m s = .ok e s1) (h2 : rdE e s1 = .ok w s2) (hr : fixedNum s.cfg rnd w = none) :
    fixOp rnd ac m s = .ok () (s2.orFlags overflowFlags) := by
  have hs := ((Frames.ea m).ok h1).trans ((Frames.rdE e).ok h2)
  simp only [fixOp, run_bind, h1, h2, run_getS, hs.cfg, hr, run_setFlags]

theorem fscOp_run (h1 : ea m s = .ok e s1) :
    fscOp ac m s =
      .ok () ((s1.setAc ac (scaledNum s.cfg (s.ac ac) e).word).orFlags (scaledNum s.cfg (s.ac ac) e).flags) := by
  have hs := (Frames.ea m).ok h1
  simp only [fscOp, run_bind, h1, run_getAc, run_getS, run_putAc, run_setFlags, hs.ac, hs.cfg]

end

/-! ### The table of forms (R513 to R540) -/

/-- Every single-precision instruction is `floatOp` of its row. -/
theorem exec_floatForms : ∀ p ∈ floatForms, ∀ (ac : AcNum) (m : EaField) (s : State),
    exec (p.1 ac m) s = finish (floatOp p.2.1 p.2.2.1 p.2.2.2.1 p.2.2.2.2.1 p.2.2.2.2.2 ac m) s := by
  intro p hp ac m s
  fin_cases hp <;> rfl

/-- The three operand fetches change no register. -/
theorem frames_floatForms : ∀ p ∈ floatForms, ∀ e : VAddr, Frames (p.2.2.2.1 e) := by
  have himm (e : VAddr) : Frames (floatImm e) := Frames.pure _
  simp only [floatForms, List.forall_mem_cons, List.not_mem_nil, false_imp_iff, implies_true, Frames.rdE, Frames.rdmE,
    himm, and_self]

/-- Settles O38: each instruction is `finish` of its operation, whose two runs the lemmas above give; the flags by
`enc_flags_mem` and, under another `FPU`, `answerFlags_mem`. -/
theorem floatForms : Obligations.FloatForms := by
  refine ⟨?single, ?double, ?fix, ?fsc, fun _ _ => rfl, fun c op rnd a b hop => floatNum_ne_none c hop rnd a b,
    fun c op a b hop => dfloatNum_ne_none c hop a b, ?flags⟩
  case single =>
    intro p hp ac m s s1 s2 e b h1 h2
    have ho := frames_floatForms p hp e
    rw [exec_floatForms p hp]
    exact ⟨fun r s3 hr h3 => finish_of_ok (floatOp_performed ho h1 h2 hr h3),
      fun hr => finish_of_ok (floatOp_noDivide ho h1 h2 hr)⟩
  case double =>
    intro p hp ac m s s1 s2 e b h1 h2
    have hexec : exec (p.1 ac m) s = finish (dfloatOp p.2 ac m) s := by
      fin_cases hp <;> rfl
    rw [hexec]
    exact ⟨fun r hr => finish_of_ok (dfloatOp_performed h1 h2 hr), fun hr => finish_of_ok (dfloatOp_noDivide h1 h2 hr)⟩
  case fix =>
    intro p hp ac m s s1 s2 e w h1 h2
    have hexec : exec (p.1 ac m) s = finish (fixOp p.2 ac m) s := by
      fin_cases hp <;> rfl
    rw [hexec]
    exact ⟨fun r hr => finish_of_ok (fixOp_performed h1 h2 hr), fun hr => finish_of_ok (fixOp_overflow h1 h2 hr)⟩
  case fsc =>
    intro ac m s s1 e h1
    exact finish_of_ok (fscOp_run h1)
  case flags =>
    rintro c op rnd a b x y e l rfl
    exact ⟨fun r => floatNum_flags_mem, fun r => dfloatNum_flags_mem, scaledNum_flags_mem c a e,
      floatedNum_flags_mem c a⟩

end Sys2Proof.Machine
end

section
/-! SUPPORT. Exact arithmetic on `Scaled` as arithmetic on rationals, and the fixed-point results of it (42_float.md
sections 1 and 3, R500, R501, R503, R509, R510). -/

namespace Sys2Proof.Machine

open Sys2Proof Sys2Proof.Statements

/-! ### The rational a `Scaled` stands for -/

/-- The rational a `Scaled` stands for. -/
def Scaled.val (x : Scaled) : ℚ := x.num / x.den * 2 ^ x.exp

theorem Scaled.val_eq_zero_iff {x : Scaled} (hd : 0 < x.den) : x.val = 0 ↔ x.num = 0 := by
  have hden : (x.den : ℚ) ≠ 0 := by exact_mod_cast hd.ne'
  have hpow : (2 : ℚ) ^ x.exp ≠ 0 := zpow_ne_zero _ two_ne_zero
  rw [Scaled.val, mul_eq_zero, div_eq_zero_iff, Int.cast_eq_zero, or_iff_left hden, or_iff_left hpow]

theorem Scaled.flat_den_pos {x : Scaled} (hd : 0 < x.den) : 0 < x.flat.2 := by
  unfold Scaled.flat
  split
  · exact hd
  · exact Nat.mul_pos hd (Nat.two_pow_pos _)

theorem Scaled.flat_val (x : Scaled) : (x.flat.1 : ℚ) / x.flat.2 = x.val := by
  unfold Scaled.flat Scaled.val
  split
  case isTrue h =>
    rw [← Int.toNat_of_nonneg h, zpow_natCast]
    push_cast [Int.toNat_natCast]
    ring
  case isFalse h =>
    have hexp : x.exp = -((-x.exp).toNat : Int) := by omega
    rw [hexp, zpow_neg, zpow_natCast]
    push_cast [neg_neg, Int.toNat_natCast]
    rw [div_mul_eq_div_div, div_eq_mul_inv _ ((2 : ℚ) ^ _)]

theorem Scaled.flat_lt_iff {x : Scaled} (hd : 0 < x.den) (k : Nat) :
    x.flat.1 < 2 ^ k * (x.flat.2 : Int) ↔ x.val < 2 ^ k := by
  rw [← x.flat_val, div_lt_iff₀ (by exact_mod_cast Scaled.flat_den_pos hd)]
  norm_cast

/-! ### Floor, rounding and truncation -/

theorem Scaled.floor_eq (x : Scaled) : x.floor = ⌊x.val⌋ := by
  rw [← x.flat_val, Rat.floor_intCast_div_natCast, Scaled.floor]

theorem Scaled.roundHalfUp_eq {x : Scaled} (hd : 0 < x.den) : x.roundHalfUp = ⌊x.val + 1 / 2⌋ := by
  have hflat : (x.flat.2 : ℚ) ≠ 0 := by exact_mod_cast (Scaled.flat_den_pos hd).ne'
  have hval : x.val + 1 / 2 = ((2 * x.flat.1 + x.flat.2 : Int) : ℚ) / ((2 * x.flat.2 : Nat) : ℚ) := by
    rw [← x.flat_val]
    push_cast
    field_simp
  rw [hval, Rat.floor_intCast_div_natCast, Scaled.roundHalfUp]
  push_cast
  rfl

theorem Scaled.trunc_eq {x : Scaled} (hd : 0 < x.den) : x.trunc = if 0 ≤ x.val then ⌊x.val⌋ else ⌈x.val⌉ := by
  have hflat : (0 : ℚ) < x.flat.2 := by exact_mod_cast Scaled.flat_den_pos hd
  have hsign : 0 ≤ (x.flat.1 : ℚ) / x.flat.2 ↔ 0 ≤ x.flat.1 := by
    rw [le_div_iff₀ hflat, zero_mul, Int.cast_nonneg_iff]
  simp only [← x.flat_val, Scaled.trunc, hsign]
  split
  case isTrue h => rw [Rat.floor_intCast_div_natCast, Int.tdiv_eq_ediv_of_nonneg h]
  case isFalse h =>
    rw [Rat.ceil_intCast_div_natCast, ← Int.tdiv_eq_ediv_of_nonneg (by omega), Int.neg_tdiv, neg_neg]

/-! ### The exact operations (R503) -/

theorem Scaled.add_val {x y : Scaled} (hx : 0 < x.den) (hy : 0 < y.den) : (x.add y).val = x.val + y.val := by
  have hxd : (x.den : ℚ) ≠ 0 := by exact_mod_cast hx.ne'
  have hyd : (y.den : ℚ) ≠ 0 := by exact_mod_cast hy.ne'
  have hscale (e : Int) (he : min x.exp y.exp ≤ e) :
      (2 : ℚ) ^ e = 2 ^ (e - min x.exp y.exp).toNat * 2 ^ min x.exp y.exp := by
    rw [← zpow_natCast, ← zpow_add₀ two_ne_zero, Int.toNat_of_nonneg (by omega), sub_add_cancel]
  rw [Scaled.add, Scaled.val, Scaled.val, Scaled.val, hscale x.exp (min_le_left _ _), hscale y.exp (min_le_right _ _)]
  push_cast
  field_simp

theorem Scaled.sub_val {x y : Scaled} (hx : 0 < x.den) (hy : 0 < y.den) : (x.sub y).val = x.val - y.val := by
  rw [Scaled.sub, Scaled.add_val hx (y := { y with num := -y.num }) hy]
  simp only [Scaled.val, Int.cast_neg]
  ring

theorem Scaled.mul_val (x y : Scaled) : (x.mul y).val = x.val * y.val := by
  simp only [Scaled.mul, Scaled.val]
  push_cast
  rw [zpow_add₀ two_ne_zero]
  ring

theorem Scaled.div_val {x y : Scaled} (hn : y.num ≠ 0) : (x.div y).val = x.val / y.val := by
  have hsign : ((if y.num < 0 then -x.num else x.num : Int) : ℚ) / (y.num.natAbs : ℚ) = x.num / y.num := by
    rw [Nat.cast_natAbs]
    split
    case isTrue h => rw [abs_of_neg h, Int.cast_neg, Int.cast_neg, neg_div_neg_eq]
    case isFalse h => rw [abs_of_nonneg (not_lt.mp h)]
  calc (x.div y).val
      = ((if y.num < 0 then -x.num else x.num : Int) : ℚ) / y.num.natAbs * (y.den / x.den) *
          (2 ^ x.exp / 2 ^ y.exp) := by
        simp only [Scaled.div, Scaled.val]
        push_cast
        rw [zpow_sub₀ two_ne_zero]
        ring
    _ = x.val / y.val := by
        rw [hsign, Scaled.val, Scaled.val]
        field_simp

theorem exactOp_val {op : FloatOp} {x y : Scaled} (hx : 0 < x.den) (hy : 0 < y.den) (h : ¬(op = .div ∧ y.num = 0)) :
    (exactOp op x y).val = exactly op x.val y.val := by
  cases op with
  | add => exact Scaled.add_val hx hy
  | sub => exact Scaled.sub_val hx hy
  | mul => exact Scaled.mul_val x y
  | div => exact Scaled.div_val fun h0 => h ⟨rfl, h0⟩

theorem exactOp_den_pos {op : FloatOp} {x y : Scaled} (hx : 0 < x.den) (hy : 0 < y.den) (h : ¬(op = .div ∧ y.num = 0)) :
    0 < (exactOp op x y).den := by
  cases op with
  | add => exact Nat.mul_pos hx hy
  | sub => exact Nat.mul_pos hx hy
  | mul => exact Nat.mul_pos hx hy
  | div => exact Nat.mul_pos hx (Int.natAbs_pos.mpr fun h0 => h ⟨rfl, h0⟩)

/-! ### The value of a word and of a pair (R500, R501) -/

theorem exponent_eq (w : Word) : exponent w = expField w := by
  unfold exponent expField
  cases negative w with
  | true => simp only [if_true, ← BitVec.xor_allOnes]; rfl
  | false => simp only [Bool.false_eq_true, if_false]; exact congrArg _ BitVec.xor_zero

theorem fval_val (w : Word) : (fval w).val = value w := by
  simp only [Scaled.val, fval, value, exponent_eq, Nat.cast_one, div_one]

theorem dfval_val (w : Word × Word) : (dfval w.1 w.2).val = value2 w := by
  simp only [Scaled.val, dfval, value2, exponent_eq, Nat.cast_one, div_one]

theorem fval_den_pos (w : Word) : 0 < (fval w).den := Nat.one_pos

theorem dfval_den_pos (hi lo : Word) : 0 < (dfval hi lo).den := Nat.one_pos

theorem fval_num_eq_zero_iff (w : Word) : (fval w).num = 0 ↔ value w = 0 := by
  rw [← fval_val, Scaled.val_eq_zero_iff (fval_den_pos w)]

theorem dfval_num_eq_zero_iff (w : Word × Word) : (dfval w.1 w.2).num = 0 ↔ value2 w = 0 := by
  rw [← dfval_val, Scaled.val_eq_zero_iff (dfval_den_pos _ _)]

/-! ### FIX and FIXR (R509, R510) -/

theorem fixResult_eq_fixed (n : Int) : fixResult n = fixed n := by
  simp only [fixResult, fixed, Int.le_sub_one_iff, wordOfInt]

theorem fixedNum_trunc {c : Config} (h : c.fpu = .standard) (w : Word) :
    fixedNum c false w = fixed (if 0 ≤ value w then ⌊value w⌋ else ⌈value w⌉) := by
  rw [fixedNum, h, ← fval_val, ← Scaled.trunc_eq (fval_den_pos w), ← fixResult_eq_fixed]
  rfl

theorem fixedNum_rounded {c : Config} (h : c.fpu = .standard) (w : Word) :
    fixedNum c true w = fixed ⌊value w + 1 / 2⌋ := by
  rw [fixedNum, h, ← fval_val, ← Scaled.roundHalfUp_eq (fval_den_pos w), ← fixResult_eq_fixed]
  rfl

end Sys2Proof.Machine
end

section
/-! SUPPORT. What `enc` computes, as the statement `Encodes` of an exact rational, and its fields in a stored word
(42_float.md section 1, R500 to R502). -/

namespace Sys2Proof.Machine

open Sys2Proof Sys2Proof.Statements

/-! ### Normalisation (R502) -/

theorem two_zpow_log2_le {a : Nat} (h : a ≠ 0) : (2 : ℚ) ^ (a.log2 : Int) ≤ a := by
  rw [zpow_natCast]
  exact_mod_cast Nat.log2_self_le h

theorem lt_two_zpow_log2 (a : Nat) : (a : ℚ) < 2 ^ ((a.log2 : Int) + 1) := by
  rw [← Nat.cast_succ, zpow_natCast]
  exact_mod_cast Nat.lt_log2_self

/-- The logarithms of two numbers give that of their quotient but for one. -/
theorem two_zpow_lt_div {a d : Nat} (ha : a ≠ 0) (hd : d ≠ 0) :
    (2 : ℚ) ^ ((a.log2 : Int) - d.log2 - 1) < a / d ∧ (a : ℚ) / d < 2 ^ ((a.log2 : Int) - d.log2 + 1) := by
  have hdpos : (0 : ℚ) < d := by exact_mod_cast Nat.pos_of_ne_zero hd
  rw [lt_div_iff₀ hdpos, div_lt_iff₀ hdpos]
  constructor
  · calc (2 : ℚ) ^ ((a.log2 : Int) - d.log2 - 1) * d
        < 2 ^ ((a.log2 : Int) - d.log2 - 1) * 2 ^ ((d.log2 : Int) + 1) :=
          mul_lt_mul_of_pos_left (lt_two_zpow_log2 d) (zpow_pos two_pos _)
      _ = 2 ^ (a.log2 : Int) := by
          rw [← zpow_add₀ two_ne_zero]
          congr 1
          ring
      _ ≤ a := two_zpow_log2_le ha
  · calc (a : ℚ) < 2 ^ ((a.log2 : Int) + 1) := lt_two_zpow_log2 a
      _ = 2 ^ ((a.log2 : Int) - d.log2 + 1) * 2 ^ (d.log2 : Int) := by
          rw [← zpow_add₀ two_ne_zero]
          congr 1
          ring
      _ ≤ 2 ^ ((a.log2 : Int) - d.log2 + 1) * d :=
          mul_le_mul_of_nonneg_left (two_zpow_log2_le hd) (zpow_pos two_pos _).le

/-- The first guess of `normShift`, from the logarithms alone. -/
def guessShift (x : Scaled) (n : Nat) : Int := (n : Int) - 1 - (x.num.natAbs.log2 : Int) + (x.den.log2 : Int)

theorem normShift_eq {x : Scaled} (hd : 0 < x.den) (n : Nat) :
    normShift x n = if (x.num.natAbs : ℚ) / x.den * 2 ^ guessShift x n < 2 ^ (n - 1) then guessShift x n + 1
      else guessShift x n :=
  if_congr (Scaled.flat_lt_iff (x := ⟨x.num.natAbs, x.den, guessShift x n⟩) hd (n - 1)) rfl rfl

/-- Scaled by `normShift`, the magnitude lies in `[2^(n-1), 2^n)`. -/
theorem normShift_bounds {x : Scaled} (hnum : x.num ≠ 0) (hd : 0 < x.den) {n : Nat} (hn : 0 < n) :
    (2 : ℚ) ^ (n - 1) ≤ x.num.natAbs / x.den * 2 ^ normShift x n ∧
      x.num.natAbs / x.den * 2 ^ normShift x n < (2 : ℚ) ^ n := by
  obtain ⟨hlow, hhigh⟩ := two_zpow_lt_div (Int.natAbs_ne_zero.mpr hnum) hd.ne'
  have hpos : (0 : ℚ) < 2 ^ guessShift x n := zpow_pos two_pos _
  have hhalf : (2 : ℚ) ^ (n - 1) * 2 = 2 ^ n := pow_sub_one_mul hn.ne' 2
  have hupper : (x.num.natAbs : ℚ) / x.den * 2 ^ guessShift x n < 2 ^ n := by
    refine (mul_lt_mul_of_pos_right hhigh hpos).trans_eq ?_
    rw [← zpow_add₀ two_ne_zero, ← zpow_natCast]
    congr 1
    rw [guessShift]
    ring
  have hlower : (2 : ℚ) ^ (n - 1) < x.num.natAbs / x.den * 2 ^ guessShift x n * 2 := by
    refine lt_of_eq_of_lt ?_ (mul_lt_mul_of_pos_right (mul_lt_mul_of_pos_right hlow hpos) two_pos)
    rw [← zpow_add₀ two_ne_zero, ← zpow_add_one₀ two_ne_zero, ← zpow_natCast, Nat.cast_pred hn]
    congr 1
    rw [guessShift]
    ring
  rw [normShift_eq hd]
  split
  case isTrue h =>
    rw [zpow_add_one₀ two_ne_zero, ← mul_assoc]
    exact ⟨hlower.le, by linarith⟩
  case isFalse h => exact ⟨not_lt.mp h, hupper⟩

/-- The normalised number, whose floor or rounding is the fraction. -/
def normalised (x : Scaled) (n : Nat) : ℚ := x.num / x.den * 2 ^ normShift x n

theorem val_eq_normalised (x : Scaled) (n : Nat) : x.val = normalised x n * 2 ^ (x.exp - normShift x n) := by
  rw [normalised, mul_assoc, ← zpow_add₀ two_ne_zero, add_sub_cancel, Scaled.val]

theorem abs_normalised (x : Scaled) (n : Nat) : |normalised x n| = x.num.natAbs / x.den * 2 ^ normShift x n := by
  rw [normalised, abs_mul, abs_div, Nat.abs_cast, abs_zpow, abs_two, Nat.cast_natAbs, Int.cast_abs]

/-- The normalised number of a nonzero one, by sign. -/
theorem normalised_range {x : Scaled} (hnum : x.num ≠ 0) (hd : 0 < x.den) {n : Nat} (hn : 0 < n) :
    (0 < x.val → 2 ^ (n - 1) ≤ normalised x n ∧ normalised x n < 2 ^ n) ∧
      (x.val < 0 → -2 ^ n < normalised x n ∧ normalised x n ≤ -2 ^ (n - 1)) := by
  have hpow : (0 : ℚ) < 2 ^ (x.exp - normShift x n) := zpow_pos two_pos _
  have hbounds := normShift_bounds hnum hd hn
  rw [← abs_normalised] at hbounds
  obtain ⟨hlow, hhigh⟩ := hbounds
  rw [val_eq_normalised x n, mul_pos_iff_of_pos_right hpow]
  constructor
  · intro h
    rw [abs_of_pos h] at hlow hhigh
    exact ⟨hlow, hhigh⟩
  · intro h
    rw [abs_of_neg (neg_of_mul_neg_left h hpow.le)] at hlow hhigh
    exact ⟨by linarith, by linarith⟩

/-! ### The encoding as `Encodes` says it -/

/-- Halving a fraction that reached the bound is what the carry of R502 does. -/
theorem carried_half {n : Nat} (hn : 0 < n) (f : Int) :
    (if f = 2 ^ n then 2 ^ (n - 1) else if f = -2 ^ n then -2 ^ (n - 1) else f) =
      if f = 2 ^ n ∨ f = -2 ^ n then f / 2 else f := by
  have hhalf : (2 : Int) ^ n = 2 ^ (n - 1) * 2 := (pow_sub_one_mul hn.ne' 2).symm
  split
  case isTrue h => rw [if_pos (.inl h)]; omega
  case isFalse h =>
    simp only [h, false_or]
    split
    · omega
    · rfl

/-- The encoding of a nonzero number, in the terms of `Encodes`. -/
theorem enc_nonzero {x : Scaled} (hnum : x.num ≠ 0) (hd : 0 < x.den) (rnd : Bool) {n : Nat} (hn : 0 < n) {f0 f e' : Int}
    (hf0 : f0 = if rnd then ⌊normalised x n + 1 / 2⌋ else ⌊normalised x n⌋)
    (hf : f = if f0 = 2 ^ n ∨ f0 = -2 ^ n then f0 / 2 else f0)
    (he : e' = if f0 = 2 ^ n ∨ f0 = -2 ^ n then x.exp - normShift x n + 128 + n + 1
      else x.exp - normShift x n + 128 + n) :
    enc x rnd n =
      ⟨f, e', if 255 < e' then floatOverflowFlags else if e' < 0 then floatUnderflowFlags else Flags.zero⟩ := by
  have hfloor : (⟨x.num, x.den, normShift x n⟩ : Scaled).floor = ⌊normalised x n⌋ := Scaled.floor_eq _
  have hround : (⟨x.num, x.den, normShift x n⟩ : Scaled).roundHalfUp = ⌊normalised x n + 1 / 2⌋ :=
    Scaled.roundHalfUp_eq hd
  rw [enc, if_neg hnum]
  simp only [hfloor, hround, ← hf0, carried_half hn, ← hf, ← he]

/-- A fraction is never 0 but for the number 0. -/
theorem enc_frac_ne_zero {x : Scaled} (hnum : x.num ≠ 0) (hd : 0 < x.den) (rnd : Bool) {n : Nat} (hn : 0 < n) :
    (enc x rnd n).frac ≠ 0 := by
  obtain ⟨hpos, hneg⟩ := normalised_range hnum hd hn
  have hone : (1 : ℚ) ≤ 2 ^ (n - 1) := one_le_pow₀ one_le_two
  have hpow : (1 : Int) ≤ 2 ^ (n - 1) := one_le_pow₀ one_le_two
  have hhalf : (2 : Int) ^ n = 2 ^ (n - 1) * 2 := (pow_sub_one_mul hn.ne' 2).symm
  rw [enc_nonzero hnum hd rnd hn rfl rfl rfl]
  generalize hf0 : (if rnd then ⌊normalised x n + 1 / 2⌋ else ⌊normalised x n⌋ : Int) = f0
  have hf0ne : f0 ≠ 0 := by
    rw [← hf0]
    obtain h | h := lt_or_gt_of_ne ((Scaled.val_eq_zero_iff hd).not.mpr hnum)
    · have hy := (hneg h).2
      cases rnd <;> exact (Int.floor_lt.mpr (by push_cast; linarith)).ne
    · have hy := (hpos h).1
      cases rnd <;> exact (Int.lt_floor_iff.mpr (by push_cast; linarith)).ne'
  change (if f0 = 2 ^ n ∨ f0 = -2 ^ n then f0 / 2 else f0) ≠ 0
  split
  · omega
  · exact hf0ne

theorem enc_zero {x : Scaled} (hnum : x.num = 0) (rnd : Bool) (n : Nat) : enc x rnd n = ⟨0, 0, Flags.zero⟩ := by
  rw [enc, if_pos hnum]

theorem enc_exp_of_frac {x : Scaled} (hd : 0 < x.den) (rnd : Bool) {n : Nat} (hn : 0 < n)
    (h : (enc x rnd n).frac = 0) : (enc x rnd n).exp = 0 := by
  by_cases hnum : x.num = 0
  · rw [enc_zero hnum]
  · exact absurd h (enc_frac_ne_zero hnum hd rnd hn)

/-- The stored exponent field: modulo 256, ones' complement when the number is negative (R500). -/
def storedExp (r : Encoded) : BitVec 8 := BitVec.ofInt 8 r.exp ^^^ (if r.frac < 0 then 0o377 else 0)

theorem encodes_enc {x : Scaled} (hd : 0 < x.den) (rnd : Bool) {n : Nat} (hn : 0 < n) :
    Encodes x.val rnd n (decide ((enc x rnd n).frac < 0)) (storedExp (enc x rnd n))
      (BitVec.ofInt n (enc x rnd n).frac) (enc x rnd n).flags := by
  constructor
  · intro h
    rw [enc_zero ((Scaled.val_eq_zero_iff hd).mp h)]
    exact ⟨rfl, by decide, BitVec.ofInt_ofNat n 0, rfl⟩
  · intro h
    have hnum : x.num ≠ 0 := (Scaled.val_eq_zero_iff hd).not.mp h
    obtain ⟨hpos, hneg⟩ := normalised_range hnum hd hn
    refine ⟨x.exp - normShift x n + 128 + n, normalised x n, ?_, hpos, hneg, fun f0 f e' hf0 hf he => ?_⟩
    · rw [val_eq_normalised x n]
      congr 2
      ring
    · rw [enc_nonzero hnum hd rnd hn hf0 hf he]
      exact ⟨rfl, rfl, rfl, rfl⟩

/-! ### The stored words (R500, R501) -/

theorem signExp_eq (r : Encoded) : signExp r = BitVec.ofBool (decide (r.frac < 0)) ++ storedExp r := by
  unfold signExp storedExp
  by_cases h : r.frac < 0
  · simp only [h, if_true, decide_true, ← BitVec.xor_allOnes]; rfl
  · simp only [h, if_false, decide_false]; exact congrArg _ BitVec.xor_zero.symm

theorem signExp_zero {r : Encoded} (h : r.frac = 0) (he : r.exp = 0) : signExp r = 0 := by
  unfold signExp
  rw [h, he]
  decide

theorem packSingle_word {r : Encoded} (h : r.frac = 0 → r.exp = 0) :
    (packSingle r).word = BitVec.ofBool (decide (r.frac < 0)) ++ storedExp r ++ BitVec.ofInt 27 r.frac := by
  rw [← signExp_eq]
  unfold packSingle
  split
  case isTrue hf => rw [signExp_zero hf (h hf), hf]; rfl
  case isFalse hf => rfl

theorem packDouble_hi {r : Encoded} (h : r.frac = 0 → r.exp = 0) :
    (packDouble r).hi =
      BitVec.ofBool (decide (r.frac < 0)) ++ storedExp r ++ (BitVec.ofInt 62 r.frac).extractLsb' 35 27 := by
  rw [← signExp_eq]
  unfold packDouble
  split
  case isTrue hf => rw [signExp_zero hf (h hf), hf]; rfl
  case isFalse hf => rfl

theorem packDouble_lo (r : Encoded) : (packDouble r).lo = (BitVec.ofInt 35 r.frac).setWidth 36 := by
  unfold packDouble
  split
  case isTrue hf => rw [hf]; rfl
  case isFalse hf => rfl

/-- The sign, exponent and fraction of a word put together from them. -/
theorem fields_append (b : Bool) (x : BitVec 8) (f : BitVec 27) :
    negative (BitVec.ofBool b ++ x ++ f) = b ∧ (BitVec.ofBool b ++ x ++ f).extractLsb' 27 8 = x ∧
      (BitVec.ofBool b ++ x ++ f).extractLsb' 0 27 = f := by
  refine ⟨?_, ?_, BitVec.extractLsb'_append_eq_right⟩
  · rw [negative, BitVec.getLsbD_append, if_neg (by decide), BitVec.getLsbD_append, if_neg (by decide)]
    cases b <;> rfl
  · rw [BitVec.extractLsb'_append_eq_of_le (by decide)]
    exact BitVec.extractLsb'_append_eq_right

theorem encodes1_packSingle_enc {x : Scaled} (hd : 0 < x.den) (rnd : Bool) :
    Encodes1 x.val rnd (packSingle (enc x rnd 27)) := by
  obtain ⟨hs, he, hf⟩ := fields_append (decide ((enc x rnd 27).frac < 0)) (storedExp (enc x rnd 27))
    (BitVec.ofInt 27 (enc x rnd 27).frac)
  rw [Encodes1, packSingle_word (enc_exp_of_frac hd rnd (by decide)), hs, he, hf]
  exact encodes_enc hd rnd (by decide)

/-- The fraction of a pair is the 62 bits that were stored in its two words. -/
theorem fraction_halves (v : Int) :
    (BitVec.ofInt 62 v).extractLsb' 35 27 ++ ((BitVec.ofInt 35 v).setWidth 36).extractLsb' 0 35 =
      BitVec.ofInt 62 v := by
  have hlow : ((BitVec.ofInt 35 v).setWidth 36).extractLsb' 0 35 = (BitVec.ofInt 62 v).extractLsb' 0 35 := by
    rw [← BitVec.setWidth_eq_extractLsb' (by decide), ← BitVec.setWidth_eq_extractLsb' (by decide)]
    apply BitVec.eq_of_toNat_eq
    simp only [BitVec.toNat_setWidth, BitVec.toNat_ofInt]
    omega
  rw [hlow, BitVec.extractLsb'_append_extractLsb'_eq_extractLsb' (by decide)]
  exact BitVec.extractLsb'_eq_self

theorem encodes2_packDouble_enc {x : Scaled} (hd : 0 < x.den) (rnd : Bool) :
    Encodes2 x.val rnd (packDouble (enc x rnd 62)) := by
  obtain ⟨hs, he, hf⟩ := fields_append (decide ((enc x rnd 62).frac < 0)) (storedExp (enc x rnd 62))
    ((BitVec.ofInt 62 (enc x rnd 62).frac).extractLsb' 35 27)
  rw [Encodes2, packDouble_hi (enc_exp_of_frac hd rnd (by decide)), packDouble_lo, hs, he, hf, fraction_halves]
  refine ⟨?_, encodes_enc hd rnd (by decide)⟩
  rw [BitVec.getLsbD_setWidth, BitVec.getLsbD_of_ge _ _ (by decide), Bool.and_false]

end Sys2Proof.Machine
end

section
/-! SUPPORT. The values of the floating-point operations under the default `FPU` (42_float.md sections 1 to 3,
R500 to R503, R509 to R512). -/

namespace Sys2Proof.Machine

open Sys2Proof Sys2Proof.Statements

/-! ### The operations of one and of two words (R503) -/

theorem floatNum_encodes {c : Config} (hc : c.fpu = .standard) {op : FloatOp} (rnd : Bool) {a b : Word}
    (h : ¬(op = .div ∧ value b = 0)) :
    ∃ r, floatNum c op rnd a b = some r ∧ Encodes1 (exactly op (value a) (value b)) rnd r := by
  rw [← fval_num_eq_zero_iff] at h
  rw [floatNum_standard hc, if_neg h, ← fval_val, ← fval_val, ← exactOp_val (fval_den_pos a) (fval_den_pos b) h]
  exact ⟨_, rfl, encodes1_packSingle_enc (exactOp_den_pos (fval_den_pos a) (fval_den_pos b) h) rnd⟩

theorem floatNum_noDivide {c : Config} (hc : c.fpu = .standard) (rnd : Bool) (a : Word) {b : Word} (h : value b = 0) :
    floatNum c .div rnd a b = none := by
  rw [floatNum_standard hc, if_pos ⟨rfl, (fval_num_eq_zero_iff b).mpr h⟩]

theorem dfloatNum_encodes {c : Config} (hc : c.fpu = .standard) {op : FloatOp} {a b : Word × Word}
    (h : ¬(op = .div ∧ value2 b = 0)) :
    ∃ r, dfloatNum c op a b = some r ∧ Encodes2 (exactly op (value2 a) (value2 b)) c.dfpRound r := by
  rw [← dfval_num_eq_zero_iff] at h
  rw [dfloatNum_standard hc, if_neg h, ← dfval_val, ← dfval_val,
    ← exactOp_val (dfval_den_pos a.1 a.2) (dfval_den_pos b.1 b.2) h]
  exact ⟨_, rfl, encodes2_packDouble_enc (exactOp_den_pos (dfval_den_pos a.1 a.2) (dfval_den_pos b.1 b.2) h) c.dfpRound⟩

theorem dfloatNum_noDivide {c : Config} (hc : c.fpu = .standard) (a : Word × Word) {b : Word × Word}
    (h : value2 b = 0) : dfloatNum c .div a b = none := by
  rw [dfloatNum_standard hc, if_pos ⟨rfl, (dfval_num_eq_zero_iff b).mpr h⟩]

/-! ### FSC and FLTR (R511, R512) -/

theorem scaledNum_encodes {c : Config} (hc : c.fpu = .standard) (a : Word) (e : VAddr) :
    Encodes1 (value a * 2 ^ fscScale e) false (scaledNum c a e) := by
  have hval : value a * 2 ^ fscScale e = ({ fval a with exp := (fval a).exp + fscScale e } : Scaled).val := by
    rw [← fval_val, Scaled.val, Scaled.val, zpow_add₀ two_ne_zero, mul_assoc]
  rw [hval, scaledNum_standard hc]
  exact encodes1_packSingle_enc (x := { fval a with exp := (fval a).exp + fscScale e }) (fval_den_pos a) false

theorem floatedNum_encodes {c : Config} (hc : c.fpu = .standard) (w : Word) :
    Encodes1 (signed w : ℚ) true (floatedNum c w) := by
  have hval : (signed w : ℚ) = (Scaled.ofInt (signed w)).val := by
    simp only [Scaled.val, Scaled.ofInt, Nat.cast_one, div_one, zpow_zero, mul_one]
  rw [hval, floatedNum_standard hc]
  exact encodes1_packSingle_enc Nat.one_pos true

/-! ### An integer floated and fixed (R509, R511) -/

/-- A sign bit and 27 further bits hold every fraction in their range. -/
theorem toInt_sign_append {f : Int} (hlow : -2 ^ 27 ≤ f) (hhigh : f < 2 ^ 27) :
    (BitVec.ofBool (decide (f < 0)) ++ BitVec.ofInt 27 f : BitVec 28).toInt = f := by
  rw [BitVec.toInt_append, if_neg (by decide), BitVec.toNat_ofInt]
  by_cases h : f < 0
  · have hone : (BitVec.ofBool (decide (f < 0))).toInt = -1 := by rw [decide_eq_true h]; rfl
    omega
  · have hzero : (BitVec.ofBool (decide (f < 0))).toInt = 0 := by rw [decide_eq_false h]; rfl
    omega

/-- The value of a word with the fields of fraction `f` and exponent `e` (R500). -/
theorem value_of_fields {w : Word} {f e : Int} (hlow : -2 ^ 27 ≤ f) (hhigh : f < 2 ^ 27) (he : 0 ≤ e) (he2 : e < 256)
    (hsign : negative w = decide (f < 0))
    (hexp : w.extractLsb' 27 8 = BitVec.ofInt 8 e ^^^ (if f < 0 then 0o377 else 0))
    (hfrac : w.extractLsb' 0 27 = BitVec.ofInt 27 f) : value w = f * 2 ^ (e - 128 - 27) := by
  have hfield : ((exponent w : Nat) : Int) = e := by
    simp only [exponent, hsign, hexp, decide_eq_true_eq, BitVec.xor_assoc, BitVec.xor_self, BitVec.xor_zero,
      BitVec.toNat_ofInt]
    omega
  rw [value, hsign, hfrac, hfield, toInt_sign_append hlow hhigh]

/-- The magnitude of a normalised fraction, of either sign. -/
theorem abs_of_signed_ranges {x y : ℚ} (hx : x ≠ 0) (hpos : 0 < x → 2 ^ 26 ≤ y ∧ y < 2 ^ 27)
    (hneg : x < 0 → -2 ^ 27 < y ∧ y ≤ -2 ^ 26) : 2 ^ 26 ≤ |y| ∧ |y| < 2 ^ 27 := by
  obtain h | h := lt_or_gt_of_ne hx
  · obtain ⟨hlow, hhigh⟩ := hneg h
    rw [abs_of_neg (by linarith)]
    exact ⟨by linarith, by linarith⟩
  · rw [abs_of_pos (by linarith [hpos h])]
    exact hpos h

/-- An integer below 2^27 in magnitude has an integer for its normalised fraction. -/
theorem normalised_of_integer {n : Int} (hn : |n| < 2 ^ 27) (hn0 : n ≠ 0) {e : Int} {y : ℚ}
    (hy : (n : ℚ) = y * 2 ^ (e - 128 - 27)) (hlow : 2 ^ 26 ≤ |y|) (hhigh : |y| < 2 ^ 27) :
    0 ≤ e ∧ e ≤ 255 ∧ ∃ f : Int, y = f := by
  have habs : (|n| : ℚ) = |y| * 2 ^ (e - 128 - 27) := by
    rw [hy, abs_mul, abs_zpow, abs_two]
  have hone : (1 : ℚ) ≤ |(n : ℚ)| := by exact_mod_cast Int.one_le_abs hn0
  have hlt : |(n : ℚ)| < 2 ^ 27 := by exact_mod_cast hn
  have hpow : (0 : ℚ) < 2 ^ (e - 128 - 27) := zpow_pos two_pos _
  have hlowScaled : 2 ^ 26 * (2 : ℚ) ^ (e - 128 - 27) ≤ |(n : ℚ)| := habs ▸ mul_le_mul_of_nonneg_right hlow hpow.le
  have hhighScaled : |(n : ℚ)| < 2 ^ 27 * (2 : ℚ) ^ (e - 128 - 27) := habs ▸ mul_lt_mul_of_pos_right hhigh hpow
  have hupper : e - 128 - 27 < 1 := by
    rw [← zpow_lt_zpow_iff_right₀ (one_lt_two (α := ℚ)), zpow_one]
    linarith
  have hlower : -27 < e - 128 - 27 := by
    rw [← zpow_lt_zpow_iff_right₀ (one_lt_two (α := ℚ)), zpow_neg, inv_lt_iff_one_lt_mul₀ (zpow_pos two_pos _),
      mul_comm, zpow_ofNat]
    exact hone.trans_lt hhighScaled
  refine ⟨by omega, by omega, n * 2 ^ (155 - e).toNat, ?_⟩
  push_cast
  rw [hy, ← zpow_natCast, Int.toNat_of_nonneg (by omega), mul_assoc, ← zpow_add₀ two_ne_zero,
    show e - 128 - 27 + (155 - e) = 0 by ring, zpow_zero, mul_one]

/-- Neither truncation nor rounding changes an integer. -/
theorem floor_round_intCast (rnd : Bool) (f : Int) : (if rnd then ⌊(f : ℚ) + 1 / 2⌋ else ⌊(f : ℚ)⌋) = f := by
  cases rnd
  · exact Int.floor_intCast f
  · exact Int.floor_eq_iff.mpr ⟨by linarith, by linarith⟩

/-- An integer below 2^27 in magnitude is stored exactly. -/
theorem value_of_encodes_integer {n : Int} (hn : |n| < 2 ^ 27) {rnd : Bool} {r : WordFlags} (h : Encodes1 n rnd r) :
    r.flags = Flags.zero ∧ value r.word = n := by
  obtain ⟨hzero, hnonzero⟩ := h
  by_cases hn0 : n = 0
  · subst hn0
    obtain ⟨hsign, hexp, hfrac, hflags⟩ := hzero Int.cast_zero
    rw [value_of_fields (f := 0) (e := 0) (by decide) (by decide) (by decide) (by decide) hsign hexp hfrac]
    exact ⟨hflags, zero_mul _⟩
  · have hx : (n : ℚ) ≠ 0 := Int.cast_ne_zero.mpr hn0
    obtain ⟨e, y, hy, hpos, hneg, hfields⟩ := hnonzero hx
    rw [Nat.cast_ofNat] at hy
    obtain ⟨hyLow, hyHigh⟩ := abs_of_signed_ranges hx hpos hneg
    obtain ⟨he, he2, f, rfl⟩ := normalised_of_integer hn hn0 hy hyLow hyHigh
    obtain ⟨hlow, hhigh⟩ := abs_lt.mp (show |f| < 2 ^ 27 by exact_mod_cast hyHigh)
    have hcarry : ¬(f = 2 ^ 27 ∨ f = -2 ^ 27) := by omega
    obtain ⟨hsign, hfrac, hexp, hflags⟩ :=
      hfields f f e (floor_round_intCast rnd f).symm (if_neg hcarry).symm (if_neg hcarry).symm
    rw [hflags, if_neg (by omega), if_neg (by omega), hy,
      value_of_fields hlow.le hhigh he (by omega) hsign hexp hfrac]
    exact ⟨rfl, rfl⟩

theorem fixed_signed (w : Word) : fixed (signed w) = some w := by
  rw [fixed, if_pos ⟨signed_ge w, signed_lt w⟩, signed, BitVec.ofInt_toInt]

theorem fixed_floated {c : Config} (hc : c.fpu = .standard) {w : Word} (hw : |signed w| < 2 ^ 27) :
    (floatedNum c w).flags = Flags.zero ∧ fixedNum c false (floatedNum c w).word = some w := by
  obtain ⟨hflags, hvalue⟩ := value_of_encodes_integer hw (floatedNum_encodes hc w)
  rw [fixedNum_trunc hc, hvalue, Int.floor_intCast, Int.ceil_intCast, ite_self, fixed_signed]
  exact ⟨hflags, rfl⟩

/-- Settles O39: what is stored by `encodes1_packSingle_enc` and `encodes2_packDouble_enc` of the exact operation, FIX
and FIXR by `Scaled.trunc_eq` and `Scaled.roundHalfUp_eq`, the way back by `fixed_floated`. -/
theorem floatValues : Obligations.FloatValues := by
  intro c hc
  exact ⟨fun op rnd a b h => floatNum_encodes hc rnd h, fun rnd a b h => floatNum_noDivide hc rnd a h,
    fun op a b h => dfloatNum_encodes hc h, fun a b h => dfloatNum_noDivide hc a h, scaledNum_encodes hc,
    floatedNum_encodes hc, fun w => ⟨fixedNum_trunc hc w, fixedNum_rounded hc w⟩, fun w => fixed_floated hc⟩

end Sys2Proof.Machine
end

section
/-! SUPPORT. The shared operations of the string instructions, one equation each (43_extend.md section 1, R550,
R551). -/

namespace Sys2Proof.Machine

open Sys2Proof Sys2Proof.Statements

/-! ### Flag bits and lengths (R551) -/

theorem hasBit_twoPow {i : Nat} (hi : i < 36) (w : Word) : hasBit (BitVec.twoPow 36 i) w = w.getLsbD i := by
  rw [hasBit, BitVec.and_twoPow]
  cases w.getLsbD i with
  | false => rfl
  | true =>
    refine bne_iff_ne.mpr fun h => ?_
    rw [if_pos rfl] at h
    have hbit : (BitVec.twoPow 36 i).getLsbD i = false := by rw [h]; exact BitVec.getLsbD_zero
    simp [hi] at hbit

@[simp] theorem hasBit_sBit (w : Word) : hasBit sBit w = w.getLsbD 35 := hasBit_twoPow (i := 35) (by decide) w

@[simp] theorem hasBit_nBit (w : Word) : hasBit nBit w = w.getLsbD 34 := hasBit_twoPow (i := 34) (by decide) w

@[simp] theorem hasBit_mBit (w : Word) : hasBit mBit w = w.getLsbD 33 := hasBit_twoPow (i := 33) (by decide) w

@[simp] theorem withBit_sBit (v : Bool) (w : Word) : withBit sBit v w = setBit 35 v w := rfl

@[simp] theorem withBit_nBit (v : Bool) (w : Word) : withBit nBit v w = setBit 34 v w := rfl

@[simp] theorem withBit_mBit (v : Bool) (w : Word) : withBit mBit v w = setBit 33 v w := rfl

theorem strLen_lt (w : Word) : strLen w < 2 ^ 27 := (w.extractLsb' 0 27).isLt

@[simp] theorem strLen_withLen (w : Word) (n : Nat) : strLen (withLen w n) = n % 2 ^ 27 := by
  rw [strLen, withLen, BitVec.extractLsb'_append_eq_right, BitVec.toNat_ofNat]

@[simp] theorem withLen_withLen (w : Word) (n k : Nat) : withLen (withLen w n) k = withLen w k := by
  rw [withLen, withLen, BitVec.extractLsb'_append_eq_left, ← withLen]

/-- The flags of a length accumulator stand left of its length. -/
theorem getLsbD_withLen {i : Nat} (hi : 27 ≤ i) (hi2 : i < 36) (w : Word) (n : Nat) :
    (withLen w n).getLsbD i = w.getLsbD i := by
  rw [withLen, BitVec.getLsbD_append, if_neg (by omega), BitVec.getLsbD_extractLsb']
  simp [show i - 27 < 9 by omega, show 27 + (i - 27) = i by omega]

/-- The effect of a control code, whichever flag codes 2, 3, 6 and 7 act on (R551). -/
theorem tableEntry_act {neg : Word} {i : Nat} (h : ∀ v w, withBit neg v w = setBit i v w) (t : TableEntry) (w : Word) :
    t.act neg w = codeFlags t.code i w := by
  obtain ⟨code, val⟩ := t
  simp only [TableEntry.act, h, withBit_sBit, codeFlags]
  fin_cases code <;> rfl

/-! ### The numbers of the accumulators an operation uses (R550) -/

theorem acNum_add_three_one (ac : AcNum) : ac + 3 + 1 = ac + 4 := by
  rw [BitVec.add_assoc]
  rfl

/-! ### States -/

/-- The state with FPD clear, as a string instruction leaves it (R64). -/
def State.clearFpd (s : State) : State := { s with flags := { s.flags with fpd := false } }

@[simp] theorem clearFpd_pc (s : State) : s.clearFpd.pc = s.pc := rfl

@[simp] theorem clearFpd_mem (s : State) : s.clearFpd.mem = s.mem := rfl

@[simp] theorem clearFpd_flags (s : State) : s.clearFpd.flags = { s.flags with fpd := false } := rfl

@[simp] theorem ac_clearFpd (k : AcNum) (s : State) : s.clearFpd.ac k = s.ac k := rfl

@[simp] theorem ac_atByte (k : AcNum) (first : Bool) (s : State) : (atByte first s).ac k = s.ac k := by
  cases first <;> rfl

@[simp] theorem atByte_true (s : State) : atByte true s = s := rfl

section
variable {s s1 s2 s3 t : State} {ac : AcNum} {m : EaField} {e0 e1 : VAddr} {r : EaResult} {b v w : Word}

/-! ### E1 and the start of a sub-operation (R550) -/

theorem ac_after_eaIn {c : Ctx} (h : eaIn c m s = .ok r s1) (n : AcNum) : s1.ac n = s.ac n :=
  ((Frames.eaIn c m).ok h).ac n

theorem ac_after_loadByte (h : loadByte w s = .ok b s1) (n : AcNum) : s1.ac n = s.ac n :=
  ((Frames.loadByte w).ok h).ac n

theorem ac_after_read (h : rdE e1 s = .ok w s1) (n : AcNum) : s1.ac n = s.ac n := ((Frames.rdE e1).ok h).ac n

/-- Under the default `EXTEND_DETAIL` a sub-operation is what its rule says, with its E1. -/
theorem extSub_standard {sub : BitVec 9} {detail : VAddr → M Unit} (hc : s.cfg.extendDetail = .standard)
    (h : eaIn .cur m s = .ok r s1) : extSub sub ac e0 m detail s = detail r.addr s1 := by
  simp only [extSub, run_bind, h, run_getS, ((Frames.eaIn _ _).ok h).cfg, hc]

/-- An instruction that is such a sub-operation answers the state its rule ends in. -/
theorem exec_extSub {i : Instr} {sub : BitVec 9} {detail : VAddr → M Unit}
    (hi : ∀ s, exec i s = finish (extSub sub ac e0 m detail) s) (hc : s.cfg.extendDetail = .standard)
    (h : eaIn .cur m s = .ok r s1) (hd : detail r.addr s1 = .ok () t) : exec i s = .next t := by
  rw [hi]
  exact finish_of_ok ((extSub_standard hc h).trans hd)

/-! ### One byte (R551) -/

theorem strPoint_run {first : Bool} (h : first = true ∨ Quiet s) : strPoint first s = .ok () (atByte first s) := by
  cases first with
  | true => rfl
  | false =>
    obtain ⟨hpi, harr⟩ := h.resolve_left Bool.false_ne_true
    exact reenterIfPending_quiet (s := atByte false s) hpi harr

@[simp] theorem run_strEnd (skips : Bool) (s : State) :
    strEnd skips s = .ok () (if skips then s.clearFpd.setPc (s.pc + 1) else s.clearFpd) := by
  cases skips <;> rfl

theorem nextByte_run {n : AcNum} (h : loadByte (bpIncr (s.ac n)) s = .ok b t) :
    nextByte n s = .ok ⟨bpIncr (s.ac n), b⟩ t := by
  simp only [nextByte, run_bind, run_getAc, h, run_pure]

theorem storeNext_run {n : AcNum} (h : depositByte (bpIncr (s.ac n)) v s = .ok () t) :
    storeNext n v s = .ok (bpIncr (s.ac n)) t := by
  simp only [storeNext, run_bind, run_getAc, h, run_pure]

theorem tableEntry_run {h : Half} (hr : rdE (e1 + (b >>> 1).setWidth 18) s = .ok w t)
    (hh : h = if b.getLsbD 0 then rh w else lh w) :
    tableEntry e1 b s = .ok ⟨h.extractLsb' 15 3, h.extractLsb' 0 12⟩ t := by
  simp only [tableEntry, run_bind, hr, run_pure, hh]

end

end Sys2Proof.Machine
end

section
/-! SUPPORT. EXTEND: the dispatch on the extended instruction word (43_extend.md sections 1 and 4, R550, R568). -/

namespace Sys2Proof.Machine

open Sys2Proof Sys2Proof.Statements

section
variable {s s1 s2 t : State} {ac : AcNum} {m : EaField} {e0 : VAddr} {x : Word}

/-! ### EXTEND (R550, R568) -/

/-- Two operations that end alike make instructions that end alike. -/
theorem finish_congr {x y : M Unit} (h : x s = y t) : finish x s = finish y t := by
  rw [finish, h, ← finish]

/-- EXTEND is the dispatch on the word at E0. -/
theorem exec_extend (h1 : ea m s = .ok e0 s1) (h2 : vread .cur e0 s1 = .ok x s2) :
    exec (.extend ac m) s = finish (extendBody ac e0 x) s2 := by
  have hop : extendOp ac m s = extendBody ac e0 x s2 := by simp only [extendOp, run_bind, h1, h2]
  exact finish_congr hop

/-- The instruction an extended word decodes to is what the dispatch runs. -/
theorem exec_decodeExtended {i : Instr} (h : decodeExtended ac e0 x = some i) (s : State) :
    exec i s = finish (extendBody ac e0 x) s := by
  rw [decodeExtended] at h
  split at h
  case h_1 => cases h
  case h_2 n hn =>
    obtain ⟨f, hf, rfl⟩ := Option.map_eq_some_iff.mp h
    have hlt : n < 15 := (List.getElem?_eq_some_iff.mp hf).1
    rw [opField] at hn
    rw [extendBody, hn]
    interval_cases n <;> cases hf <;> rfl

/-- An undefined sub-opcode is the MUUO of the EXTEND (R568). -/
theorem extendBody_undefined (h : opField x = 0 ∨ 0o20 ≤ (opField x).toNat) :
    extendBody ac e0 x = muuoSeq 0o123 ac e0 := by
  rw [extendBody, ← opField]
  obtain h | h := h
  · rw [h]
    rfl
  · obtain ⟨n, hn⟩ := Nat.exists_eq_add_of_le' h
    rw [hn]
    rfl

end

/-- Settles O53: EXTEND is the dispatch on the word at E0 (`exec_extend`), which runs what the word decodes to
(`exec_decodeExtended`) or the MUUO (`extendBody_undefined`). -/
theorem extendForms : Obligations.ExtendForms := by
  refine ⟨?defined, ?undefined⟩
  case defined =>
    intro ac m s s1 s2 t e0 x i h1 h2 hi hexec
    rw [exec_extend h1 h2, ← exec_decodeExtended hi, hexec]
  case undefined =>
    intro ac m s s1 s2 e0 x h1 h2 hop
    rw [exec_extend h1 h2, extendBody_undefined hop]

end Sys2Proof.Machine
end

section
/-! SUPPORT. The string operations, given their loop over the bytes: the whole next state (43_extend.md sections 1 to 4,
R551 to R567). -/

namespace Sys2Proof.Machine

open Sys2Proof Sys2Proof.Statements

section
variable {s s1 s2 t : State} {ac : AcNum} {e0 e1 : VAddr} {f1 f2 : Word} {whole : Bool}

/-! ### The operations (R552, R556, R560 to R567) -/

theorem cmpsOp_run {c : Cond} {o : Ordering} (h1 : rdE (e0 + 1) s = .ok f1 s1) (h2 : rdE (e0 + 2) s1 = .ok f2 s2)
    (h3 : cmpsLoop f1 f2 ac (strLen (s2.ac ac) + strLen (s2.ac (ac + 3))) true s2 = .ok o t) :
    cmpsOp c ac e0 s = .ok () (if c.ofOrder o then t.clearFpd.setPc (t.pc + 1) else t.clearFpd) := by
  simp only [cmpsOp, run_bind, h1, h2, run_getAc, h3, run_strEnd]

theorem movsOp_run {tr : Word → Word → M Moved}
    (h : movsLoop tr (fun l1 _ => l1 == 0) ac e0 (strLen (s.ac ac) + strLen (s.ac (ac + 3))) true s = .ok whole t) :
    movsOp tr ac e0 s =
      .ok () (if whole = true ∧ strLen (t.ac ac) = 0 then t.clearFpd.setPc (t.pc + 1) else t.clearFpd) := by
  simp only [movsOp, run_bind, run_getAc, h, run_strEnd, Bool.and_eq_true, beq_iff_eq]

/-- MOVSRJ first loses the bytes a longer source has beyond the destination (R567). -/
theorem movsrjOp_run {l1 l2 : Nat} (hl1 : l1 = strLen (s.ac ac)) (hl2 : l2 = strLen (s.ac (ac + 3)))
    (hs : s1 = if l1 ≤ l2 then s
      else (s.setAc ac (withLen (s.ac ac) l2)).setAc (ac + 1) (bpIncr^[l1 - l2] (s.ac (ac + 1))))
    (h : movsLoop asIs (fun l1 l2 => l1 < l2) ac e0 (l1 + l2) (decide (l1 ≤ l2)) s1 = .ok whole t) :
    movsrjOp ac e0 s = .ok () (t.clearFpd.setPc (t.pc + 1)) := by
  have heq : (l1 - l2 == 0) = decide (l1 ≤ l2) := by
    rw [Bool.eq_iff_iff, beq_iff_eq, decide_eq_true_iff, Nat.sub_eq_zero_iff_le]
  have hne : (l1 - l2 != 0) = !decide (l1 ≤ l2) := congrArg not heq
  have hlose : (if !decide (l1 ≤ l2) then
      EStateM.Result.ok () ((s.setAc ac (withLen (s.ac ac) l2)).setAc (ac + 1) (bpIncr^[l1 - l2] (s.ac (ac + 1))))
      else .ok () s) = (.ok () s1 : EStateM.Result Abort State Unit) := by
    rw [hs]
    by_cases hle : l1 ≤ l2 <;> simp [hle]
  simp only [movsrjOp, run_bind, run_getAc, ← hl1, ← hl2, run_onlyIf, run_putAc2, hne, heq, hlose, h, run_strEnd,
    if_true]

theorem cvtdbOp_run {dg : Word → Word → M Digit} (h : cvtdbLoop dg ac (strLen (s.ac ac)) true s = .ok whole s1)
    (hr : (if whole && (s1.ac ac).getLsbD 34 then putResult ac (-dval (s1.ac (ac + 3)) (s1.ac (ac + 4))) s1
      else .ok () s1) = .ok () t) :
    cvtdbOp dg ac s = .ok () (if whole then t.clearFpd.setPc (t.pc + 1) else t.clearFpd) := by
  cases whole with
  | false =>
    cases hr
    simp only [cvtdbOp, run_bind, run_getAc, h, run_ite, Bool.false_eq_true, if_false, run_strEnd]
  | true =>
    rw [Bool.true_and] at hr
    simp only [cvtdbOp, run_bind, run_getAc, h, run_ite, if_true, run_onlyIf, hasBit_nBit, hr, run_strEnd]

section
variable {dg : Nat → M Word} {len : Word} {v : Int} {ds : List Nat}

/-- N is set first, whatever becomes of the conversion (log entry 24). -/
theorem cvtbdOp_eq (hv : v = dval (s.ac ac) (s.ac (ac + 1))) (hlen : len = s.ac (ac + 3))
    (hs : s1 = s.setAc (ac + 3) (if v < 0 then len ||| 0o200000000000 else len))
    (hds : ds = digitsToStore s.flags.fpd (len.getLsbD 35) (strLen len) v.natAbs) :
    cvtbdOp dg ac s = (if strLen len < ds.length then strEnd false
      else storeDigits dg ac (len.getLsbD 35) (decide (v < 0)) ds true >>= fun _ => strEnd true) s1 := by
  subst hs hds hv hlen
  simp only [cvtbdOp, run_bind, run_getAc, run_getS, run_putAc, hasBit_sBit]
  rfl

theorem cvtbdOp_tooLong (hv : v = dval (s.ac ac) (s.ac (ac + 1))) (hlen : len = s.ac (ac + 3))
    (hs : s1 = s.setAc (ac + 3) (if v < 0 then len ||| 0o200000000000 else len))
    (hds : ds = digitsToStore s.flags.fpd (len.getLsbD 35) (strLen len) v.natAbs) (h : strLen len < ds.length) :
    cvtbdOp dg ac s = .ok () s1.clearFpd := by
  rw [cvtbdOp_eq hv hlen hs hds, if_pos h, run_strEnd, if_neg Bool.false_ne_true]

theorem cvtbdOp_fits (hv : v = dval (s.ac ac) (s.ac (ac + 1))) (hlen : len = s.ac (ac + 3))
    (hs : s1 = s.setAc (ac + 3) (if v < 0 then len ||| 0o200000000000 else len))
    (hds : ds = digitsToStore s.flags.fpd (len.getLsbD 35) (strLen len) v.natAbs) (h : ds.length ≤ strLen len)
    (hst : storeDigits dg ac (len.getLsbD 35) (decide (v < 0)) ds true s1 = .ok () t) :
    cvtbdOp dg ac s = .ok () (t.clearFpd.setPc (t.pc + 1)) := by
  rw [cvtbdOp_eq hv hlen hs hds, if_neg (by omega), run_bind, hst]
  exact run_strEnd true t

end

theorem editOp_run {stopped : Bool} (h : editLoop ac e0 e1 (2 ^ 20) true s = .ok stopped t) :
    editOp ac e0 e1 s = .ok () (if stopped then t.clearFpd.setPc (t.pc + 1) else t.clearFpd) := by
  simp only [editOp, run_bind, h, run_strEnd]

end

/-! ### The tables of instructions -/

/-- A string compare is CMPS with the condition of its row (R553 to R559). -/
theorem exec_compareStrings : ∀ p ∈ compareStrings, ∃ (sub : BitVec 9) (c : Cond), (∀ o, c.ofOrder o = true ↔ p.2 o) ∧
    ∀ (ac : AcNum) (e0 : VAddr) (m : EaField) (s : State),
      exec (p.1 ac e0 m) s = finish (extSub sub ac e0 m fun _ => cmpsOp c ac e0) s := by
  simp only [compareStrings, List.forall_mem_cons, List.not_mem_nil, false_imp_iff, implies_true, and_true]
  refine ⟨⟨_, .lt, ?_, fun _ _ _ _ => rfl⟩, ⟨_, .eq, ?_, fun _ _ _ _ => rfl⟩, ⟨_, .le, ?_, fun _ _ _ _ => rfl⟩,
    ⟨_, .ge, ?_, fun _ _ _ _ => rfl⟩, ⟨_, .ne, ?_, fun _ _ _ _ => rfl⟩, ⟨_, .gt, ?_, fun _ _ _ _ => rfl⟩⟩ <;>
    simp [Cond.ofOrder]

theorem exec_moveStrings : ∀ p ∈ moveStrings, ∃ sub : BitVec 9, ∀ (ac : AcNum) (e0 : VAddr) (m : EaField) (s : State),
    exec (p.1 ac e0 m) s = finish (extSub sub ac e0 m fun e1 => movsOp (p.2 e1) ac e0) s := by
  intro p hp
  fin_cases hp <;> exact ⟨_, fun _ _ _ _ => rfl⟩

theorem exec_toBinaryStrings : ∀ p ∈ toBinaryStrings, ∃ sub : BitVec 9,
    ∀ (ac : AcNum) (e0 : VAddr) (m : EaField) (s : State),
      exec (p.1 ac e0 m) s = finish (extSub sub ac e0 m fun e1 => cvtdbOp (p.2 e1) ac) s := by
  intro p hp
  fin_cases hp <;> exact ⟨_, fun _ _ _ _ => rfl⟩

theorem exec_toDecimalStrings : ∀ p ∈ toDecimalStrings, ∃ sub : BitVec 9,
    ∀ (ac : AcNum) (e0 : VAddr) (m : EaField) (s : State),
      exec (p.1 ac e0 m) s = finish (extSub sub ac e0 m fun e1 => cvtbdOp (p.2 e1) ac) s := by
  intro p hp
  fin_cases hp <;> exact ⟨_, fun _ _ _ _ => rfl⟩

/-! ### The instructions: the state each ends in -/

section
variable {s s1 s2 s3 t : State} {ac : AcNum} {m : EaField} {e0 : VAddr} {r : EaResult} {whole : Bool}

theorem exec_compareString {p : (AcNum → VAddr → EaField → Instr) × (Ordering → Prop)} (hp : p ∈ compareStrings)
    {f1 f2 : Word} {o : Ordering} (hc : s.cfg.extendDetail = .standard) (h : eaIn .cur m s = .ok r s1)
    (h1 : rdE (e0 + 1) s1 = .ok f1 s2) (h2 : rdE (e0 + 2) s2 = .ok f2 s3)
    (h3 : cmpsLoop f1 f2 ac (strLen (s3.ac ac) + strLen (s3.ac (ac + 3))) true s3 = .ok o t) :
    (p.2 o → exec (p.1 ac e0 m) s = .next (t.clearFpd.setPc (t.pc + 1))) ∧
    (¬ p.2 o → exec (p.1 ac e0 m) s = .next t.clearFpd) := by
  obtain ⟨sub, c, hcond, hexec⟩ := exec_compareStrings p hp
  have hrun := exec_extSub (hexec ac e0 m) hc h (cmpsOp_run h1 h2 h3)
  rw [hrun, ← hcond]
  exact ⟨fun ho => by rw [if_pos ho], fun ho => by rw [if_neg ho]⟩

theorem exec_moveString {p : (AcNum → VAddr → EaField → Instr) × (VAddr → Word → Word → M Moved)} (hp : p ∈ moveStrings)
    (hc : s.cfg.extendDetail = .standard) (h : eaIn .cur m s = .ok r s1)
    (h1 : movsLoop (p.2 r.addr) (fun l1 _ => l1 == 0) ac e0 (strLen (s1.ac ac) + strLen (s1.ac (ac + 3))) true s1 =
      .ok whole t) :
    exec (p.1 ac e0 m) s =
      .next (if whole = true ∧ strLen (t.ac ac) = 0 then t.clearFpd.setPc (t.pc + 1) else t.clearFpd) := by
  obtain ⟨sub, hexec⟩ := exec_moveStrings p hp
  exact exec_extSub (hexec ac e0 m) hc h (movsOp_run h1)

theorem exec_movsrj {l1 l2 : Nat} (hc : s.cfg.extendDetail = .standard) (h : eaIn .cur m s = .ok r s1)
    (hl1 : l1 = strLen (s1.ac ac)) (hl2 : l2 = strLen (s1.ac (ac + 3)))
    (hs : s2 = if l1 ≤ l2 then s1
      else (s1.setAc ac (withLen (s1.ac ac) l2)).setAc (ac + 1) (bpIncr^[l1 - l2] (s1.ac (ac + 1))))
    (h1 : movsLoop asIs (fun l1 l2 => l1 < l2) ac e0 (l1 + l2) (decide (l1 ≤ l2)) s2 = .ok whole t) :
    exec (.movsrj ac e0 m) s = .next (t.clearFpd.setPc (t.pc + 1)) :=
  exec_extSub (i := .movsrj ac e0 m) (fun _ => rfl) hc h (movsrjOp_run hl1 hl2 hs h1)

theorem exec_toBinaryString {p : (AcNum → VAddr → EaField → Instr) × (VAddr → Word → Word → M Digit)}
    (hp : p ∈ toBinaryStrings) (hc : s.cfg.extendDetail = .standard) (h : eaIn .cur m s = .ok r s1)
    (h1 : cvtdbLoop (p.2 r.addr) ac (strLen (s1.ac ac)) true s1 = .ok whole s2)
    (h2 : (if whole && (s2.ac ac).getLsbD 34 then putResult ac (-dval (s2.ac (ac + 3)) (s2.ac (ac + 4))) s2
      else .ok () s2) = .ok () t) :
    exec (p.1 ac e0 m) s = .next (if whole then t.clearFpd.setPc (t.pc + 1) else t.clearFpd) := by
  obtain ⟨sub, hexec⟩ := exec_toBinaryStrings p hp
  exact exec_extSub (hexec ac e0 m) hc h (cvtdbOp_run h1 h2)

/-- A conversion to decimal ends with only N changed when the string is too short, and else stores its digits. -/
theorem exec_toDecimalString {p : (AcNum → VAddr → EaField → Instr) × (VAddr → Nat → M Word)}
    (hp : p ∈ toDecimalStrings) {v : Int} {len : Word} {ds : List Nat} (hc : s.cfg.extendDetail = .standard)
    (h : eaIn .cur m s = .ok r s1) (hv : v = dval (s1.ac ac) (s1.ac (ac + 1))) (hlen : len = s1.ac (ac + 3))
    (hs : s2 = s1.setAc (ac + 3) (if v < 0 then len ||| 0o200000000000 else len))
    (hds : ds = digitsToStore s.flags.fpd (len.getLsbD 35) (strLen len) v.natAbs) :
    (strLen len < ds.length → exec (p.1 ac e0 m) s = .next s2.clearFpd) ∧
    ∀ t : State, ds.length ≤ strLen len →
      storeDigits (p.2 r.addr) ac (len.getLsbD 35) (decide (v < 0)) ds true s2 = .ok () t →
      exec (p.1 ac e0 m) s = .next (t.clearFpd.setPc (t.pc + 1)) := by
  obtain ⟨sub, hexec⟩ := exec_toDecimalStrings p hp
  rw [← ((Frames.eaIn _ _).ok h).flags] at hds
  exact ⟨fun hlong => exec_extSub (hexec ac e0 m) hc h (cvtbdOp_tooLong hv hlen hs hds hlong),
    fun t hfits hst => exec_extSub (hexec ac e0 m) hc h (cvtbdOp_fits hv hlen hs hds hfits hst)⟩

theorem exec_edit {stopped : Bool} (hc : s.cfg.extendDetail = .standard) (h : eaIn .cur m s = .ok r s1)
    (h1 : editLoop ac e0 r.addr (2 ^ 20) true s1 = .ok stopped t) :
    exec (.edit ac e0 m) s = .next (if stopped then t.clearFpd.setPc (t.pc + 1) else t.clearFpd) :=
  exec_extSub (i := .edit ac e0 m) (fun _ => rfl) hc h (editOp_run h1)

end

/-- Settles O54: each instruction is its operation with E1, which ends in the state the lemmas above give. -/
theorem stringForms : Obligations.StringForms := by
  refine ⟨?compare, ?move, ?movsrj, ?toBinary, ?toDecimal, ?edit⟩
  case compare =>
    rintro p hp ac e0 m s s1 s2 s3 s4 t r f1 f2 o hc h h1 h2 h3 rfl
    exact exec_compareString hp hc h h1 h2 h3
  case move =>
    rintro p hp ac e0 m s s1 s2 t r whole hc h h1 rfl
    exact exec_moveString hp hc h h1
  case movsrj =>
    rintro ac e0 m s s1 s2 s3 t r whole l1 l2 hc h hl1 hl2 hs h1 rfl
    exact exec_movsrj hc h hl1 hl2 hs h1
  case toBinary =>
    rintro p hp ac e0 m s s1 s2 s3 t r whole hc h h1 h2 rfl
    exact exec_toBinaryString hp hc h h1 h2
  case toDecimal =>
    intro p hp ac e0 m s s1 s2 r v len ds hc h hv hlen hs hds
    exact exec_toDecimalString hp hc h hv hlen hs hds
  case edit =>
    rintro ac e0 m s s1 s2 t r stopped hc h h1 rfl
    exact exec_edit hc h h1

end Sys2Proof.Machine
end

section
/-! SUPPORT. EDIT: the pattern pointer, the turn of the loop and the pattern operators (43_extend.md section 2, R551,
R556). -/

namespace Sys2Proof.Machine

open Sys2Proof Sys2Proof.Statements

/-! ### The pattern pointer (R556) -/

/-- Bits side by side as a number. -/
theorem toNat_append_add {i j : Nat} (x : BitVec i) (y : BitVec j) : (x ++ y).toNat = x.toNat * 2 ^ j + y.toNat := by
  rw [BitVec.toNat_append, ← Nat.shiftLeft_add_eq_or_of_lt y.isLt, Nat.shiftLeft_eq]

theorem patPlace_eq (a : Word) : patPlace a = (rh a ++ a.extractLsb' 30 2).toNat := by
  rw [patPlace, toNat_append_add, Nat.mul_comm]
  rfl

/-- A pointer whose word and byte number are the fields of `p` points at place `p`. -/
theorem patPlace_fields (x : BitVec 4) (z : BitVec 12) (p : BitVec 20) :
    patPlace (x ++ p.extractLsb' 0 2 ++ z ++ p.extractLsb' 2 18) = p.toNat := by
  have hword : rh (x ++ p.extractLsb' 0 2 ++ z ++ p.extractLsb' 2 18) = p.extractLsb' 2 18 :=
    BitVec.extractLsb'_append_eq_right
  have hbyte : (x ++ p.extractLsb' 0 2 ++ z ++ p.extractLsb' 2 18 : Word).extractLsb' 30 2 = p.extractLsb' 0 2 := by
    rw [BitVec.extractLsb'_append_eq_of_le (by decide), BitVec.extractLsb'_append_eq_of_le (by decide),
      BitVec.extractLsb'_append_eq_right]
  have hlt := p.isLt
  rw [patPlace, hword, hbyte, BitVec.extractLsb'_toNat, BitVec.extractLsb'_toNat, Nat.shiftRight_eq_div_pow]
  omega

theorem patPlace_patNext (a : Word) (n : Nat) : patPlace (patNext a n) = (patPlace a + n) % 2 ^ 20 := by
  rw [patNext, patPlace_fields, BitVec.toNat_add, ← patPlace_eq, BitVec.toNat_ofNat, Nat.add_mod_mod]

theorem patNext_flags (a : Word) (n : Nat) : (patNext a n).extractLsb' 32 4 = a.extractLsb' 32 4 := by
  rw [patNext, BitVec.extractLsb'_append_eq_of_le (by decide), BitVec.extractLsb'_append_eq_of_le (by decide),
    BitVec.extractLsb'_append_eq_left]

theorem patNext_middle (a : Word) (n : Nat) : (patNext a n).extractLsb' 18 12 = a.extractLsb' 18 12 := by
  rw [patNext, BitVec.extractLsb'_append_eq_of_le (by decide), BitVec.extractLsb'_append_eq_right]

/-! ### The turn of the loop: the pattern byte read, and what it selects -/

section
variable {s s1 s2 t u : State} {ac : AcNum} {e0 e1 : VAddr} {a w : Word}

section
variable {k : Nat} {first : Bool}

/-- A turn reads the word the pattern pointer names. -/
theorem editLoop_read (hq : first = true ∨ Quiet s) (ha : a = s.ac ac) (hr : rdE (rh a) (atByte first s) = .ok w s1) :
    editLoop ac e0 e1 (k + 1) first s = (if patByte a w = 0 then putAc ac (patNext a 1) >>= fun _ => pure true
      else if patByte a w = 1 then
        editSelect ac e0 e1 a >>= fun go => if go then editLoop ac e0 e1 k false else pure false
      else editPlain ac e0 a (patByte a w) >>= fun _ => editLoop ac e0 e1 k false) s1 := by
  subst ha
  simp only [editLoop, run_bind, strPoint_run hq, run_getAc, ac_atByte, hr]

theorem editLoop_stop (hq : first = true ∨ Quiet s) (ha : a = s.ac ac) (hr : rdE (rh a) (atByte first s) = .ok w s1)
    (hp : patByte a w = 0) : editLoop ac e0 e1 (k + 1) first s = .ok true (s1.setAc ac (patNext a 1)) := by
  rw [editLoop_read hq ha hr, if_pos hp]
  rfl

theorem editLoop_select {go : Bool} (hq : first = true ∨ Quiet s) (ha : a = s.ac ac)
    (hr : rdE (rh a) (atByte first s) = .ok w s1) (hp : patByte a w = 1) (h : editSelect ac e0 e1 a s1 = .ok go t) :
    editLoop ac e0 e1 (k + 1) first s = if go then editLoop ac e0 e1 k false t else .ok false t := by
  rw [editLoop_read hq ha hr, hp, if_neg (by decide), if_pos rfl, run_bind, h]
  exact run_ite (go = true) _ _ t

theorem editLoop_plain (hq : first = true ∨ Quiet s) (ha : a = s.ac ac) (hr : rdE (rh a) (atByte first s) = .ok w s1)
    (hp : 2 ≤ (patByte a w).toNat) (h : editPlain ac e0 a (patByte a w) s1 = .ok () t) :
    editLoop ac e0 e1 (k + 1) first s = editLoop ac e0 e1 k false t := by
  have h0 : patByte a w ≠ 0 := fun h0 => by rw [h0] at hp; exact absurd hp (by decide)
  have h1 : patByte a w ≠ 1 := fun h1 => by rw [h1] at hp; exact absurd hp (by decide)
  rw [editLoop_read hq ha hr, if_neg h0, if_neg h1, run_bind, h]

end

/-! ### Bytes stored -/

theorem editStore_run {v : Word} (h : depositByte (bpIncr (s.ac (ac + 4))) v s = .ok () t) :
    editStore ac v s = .ok () (t.setAc (ac + 4) (bpIncr (s.ac (ac + 4)))) := by
  simp only [editStore, run_bind, storeNext_run h, run_putAc]

/-- The fill and the float character are not stored when their word is 0. -/
theorem editUnlessZero_run {f : Word} (hr : rdE e1 s = .ok f s1)
    (h : if f = 0 then u = s1 else ∃ v, depositByte (bpIncr (s1.ac (ac + 4))) f s1 = .ok () v ∧
      u = v.setAc (ac + 4) (bpIncr (s1.ac (ac + 4)))) :
    editUnlessZero ac e1 s = .ok () u := by
  by_cases hf : f = 0
  · rw [if_pos hf] at h
    simp only [editUnlessZero, run_bind, hr, run_onlyIf, hf, h, bne_self_eq_false, Bool.false_eq_true, if_false]
  · rw [if_neg hf] at h
    obtain ⟨v, hv, rfl⟩ := h
    simp only [editUnlessZero, run_bind, hr, run_onlyIf, bne_iff_ne.mpr hf, if_true, editStore_run hv]

/-! ### SELECT -/

section
variable {b bp src : Word} {h : Half} {code : BitVec 3}

theorem editSelect_aborts (hs : src = s.ac (ac + 1)) (hb : loadByte (bpIncr src) s = .ok b s1)
    (hr : rdE (e1 + (b >>> 1).setWidth 18) s1 = .ok w s2) (hh : h = if b.getLsbD 0 then rh w else lh w)
    (hcode : code = h.extractLsb' 15 3) (hc : code = 1 ∨ code = 5) :
    editSelect ac e0 e1 a s = .ok false ((s2.setAc ac (patNext a 1)).setAc (ac + 1) (bpIncr src)) := by
  subst hs hcode
  have habort : TableEntry.aborts ⟨h.extractLsb' 15 3, h.extractLsb' 0 12⟩ = true := by
    simpa only [TableEntry.aborts, Bool.or_eq_true, beq_iff_eq] using hc
  simp only [editSelect, run_bind, nextByte_run hb, tableEntry_run hr hh, habort, run_ite, if_true, run_putAc2,
    run_pure]

/-- SELECT of a byte the table does not end at: the byte or the fill is stored, and the accumulators move. -/
theorem editSelect_goes (hs : src = s.ac (ac + 1)) (hb : loadByte (bpIncr src) s = .ok b s1)
    (hr : rdE (e1 + (b >>> 1).setWidth 18) s1 = .ok w s2) (hh : h = if b.getLsbD 0 then rh w else lh w)
    (hcode : code = h.extractLsb' 15 3) (h1 : code ≠ 1) (h5 : code ≠ 5)
    (hst : (if (codeFlags code 33 a).getLsbD 35 then editStore ac ((h.extractLsb' 0 12).setWidth 36)
      else editUnlessZero ac (e0 + 1)) s2 = .ok () t) :
    editSelect ac e0 e1 a s =
      .ok true ((t.setAc ac (patNext (codeFlags code 33 a) 1)).setAc (ac + 1) (bpIncr src)) := by
  subst hs hcode
  have habort : TableEntry.aborts ⟨h.extractLsb' 15 3, h.extractLsb' 0 12⟩ = false := by
    simp only [TableEntry.aborts, beq_eq_false_iff_ne.mpr h1, beq_eq_false_iff_ne.mpr h5, Bool.or_self]
  rw [run_ite] at hst
  simp only [editSelect, run_bind, nextByte_run hb, tableEntry_run hr hh, habort, run_ite, Bool.false_eq_true, if_false,
    tableEntry_act withBit_mBit, hasBit_sBit]
  by_cases hsig : (codeFlags (h.extractLsb' 15 3) 33 a).getLsbD 35 = true
  · rw [if_pos hsig] at hst ⊢
    simp only [hst, run_putAc2, run_pure]
  · rw [if_neg hsig] at hst ⊢
    simp only [hst, run_putAc2, run_pure]

end

/-! ### SIGST, FLDSEP and EXCHMD -/

theorem editPlain_sigst_set (h : a.getLsbD 35 = true) :
    editPlain ac e0 a 2 s = .ok () (s.setAc ac (patNext (setBit 35 true a) 1)) := by
  have hop : editPlain ac e0 a 2 = editSigst ac e0 a := rfl
  simp only [hop, editSigst, run_bind, run_getAc, run_onlyIf, hasBit_sBit, h, Bool.not_true, Bool.false_eq_true,
    if_false, run_putAc, withBit_sBit]

theorem editPlain_sigst_clear {f : Word} (h : a.getLsbD 35 = false)
    (hw : wrE (rh (s.ac (ac + 3))) (s.ac (ac + 4)) s = .ok () s1) (hr : rdE (e0 + 2) s1 = .ok f s2)
    (hu : if f = 0 then u = s2 else ∃ v, depositByte (bpIncr (s2.ac (ac + 4))) f s2 = .ok () v ∧
      u = v.setAc (ac + 4) (bpIncr (s2.ac (ac + 4)))) :
    editPlain ac e0 a 2 s = .ok () (u.setAc ac (patNext (setBit 35 true a) 1)) := by
  have hop : editPlain ac e0 a 2 = editSigst ac e0 a := rfl
  simp only [hop, editSigst, run_bind, run_getAc, run_onlyIf, hasBit_sBit, h, Bool.not_false, if_true, hw,
    editUnlessZero_run hr hu, run_putAc, withBit_sBit]

theorem editPlain_fldsep (s : State) : editPlain ac e0 a 3 s =
    .ok () (s.setAc ac (patNext (setBit 35 false (setBit 34 false (setBit 33 false a))) 1)) := rfl

theorem editPlain_exchmd (s : State) : editPlain ac e0 a 4 s =
    .ok () (((s.setAc (ac + 3) (s.ac (ac + 4))).setAc (ac + 4) (s.ac (ac + 3))).setAc ac (patNext a 1)) := by
  have hop : editPlain ac e0 a 4 = editExchmd ac a := rfl
  simp only [hop, editExchmd, run_bind, run_getAc, run_putAc2, run_putAc, acNum_add_three_one]

/-! ### The operators with a number: a group of three bits and a number of six -/

/-- A pattern byte of 0o100 up, or 0 and a number of 5 up, is none of the operators before it. -/
theorem patGroup_ne {c : BitVec 3} {n : Nat} (hn : n < 64) (hc : c ≠ 0 ∨ 5 ≤ n) {q : BitVec 9} (hq : q.toNat < 5) :
    c ++ BitVec.ofNat 6 n ≠ q := by
  intro h
  have hval := congrArg BitVec.toNat h
  rw [toNat_append_add, BitVec.toNat_ofNat] at hval
  obtain hc | hc := hc
  · have hpos : c.toNat ≠ 0 := fun h0 => hc (BitVec.eq_of_toNat_eq h0)
    omega
  · omega

theorem patGroup_add (c : BitVec 3) {n : Nat} (hn : n < 64) :
    c ++ (0 : BitVec 6) + BitVec.ofNat 9 n = c ++ BitVec.ofNat 6 n := by
  apply BitVec.eq_of_toNat_eq
  have hc := c.isLt
  rw [BitVec.toNat_add, toNat_append_add, toNat_append_add]
  simp only [BitVec.ofNat_eq_ofNat, BitVec.toNat_ofNat]
  omega

/-- What an operator with a number does: MESSAG stores a byte; SKPM, SKPN and SKPA move the pattern pointer, and a code
that does nothing moves it by one. -/
theorem editPlain_group {c : BitVec 3} {p : BitVec 9} {n : Nat} (hp : p = c ++ (0 : BitVec 6)) (hn : n < 64)
    (hc : c ≠ 0 ∨ 5 ≤ n) :
    editPlain ac e0 a (p + BitVec.ofNat 9 n) =
      if c = 1 then (rdE (e0 + (if a.getLsbD 35 then BitVec.ofNat 18 (n + 2) else 1)) >>= fun f =>
        editStore ac f >>= fun _ => putAc ac (patNext a 1))
      else if c = 5 then putAc ac (patNext a (if a.getLsbD 33 then n + 2 else 1))
      else if c = 6 then putAc ac (patNext a (if a.getLsbD 34 then n + 2 else 1))
      else if c = 7 then putAc ac (patNext a (n + 2))
      else putAc ac (patNext a 1) := by
  have hgroup : (c ++ BitVec.ofNat 6 n).extractLsb' 6 3 = c := BitVec.extractLsb'_append_eq_left
  have hnum : ((c ++ BitVec.ofNat 6 n).extractLsb' 0 6).toNat = n := by
    rw [BitVec.extractLsb'_append_eq_right, BitVec.toNat_ofNat, Nat.mod_eq_of_lt hn]
  rw [hp, patGroup_add c hn, editPlain, if_neg (patGroup_ne hn hc (by decide)), if_neg (patGroup_ne hn hc (by decide)),
    if_neg (patGroup_ne hn hc (by decide))]
  simp only [hgroup, hnum, hasBit_sBit, hasBit_mBit, hasBit_nBit, if_true]

theorem editPlain_messag {n : Nat} {f : Word} (hn : n < 64)
    (hr : rdE (e0 + (if a.getLsbD 35 then BitVec.ofNat 18 (n + 2) else 1)) s = .ok f s1)
    (hd : depositByte (bpIncr (s1.ac (ac + 4))) f s1 = .ok () s2) : editPlain ac e0 a (0o100 + BitVec.ofNat 9 n) s =
      .ok () ((s2.setAc (ac + 4) (bpIncr (s1.ac (ac + 4)))).setAc ac (patNext a 1)) := by
  rw [editPlain_group (c := 1) (p := 0o100) rfl hn (.inl (by decide)), if_pos rfl]
  simp only [run_bind, hr, editStore_run hd, run_putAc]

theorem editPlain_skpm {n : Nat} (hn : n < 64) (s : State) : editPlain ac e0 a (0o500 + BitVec.ofNat 9 n) s =
    .ok () (s.setAc ac (patNext a (if a.getLsbD 33 then n + 2 else 1))) := by
  rw [editPlain_group (c := 5) (p := 0o500) rfl hn (.inl (by decide)), if_neg (by decide), if_pos rfl, run_putAc]

theorem editPlain_skpn {n : Nat} (hn : n < 64) (s : State) : editPlain ac e0 a (0o600 + BitVec.ofNat 9 n) s =
    .ok () (s.setAc ac (patNext a (if a.getLsbD 34 then n + 2 else 1))) := by
  rw [editPlain_group (c := 6) (p := 0o600) rfl hn (.inl (by decide)), if_neg (by decide), if_neg (by decide),
    if_pos rfl, run_putAc]

theorem editPlain_skpa {n : Nat} (hn : n < 64) (s : State) : editPlain ac e0 a (0o700 + BitVec.ofNat 9 n) s =
    .ok () (s.setAc ac (patNext a (n + 2))) := by
  rw [editPlain_group (c := 7) (p := 0o700) rfl hn (.inl (by decide)), if_neg (by decide), if_neg (by decide),
    if_neg (by decide), if_pos rfl, run_putAc]

/-- The codes without a meaning: 5 to 0o77 and the groups 2, 3 and 4. -/
theorem editPlain_nothing {c : BitVec 3} {p : BitVec 9} {n : Nat} (hp : p = c ++ (0 : BitVec 6)) (hn : n < 64)
    (hc : c = 0 ∧ 5 ≤ n ∨ c ∈ [(2 : BitVec 3), 3, 4]) (s : State) :
    editPlain ac e0 a (p + BitVec.ofNat 9 n) s = .ok () (s.setAc ac (patNext a 1)) := by
  have hgroup : (c ≠ 0 ∨ 5 ≤ n) ∧ c ≠ 1 ∧ c ≠ 5 ∧ c ≠ 6 ∧ c ≠ 7 := by
    obtain ⟨rfl, h5⟩ | hmem := hc
    · exact ⟨.inr h5, by decide⟩
    · fin_cases hmem <;> exact ⟨.inl (by decide), by decide⟩
  obtain ⟨hc0, h1, h5, h6, h7⟩ := hgroup
  rw [editPlain_group hp hn hc0, if_neg h1, if_neg h5, if_neg h6, if_neg h7, run_putAc]

end

/-- Settles O56: the pointer by its place (`patPlace_patNext`), a turn of the loop by the pattern byte read, SELECT by
whether the table ends EDIT, the other operators each by its own lemma. -/
theorem editSteps : Obligations.EditSteps := by
  refine ⟨fun a n => ⟨patPlace_patNext a n, patNext_flags a n, patNext_middle a n⟩, ?turn, ?select, ?plain⟩
  case turn =>
    rintro ac e0 e1 k first s s1 a w p hq ha hr rfl
    exact ⟨editLoop_stop hq ha hr, fun go t => editLoop_select hq ha hr, fun t => editLoop_plain hq ha hr⟩
  case select =>
    rintro ac e0 e1 s s1 s2 a b w bp src h code hs hb hr hh hcode rfl
    refine ⟨editSelect_aborts hs hb hr hh hcode, ?stored, ?filled⟩
    case stored =>
      intro h1 h5 hsig t hd
      exact editSelect_goes hs hb hr hh hcode h1 h5 (by rw [if_pos hsig]; exact editStore_run hd)
    case filled =>
      intro h1 h5 hsig fill t u hf hu
      refine editSelect_goes hs hb hr hh hcode h1 h5 ?_
      rw [hsig, if_neg Bool.false_ne_true]
      refine editUnlessZero_run hf ?_
      by_cases h0 : fill = 0
      · rwa [if_pos h0] at hu ⊢
      · rw [if_neg h0] at hu ⊢
        obtain ⟨v, hbp, hd, huv⟩ := hu
        exact ⟨v, hbp ▸ hd, hbp ▸ huv⟩
  case plain =>
    intro ac e0 s a
    refine ⟨editPlain_sigst_set, fun f s1 s2 u => editPlain_sigst_clear, editPlain_fldsep s, editPlain_exchmd s,
      fun n hn => ⟨fun f s1 s2 => editPlain_messag hn, editPlain_skpm hn s, editPlain_skpn hn s, editPlain_skpa hn s,
        ?low, ?groups⟩⟩
    case low =>
      intro h5
      rw [← BitVec.zero_add (BitVec.ofNat 9 n)]
      exact editPlain_nothing (c := 0) rfl hn (.inl ⟨rfl, h5⟩) s
    case groups =>
      intro q hq
      have hfields : ∃ c ∈ [(2 : BitVec 3), 3, 4], q = c ++ (0 : BitVec 6) := by
        fin_cases hq
        exacts [⟨2, by decide⟩, ⟨3, by decide⟩, ⟨4, by decide⟩]
      obtain ⟨c, hc, hqc⟩ := hfields
      exact editPlain_nothing hqc hn (.inr hc) s

end Sys2Proof.Machine
end

section
/-! SUPPORT. One byte of the string compares and moves (43_extend.md sections 1 to 3, R551, R552, R564 to R567). -/

namespace Sys2Proof.Machine

open Sys2Proof Sys2Proof.Statements

section
variable {s s1 s2 s3 t : State} {ac : AcNum} {e0 e1 : VAddr} {k : Nat} {first : Bool} {a b p q : Word}

/-! ### Compare (R552) -/

/-- The next byte, or the fill when no byte is left. -/
theorem byteOrFill_run {n : AcNum} {f x p' : Word} (hp : p = s.ac n)
    (h : if strLen a = 0 then x = f &&& BitVec.ofNat 36 (2 ^ bpS p - 1) ∧ p' = p ∧ t = s
      else loadByte (bpIncr p) s = .ok x t ∧ p' = bpIncr p) :
    byteOrFill (strLen a != 0) n f s = .ok ⟨p', x⟩ t ∧ SameRegisters s t := by
  by_cases ha : strLen a = 0
  · rw [if_pos ha] at h
    obtain ⟨rfl, rfl, rfl⟩ := h
    refine ⟨?_, SameRegisters.refl _⟩
    simp only [byteOrFill, ha, bne_self_eq_false, Bool.false_eq_true, if_false, run_bind, run_getAc, run_pure, hp,
      sizeMask]
  · rw [if_neg ha] at h
    obtain ⟨hb, rfl⟩ := h
    refine ⟨?_, (Frames.loadByte _).ok hb⟩
    subst hp
    rw [byteOrFill, bne_iff_ne.mpr ha, if_pos rfl, nextByte_run hb]

theorem compare_of_ne {x y : Word} (h : x ≠ y) : compare x.toNat y.toNat = if x.toNat < y.toNat then .lt else .gt := by
  rw [Nat.compare_eq_ite_lt]
  have : x.toNat ≠ y.toNat := fun he => h (BitVec.eq_of_toNat_eq he)
  split
  · rfl
  · rw [if_pos (by omega)]

theorem cmpsLoop_byte {f1 f2 x y p' q' : Word} (ha : a = s.ac ac) (hp : p = s.ac (ac + 1)) (hb : b = s.ac (ac + 3))
    (hq : q = s.ac (ac + 4)) (hne : ¬ (strLen a = 0 ∧ strLen b = 0)) (hquiet : first = true ∨ Quiet s)
    (hx : if strLen a = 0 then x = f1 &&& BitVec.ofNat 36 (2 ^ bpS p - 1) ∧ p' = p ∧ s1 = atByte first s
      else loadByte (bpIncr p) (atByte first s) = .ok x s1 ∧ p' = bpIncr p)
    (hy : if strLen b = 0 then y = f2 &&& BitVec.ofNat 36 (2 ^ bpS q - 1) ∧ q' = q ∧ s2 = s1
      else loadByte (bpIncr q) s1 = .ok y s2 ∧ q' = bpIncr q)
    (ht : t = (((s2.setAc ac (withLen a (strLen a - 1))).setAc (ac + 1) p').setAc (ac + 3)
      (withLen b (strLen b - 1))).setAc (ac + 4) q') :
    cmpsLoop f1 f2 ac (k + 1) first s =
      if x = y then cmpsLoop f1 f2 ac k false t else .ok (if x.toNat < y.toNat then .lt else .gt) t := by
  obtain ⟨hbyte1, hframe⟩ := byteOrFill_run (hp.trans (ac_atByte _ _ _).symm) hx
  obtain ⟨hbyte2, -⟩ := byteOrFill_run (hq.trans ((hframe.ac _).trans (ac_atByte _ _ _)).symm) hy
  simp only [cmpsLoop, run_bind, run_getAc, ← ha, ← hb, run_ite, if_neg hne, strPoint_run hquiet, hbyte1, hbyte2,
    run_putAc2, acNum_add_three_one, ← ht, run_pure]
  split
  case isTrue => rfl
  case isFalse hxy => rw [compare_of_ne hxy]

/-! ### Move: what a byte becomes (R564 to R566) -/

/-- The entry of a byte in the translation table. -/
theorem byTable_run {w : Word} {h : Half} {code : BitVec 3} (hr : rdE (e1 + (b >>> 1).setWidth 18) s = .ok w t)
    (hh : h = if b.getLsbD 0 then rh w else lh w) (hcode : code = h.extractLsb' 15 3) :
    byTable e1 a b s = .ok ⟨codeFlags code 33 a, (h.extractLsb' 0 12).setWidth 36,
      code == 0 || code == 4 || code == 6 || code == 7 || (codeFlags code 33 a).getLsbD 35, code == 1 || code == 5,
      false⟩ t := by
  subst hcode
  simp only [byTable, run_bind, tableEntry_run hr hh, run_pure, tableEntry_act withBit_mBit, hasBit_sBit,
    TableEntry.stores, TableEntry.aborts]

theorem digitByTable_run {w : Word} {h : Half} {code : BitVec 3} (hr : rdE (e1 + (b >>> 1).setWidth 18) s = .ok w t)
    (hh : h = if b.getLsbD 0 then rh w else lh w) (hcode : code = h.extractLsb' 15 3) :
    digitByTable e1 a b s = .ok ⟨codeFlags code 34 a, (h.extractLsb' 0 4).setWidth 36,
      code == 1 || code == 5 || decide (9 < (h.extractLsb' 0 4).toNat)⟩ t := by
  subst hcode
  have hdigit : (h.extractLsb' 0 12).extractLsb' 0 4 = h.extractLsb' 0 4 :=
    BitVec.extractLsb'_extractLsb'_of_le (by decide)
  have hval : ((h.extractLsb' 0 4).setWidth 36).toNat = (h.extractLsb' 0 4).toNat :=
    BitVec.toNat_setWidth_of_le (by decide)
  simp only [digitByTable, run_bind, tableEntry_run hr hh, run_pure, tableEntry_act withBit_nBit, hdigit, hval,
    TableEntry.aborts]

/-! ### Move: one turn of the loop -/

section
variable {tr : Word → Word → M Moved} {pad : Nat → Nat → Bool} {f x : Word} {r : Moved}

theorem movsLoop_full (hb : b = s.ac (ac + 3)) (h : strLen b = 0) :
    movsLoop tr pad ac e0 (k + 1) first s = .ok true s := by
  subst hb
  simp only [movsLoop, run_bind, run_getAc, run_ite, h, if_true, run_pure]

/-- A turn that stores the fill. -/
theorem movsLoop_fill (ha : a = s.ac ac) (hb : b = s.ac (ac + 3)) (hq : q = s.ac (ac + 4))
    (hquiet : first = true ∨ Quiet s) (hlen : strLen b ≠ 0) (hpad : pad (strLen a) (strLen b) = true)
    (hf : rdE (e0 + 1) (atByte first s) = .ok f s1) (hd : depositByte (bpIncr q) f s1 = .ok () s2) :
    movsLoop tr pad ac e0 (k + 1) first s =
      movsLoop tr pad ac e0 k false ((s2.setAc (ac + 3) (withLen b (strLen b - 1))).setAc (ac + 4) (bpIncr q)) := by
  have hq1 : q = s1.ac (ac + 4) := hq.trans ((ac_after_read hf _).trans (ac_atByte _ _ _)).symm
  subst hq1
  have hfill : fillNext e0 ac b (atByte first s) =
      .ok () ((s2.setAc (ac + 3) (withLen b (strLen b - 1))).setAc (ac + 4) (bpIncr (s1.ac (ac + 4)))) := by
    simp only [fillNext, run_bind, hf, storeNext_run hd, run_putAc2, acNum_add_three_one]
  simp only [movsLoop, run_bind, run_getAc, ← ha, ← hb, run_ite, if_neg hlen, strPoint_run hquiet, hpad, if_true, hfill]

/-- A turn that moves a byte. -/
theorem movsLoop_move {go : Bool} (ha : a = s.ac ac) (hb : b = s.ac (ac + 3)) (hquiet : first = true ∨ Quiet s)
    (hlen : strLen b ≠ 0) (hpad : pad (strLen a) (strLen b) = false)
    (hmove : moveNext tr ac a b (atByte first s) = .ok go t) :
    movsLoop tr pad ac e0 (k + 1) first s = if go then movsLoop tr pad ac e0 k false t else .ok false t := by
  simp only [movsLoop, run_bind, run_getAc, ← ha, ← hb, run_ite, if_neg hlen, strPoint_run hquiet, hpad,
    Bool.false_eq_true, if_false, hmove, run_pure]

/-- The four ways of a byte: it ends the instruction, is dropped, is too big, or is stored. -/
theorem moveNext_run (hp : p = s.ac (ac + 1)) (hx : loadByte (bpIncr p) s = .ok x s1) (ht : tr a x s1 = .ok r s2) :
    moveNext tr ac a b s =
      (if r.ends then putAc2 ac (withLen a (strLen a - 1)) (bpIncr p) >>= fun _ => pure false
      else if !r.stores then putAc2 ac (withLen r.len (strLen a - 1)) (bpIncr p) >>= fun _ => pure true
      else if tooBig (s2.ac (ac + 4)) r.val then
        putAc2 ac (withLen r.len (if r.stays then strLen a else strLen a - 1)) (bpIncr p) >>= fun _ => pure false
      else storeNext (ac + 4) r.val >>= fun bp => putAc2 ac (withLen r.len (strLen a - 1)) (bpIncr p) >>= fun _ =>
        putAc2 (ac + 3) (withLen b (strLen b - 1)) bp >>= fun _ => pure true) s2 := by
  subst hp
  simp only [moveNext, run_bind, nextByte_run hx, ht, run_getAc]

theorem moveNext_ends (hp : p = s.ac (ac + 1)) (hx : loadByte (bpIncr p) s = .ok x s1) (ht : tr a x s1 = .ok r s2)
    (he : r.ends = true) :
    moveNext tr ac a b s = .ok false ((s2.setAc ac (withLen a (strLen a - 1))).setAc (ac + 1) (bpIncr p)) := by
  rw [moveNext_run hp hx ht, if_pos he]
  rfl

theorem moveNext_drops (hp : p = s.ac (ac + 1)) (hx : loadByte (bpIncr p) s = .ok x s1) (ht : tr a x s1 = .ok r s2)
    (he : r.ends = false) (hs : r.stores = false) :
    moveNext tr ac a b s = .ok true ((s2.setAc ac (withLen r.len (strLen a - 1))).setAc (ac + 1) (bpIncr p)) := by
  rw [moveNext_run hp hx ht, he, hs, if_neg Bool.false_ne_true, if_pos (by rfl)]
  rfl

theorem moveNext_tooBig (hp : p = s.ac (ac + 1)) (hx : loadByte (bpIncr p) s = .ok x s1) (ht : tr a x s1 = .ok r s2)
    (hq : s2.ac (ac + 4) = q) (he : r.ends = false) (hs : r.stores = true) (hbig : 2 ^ bpS q ≤ r.val.toNat) :
    moveNext tr ac a b s = .ok false ((s2.setAc ac (withLen r.len (if r.stays then strLen a else strLen a - 1))).setAc
      (ac + 1) (bpIncr p)) := by
  rw [moveNext_run hp hx ht, he, hs, hq, tooBig, decide_eq_true hbig]
  rfl

theorem moveNext_stores (hp : p = s.ac (ac + 1)) (hx : loadByte (bpIncr p) s = .ok x s1) (ht : tr a x s1 = .ok r s2)
    (hq : s2.ac (ac + 4) = q) (he : r.ends = false) (hs : r.stores = true) (hfits : r.val.toNat < 2 ^ bpS q)
    (hd : depositByte (bpIncr q) r.val s2 = .ok () s3) :
    moveNext tr ac a b s = .ok true ((((s3.setAc ac (withLen r.len (strLen a - 1))).setAc (ac + 1) (bpIncr p)).setAc
      (ac + 3) (withLen b (strLen b - 1))).setAc (ac + 4) (bpIncr q)) := by
  subst hq
  rw [moveNext_run hp hx ht, he, hs, tooBig, decide_eq_false (not_le.mpr hfits)]
  simp only [Bool.false_eq_true, if_false, Bool.not_true, run_bind, storeNext_run hd, run_putAc2, acNum_add_three_one,
    run_pure]

end

/-! ### MOVSLJ and MOVSRJ (R566, R567) -/

/-- A turn that does not end the loop with `true`: it goes on after the fill or after a byte, or ends at the byte. -/
theorem movsLoop_ok_false {tr : Word → Word → M Moved} {pad : Nat → Nat → Bool}
    (h : movsLoop tr pad ac e0 (k + 1) first s = .ok false t) :
    (∃ u, movsLoop tr pad ac e0 k false u = .ok false t) ∨
    (pad (strLen (s.ac ac)) (strLen (s.ac (ac + 3))) = false ∧
      ∃ u, moveNext tr ac (s.ac ac) (s.ac (ac + 3)) u = .ok false t) := by
  rw [movsLoop] at h
  obtain ⟨a, _, ha, h⟩ := bind_ok h
  cases ha
  obtain ⟨b, _, hb, h⟩ := bind_ok h
  cases hb
  rw [run_ite] at h
  split at h
  case isTrue => cases h
  case isFalse =>
    obtain ⟨-, s1, -, h⟩ := bind_ok h
    rw [run_ite] at h
    split at h
    case isTrue =>
      obtain ⟨-, u, -, h⟩ := bind_ok h
      exact .inl ⟨u, h⟩
    case isFalse hpad =>
      obtain ⟨go, u, hmove, h⟩ := bind_ok h
      cases go with
      | true => exact .inl ⟨u, h⟩
      | false =>
        cases h
        exact .inr ⟨Bool.eq_false_iff.mpr hpad, s1, hmove⟩

/-- A byte moved as it is ends the instruction only when it is too big, and stays counted in the length (R566). -/
theorem moveNext_asIs_ends (h : moveNext asIs ac a b s = .ok false t) : strLen (t.ac ac) = strLen a := by
  obtain ⟨⟨p', x⟩, s1, -, h⟩ := bind_ok h
  obtain ⟨r, _, hr, h⟩ := bind_ok h
  cases hr
  obtain ⟨q, _, hq, h⟩ := bind_ok h
  cases hq
  rw [run_ite, if_neg Bool.false_ne_true, run_ite, if_neg (by simp), run_ite] at h
  split at h
  case isTrue =>
    cases h
    simpa using strLen_lt a
  case isFalse =>
    obtain ⟨bp, u, -, h⟩ := bind_ok h
    cases h

/-- So MOVSLJ never ends at a byte with L1 = 0. -/
theorem movsLoop_asIs_ends :
    ∀ {k : Nat} {first : Bool} {s : State}, movsLoop asIs (fun l1 _ => l1 == 0) ac e0 k first s = .ok false t →
      strLen (t.ac ac) ≠ 0
  | 0, _, _, h => by cases h
  | k + 1, _, _, h => by
    obtain ⟨u, hrest⟩ | ⟨hpad, u, hmove⟩ := movsLoop_ok_false h
    · exact movsLoop_asIs_ends hrest
    · rw [moveNext_asIs_ends hmove]
      exact beq_eq_false_iff_ne.mp hpad

/-- MOVSRJ drops the first of two bytes, moves the second and skips. -/
theorem exec_movsrj_two {m : EaField} {r : EaResult} {x : Word} (hc : s.cfg.extendDetail = .standard)
    (ha : a = s.ac ac) (hp : p = s.ac (ac + 1)) (hb : b = s.ac (ac + 3)) (hq : q = s.ac (ac + 4)) (hla : strLen a = 2)
    (hlb : strLen b = 1) (h : eaIn .cur m s = .ok r s1) (hquiet : Quiet s1)
    (hx : loadByte (bpIncr (bpIncr p)) (atByte false ((s1.setAc ac (withLen a 1)).setAc (ac + 1) (bpIncr p))) =
      .ok x s2)
    (hfits : x.toNat < 2 ^ bpS q) (hd : depositByte (bpIncr q) x s2 = .ok () s3)
    (ht : t = (((s3.setAc ac (withLen a 0)).setAc (ac + 1) (bpIncr (bpIncr p))).setAc (ac + 3) (withLen b 0)).setAc
      (ac + 4) (bpIncr q)) :
    exec (.movsrj ac e0 m) s = .next (t.clearFpd.setPc (t.pc + 1)) := by
  rw [← ac_after_eaIn h] at ha hp hb hq
  obtain ⟨u, hu⟩ : ∃ u, u = (s1.setAc ac (withLen a 1)).setAc (ac + 1) (bpIncr p) := ⟨_, rfl⟩
  rw [← hu] at hx
  have hlen : strLen (withLen a 1) = 1 := strLen_withLen a 1
  have hu0 : withLen a 1 = u.ac ac := by simp [hu]
  have hu1 : bpIncr p = (atByte false u).ac (ac + 1) := by simp [hu]
  have hu3 : b = u.ac (ac + 3) := by simp [hu, hb]
  have hu4 : s2.ac (ac + 4) = q := by
    rw [ac_after_loadByte hx, ac_atByte, hq]
    simp [hu]
  have hmove := moveNext_stores (b := b) hu1 hx (show asIs (withLen a 1) x s2 = .ok _ s2 from rfl) hu4 rfl rfl hfits hd
  have hloop : movsLoop asIs (fun l1 l2 => l1 < l2) ac e0 (2 + 1) false u = .ok true t := by
    rw [movsLoop_move hu0 hu3 (.inr (hu ▸ hquiet)) (by omega) (by rw [hlen, hlb]; rfl) hmove, if_pos rfl, hlen, hlb,
      Nat.sub_self, withLen_withLen, ← ht]
    exact movsLoop_full rfl (by simp [ht])
  refine exec_movsrj (l1 := 2) (l2 := 1) (s2 := u) hc h (by rw [← ha, hla]) (by rw [← hb, hlb]) ?_ hloop
  rw [if_neg (by decide), ← ha, ← hp, hu]
  rfl

end

end Sys2Proof.Machine
end

section
/-! SUPPORT. One digit of the conversions (43_extend.md section 4, R560 to R563; 60_exceptions.md section 1, R1207). -/

namespace Sys2Proof.Machine

open Sys2Proof Sys2Proof.Statements

/-! ### The result of a conversion to binary (R560) -/

/-- The state with a double-word value in the result pair, and the overflow flags set when it exceeds 70 bits and a sign
(log entries 20 and 44). -/
def State.withResult (ac : AcNum) (v : Int) (s : State) : State :=
  let t := (s.setAc (ac + 3) (dhi v)).setAc (ac + 4)
    (withSign (negative (dhi v) && Config.cvtLowSign (dhi v) (dlo v)) (dlo v))
  if v < -2 ^ 70 ∨ 2 ^ 70 ≤ v then t.orFlags overflowFlags else t

@[simp] theorem run_putResult (ac : AcNum) (v : Int) (s : State) : putResult ac v s = .ok () (s.withResult ac v) := by
  simp only [putResult, run_bind, run_putAc2, acNum_add_three_one, run_onlyIf, run_setFlags, decide_eq_true_eq,
    State.withResult]
  split <;> rfl

theorem union_overflowFlags (f : Flags) : f.union overflowFlags = { f with aov := true, trap1 := true } := by
  simp [Flags.union, overflowFlags, Flags.zero]

section
variable {ac : AcNum} {v : Int} {s : State}

theorem withResult_cases (ac : AcNum) (v : Int) (s : State) {P : State → Prop}
    (h : P ((s.setAc (ac + 3) (dhi v)).setAc (ac + 4)
      (withSign (negative (dhi v) && Config.cvtLowSign (dhi v) (dlo v)) (dlo v))))
    (hf : ∀ t, P t → P (t.orFlags overflowFlags)) : P (s.withResult ac v) := by
  rw [State.withResult]
  split
  · exact hf _ h
  · exact h

@[simp] theorem withResult_pc : (s.withResult ac v).pc = s.pc :=
  withResult_cases ac v s (P := fun t => t.pc = s.pc) rfl fun _ h => h

@[simp] theorem withResult_mem : (s.withResult ac v).mem = s.mem :=
  withResult_cases ac v s (P := fun t => t.mem = s.mem) rfl fun _ h => h

/-- Only the result pair changes. -/
theorem ac_withResult {i : AcNum} (h3 : i ≠ ac + 3) (h4 : i ≠ ac + 4) : (s.withResult ac v).ac i = s.ac i :=
  withResult_cases ac v s (P := fun t => t.ac i = s.ac i)
    (by rw [ac_setAc, ac_setAc, if_neg h4, if_neg h3]) fun _ h => h

/-- A value in range is that of the result pair. -/
theorem dval_withResult (h : -2 ^ 70 ≤ v) (h2 : v < 2 ^ 70) :
    dval ((s.withResult ac v).ac (ac + 3)) ((s.withResult ac v).ac (ac + 4)) = v :=
  withResult_cases ac v s (P := fun t => dval (t.ac (ac + 3)) (t.ac (ac + 4)) = v)
    (by simp [dval_dhi_dlo h h2]) fun _ h => h

theorem withResult_flags_fits (h : -2 ^ 70 ≤ v) (h2 : v < 2 ^ 70) : (s.withResult ac v).flags = s.flags := by
  rw [State.withResult, if_neg (by omega)]
  rfl

theorem withResult_flags_overflow (h : v < -2 ^ 70 ∨ 2 ^ 70 ≤ v) :
    (s.withResult ac v).flags = { s.flags with aov := true, trap1 := true } := by
  rw [State.withResult, if_pos h]
  exact union_overflowFlags s.flags

/-- AOV and TRAP1, once set, stay. -/
theorem withResult_flags_set {f : Flags} (h : s.flags = { f with aov := true, trap1 := true }) :
    (s.withResult ac v).flags = { f with aov := true, trap1 := true } := by
  rw [State.withResult]
  split
  · exact (union_overflowFlags s.flags).trans (by rw [h])
  · exact h

end

/-! ### One digit in (R560, R561) -/

section
variable {s s1 s2 s3 : State} {ac : AcNum} {k : Nat} {first whole : Bool} {a p x : Word} {d : Digit}
  {dg : Word → Word → M Digit}

/-- Setting S leaves N. -/
theorem getLsbD_setBit_negative (w : Word) : (setBit 35 true w).getLsbD 34 = w.getLsbD 34 := by
  rw [setBit, if_pos rfl, BitVec.getLsbD_or]
  exact Bool.or_false _

/-- A turn reads a byte and looks at its digit. -/
theorem cvtdbLoop_read (ha : a = s.ac ac) (hp : p = s.ac (ac + 1)) (hq : first = true ∨ Quiet s) (hlen : strLen a ≠ 0)
    (hx : loadByte (bpIncr p) (atByte first s) = .ok x s1) (hd : dg a x s1 = .ok d s2) :
    cvtdbLoop dg ac (k + 1) first s =
      if d.ends then .ok false (s2.setAc (ac + 1) (bpIncr p))
      else cvtdbLoop dg ac k false (((s2.setAc ac (setBit 35 true (withLen d.len (strLen a - 1)))).setAc (ac + 1)
        (bpIncr p)).withResult ac (dval (s2.ac (ac + 3)) (s2.ac (ac + 4)) * 10 + d.val.toNat)) := by
  rw [hp, ← ac_atByte _ first] at hx ⊢
  simp only [cvtdbLoop, run_bind, run_getAc, ← ha, run_ite, if_neg hlen, strPoint_run hq, nextByte_run hx, hd,
    run_putAc, run_pure, run_putAc2, run_putResult, withBit_sBit]

end

/-- The digit of a byte is found without changing a register. -/
theorem frames_toBinaryStrings : ∀ p ∈ toBinaryStrings, ∀ (e1 : VAddr) (a b : Word), Frames (p.2 e1 a b) := by
  have hoffset (off a b : Word) : Frames (digitByOffset off a b) := Frames.pure _
  have htable (e1 : VAddr) (a b : Word) : Frames (digitByTable e1 a b) :=
    Frames.bind (Frames.bind (Frames.rdE _) fun _ => Frames.pure _) fun _ => Frames.pure _
  simp only [toBinaryStrings, List.forall_mem_cons, List.not_mem_nil, false_imp_iff, implies_true, hoffset, htable,
    and_self]

/-- The state a conversion of one digit ends in: the number joined, and negated if N is set. -/
def State.oneDigit (ac : AcNum) (len p : Word) (n : Int) (s : State) : State :=
  let t := ((s.setAc ac (setBit 35 true (withLen len 0))).setAc (ac + 1) p).withResult ac n
  if len.getLsbD 34 then t.withResult ac (-dval (t.ac (ac + 3)) (t.ac (ac + 4))) else t

section
variable {s : State} {ac : AcNum} {len p : Word} {n : Int}

@[simp] theorem oneDigit_pc : (s.oneDigit ac len p n).pc = s.pc := by
  rw [State.oneDigit]
  split <;> simp

@[simp] theorem oneDigit_mem : (s.oneDigit ac len p n).mem = s.mem := by
  rw [State.oneDigit]
  split <;> simp

/-- Beside the result pair the length and the pointer change. -/
theorem ac_oneDigit {i : AcNum} (h3 : i ≠ ac + 3) (h4 : i ≠ ac + 4) : (s.oneDigit ac len p n).ac i =
    if i = ac + 1 then p else if i = ac then setBit 35 true (withLen len 0) else s.ac i := by
  rw [State.oneDigit]
  split <;> simp only [ac_withResult h3 h4, ac_setAc]

theorem oneDigit_fits (h : -2 ^ 70 < n) (h2 : n < 2 ^ 70) :
    dval ((s.oneDigit ac len p n).ac (ac + 3)) ((s.oneDigit ac len p n).ac (ac + 4)) =
      (if len.getLsbD 34 then -n else n) ∧ (s.oneDigit ac len p n).flags = s.flags := by
  simp only [State.oneDigit, dval_withResult h.le h2]
  split
  · exact ⟨dval_withResult (by omega) (by omega),
      (withResult_flags_fits (by omega) (by omega)).trans (withResult_flags_fits h.le h2)⟩
  · exact ⟨dval_withResult h.le h2, withResult_flags_fits h.le h2⟩

theorem oneDigit_overflow (h : n < -2 ^ 70 ∨ 2 ^ 70 ≤ n) :
    (s.oneDigit ac len p n).flags = { s.flags with aov := true, trap1 := true } := by
  simp only [State.oneDigit]
  split
  · exact withResult_flags_set (withResult_flags_overflow h)
  · exact withResult_flags_overflow h

end

section
variable {s s1 s2 s3 : State} {ac : AcNum} {e0 : VAddr} {m : EaField} {r : EaResult} {x : Word} {d : Digit}
  {p : (AcNum → VAddr → EaField → Instr) × (VAddr → Word → Word → M Digit)} (hp : p ∈ toBinaryStrings)
  (hc : s.cfg.extendDetail = .standard) (hlen : strLen (s.ac ac) = 1) (h : eaIn .cur m s = .ok r s1)
  (hx : loadByte (bpIncr (s.ac (ac + 1))) s1 = .ok x s2) (hd : p.2 r.addr (s.ac ac) x s2 = .ok d s3)
include hp hc hlen h hx hd

/-- A conversion ends at a byte that is no digit with only the pointer changed. -/
theorem exec_toBinary_ends (he : d.ends = true) :
    exec (p.1 ac e0 m) s = .next (s3.setAc (ac + 1) (bpIncr (s.ac (ac + 1)))).clearFpd := by
  have hacs := ac_after_eaIn h
  have hloop := cvtdbLoop_read (k := 0) (hacs ac).symm (hacs (ac + 1)).symm (.inl rfl) (by omega) hx hd
  rw [if_pos he] at hloop
  exact exec_toBinaryString hp hc h (by rw [hacs, hlen]; exact hloop) rfl

/-- A conversion of one digit. -/
theorem exec_toBinary_digit {n : Int} (hn : n = dval (s.ac (ac + 3)) (s.ac (ac + 4)) * 10 + d.val.toNat)
    (he : d.ends = false) : exec (p.1 ac e0 m) s =
      .next ((s3.oneDigit ac d.len (bpIncr (s.ac (ac + 1))) n).clearFpd.setPc (s3.pc + 1)) := by
  have hacs := ac_after_eaIn h
  have hacs3 (i : AcNum) : s3.ac i = s.ac i :=
    (((frames_toBinaryStrings p hp _ _ _).ok hd).ac i).trans ((ac_after_loadByte hx i).trans (hacs i))
  have hloop := cvtdbLoop_read (k := 0) (hacs ac).symm (hacs (ac + 1)).symm (.inl rfl) (by omega) hx hd
  rw [he, if_neg Bool.false_ne_true, hlen, Nat.sub_self, hacs3, hacs3, ← hn] at hloop
  have hneg : ((((s3.setAc ac (setBit 35 true (withLen d.len 0))).setAc (ac + 1)
      (bpIncr (s.ac (ac + 1)))).withResult ac n).ac ac).getLsbD 34 = d.len.getLsbD 34 := by
    rw [ac_withResult (by simp) (by simp), ac_setAc, if_neg (by simp), ac_setAc, if_pos rfl, getLsbD_setBit_negative,
      getLsbD_withLen (by decide) (by decide)]
  rw [← oneDigit_pc]
  refine exec_toBinaryString (whole := true) hp hc h (by rw [hacs, hlen]; exact hloop) ?_
  rw [Bool.true_and, hneg, State.oneDigit, run_putResult]
  split <;> rfl

end

/-! ### One digit out (R562, R563) -/

section
variable {s s1 s2 : State} {ac : AcNum} {dg : Nat → M Word} {signif neg first : Bool} {d : Nat} {ds : List Nat}
  {v len bp : Word} {left : Int}

/-- A digit stored leaves in the accumulators what is left of the conversion (log entry 24). -/
theorem storeDigits_cons (hq : first = true ∨ Quiet s) (hd : dg d (atByte first s) = .ok v s1)
    (hbp : bp = s1.ac (ac + 4)) (hst : depositByte (bpIncr bp) v s1 = .ok () s2) (hlen : len = s2.ac (ac + 3))
    (hleft : left = (if neg then -1 else 1) * ((if signif then 0 else 10 ^ ds.length) + digitsVal ds : Nat)) :
    storeDigits dg ac signif neg (d :: ds) first s =
      storeDigits dg ac signif neg ds false ((((s2.setAc (ac + 3) (withLen len (strLen len - 1))).setAc (ac + 4)
        (bpIncr bp)).setAc ac (dhi left)).setAc (ac + 1) (dlo left)) := by
  subst hbp hlen
  have hsign : (if neg then -(digitsLeft signif ds : Int) else digitsLeft signif ds) = left := by
    rw [hleft, digitsLeft]
    cases neg <;> simp
  simp only [storeDigits, run_bind, strPoint_run hq, hd, storeNext_run hst, run_getAc, run_putAc2, acNum_add_three_one,
    hsign]

theorem storeDigits_nil (s : State) :
    storeDigits dg ac signif neg [] first s = .ok () ((s.setAc ac 0).setAc (ac + 1) 0) := rfl

end

end Sys2Proof.Machine
end

section
/-! SUPPORT. Decimal digits: the digits of a number, the number digits write, and the digits a conversion has to store
(43_extend.md section 4, R562; log entry 24). -/

namespace Sys2Proof.Machine

open Sys2Proof Sys2Proof.Statements

/-- The number digits write, in Mathlib's terms. -/
theorem digitsVal_eq (ds : List Nat) : digitsVal ds = Nat.ofDigits 10 ds.reverse := by
  rw [digitsVal, Nat.ofDigits_eq_foldr, List.foldr_reverse]
  congr 1
  funext n d
  exact Nat.add_comm _ _

/-- With fuel for every digit the loop puts the digits of a number before those already found. -/
theorem decimals_go_eq : ∀ {k n : Nat} (ds : List Nat), 0 < n → n < 10 ^ k →
    decimals.go k n ds = (Nat.digits 10 n).reverse ++ ds
  | 0, n, ds, hpos, hlt => by
    rw [Nat.pow_zero] at hlt
    omega
  | k + 1, n, ds, hpos, hlt => by
    rw [decimals.go]
    split
    case isTrue hn =>
      rw [Nat.digits_of_lt 10 n (by omega) hn]
      rfl
    case isFalse hn =>
      rw [Nat.pow_succ] at hlt
      rw [decimals_go_eq _ (by omega) (by omega), Nat.digits_def' (by decide) hpos, List.reverse_cons,
        List.append_assoc]
      rfl

theorem decimals_eq {n : Nat} (hpos : 0 < n) (hlt : n < 10 ^ 22) : decimals n = (Nat.digits 10 n).reverse := by
  rw [decimals, decimals_go_eq [] hpos hlt, List.append_nil]

/-- The digits of a number: they write it, each is a digit, there is one, and the first is 0 for 0 only. -/
theorem decimals_spec {n : Nat} (hlt : n < 10 ^ 22) : digitsVal (decimals n) = n ∧ (∀ d ∈ decimals n, d < 10) ∧
    decimals n ≠ [] ∧ (n ≠ 0 → (decimals n).head? ≠ some 0) := by
  obtain rfl | hpos := Nat.eq_zero_or_pos n
  · decide
  · have hne : Nat.digits 10 n ≠ [] := Nat.digits_ne_nil_iff_ne_zero.mpr hpos.ne'
    rw [digitsVal_eq, decimals_eq hpos hlt, List.reverse_reverse]
    refine ⟨Nat.ofDigits_digits 10 n, fun d hd => Nat.digits_lt_base (by decide) (List.mem_reverse.mp hd),
      List.reverse_ne_nil_iff.mpr hne, fun _ hhead => ?_⟩
    rw [List.head?_reverse, List.getLast?_eq_getLast_of_ne_nil hne, Option.some_inj] at hhead
    exact Nat.getLast_digit_ne_zero 10 hpos.ne' hhead

theorem length_decimals_le {n k : Nat} (hlt : n < 10 ^ 22) (hk : 0 < k) (h : n < 10 ^ k) :
    (decimals n).length ≤ k := by
  obtain rfl | hpos := Nat.eq_zero_or_pos n
  · exact hk
  · rw [decimals_eq hpos hlt, List.length_reverse]
    exact (Nat.digits_length_le_iff (by decide) n).mpr h

/-- Digits as many as these, writing the same number, are these. -/
theorem eq_of_digitsVal_eq {l l' : List Nat} (hlen : l.length = l'.length) (hl : ∀ d ∈ l, d < 10)
    (hl' : ∀ d ∈ l', d < 10) (h : digitsVal l = digitsVal l') : l = l' := by
  rw [digitsVal_eq, digitsVal_eq] at h
  refine List.reverse_injective (Nat.ofDigits_inj_of_len_eq (b := 10) (by decide) (by simpa using hlen) ?_ ?_ h)
  · exact fun d hd => hl d (List.mem_reverse.mp hd)
  · exact fun d hd => hl' d (List.mem_reverse.mp hd)

/-- The number after a digit put before. -/
theorem digitsVal_cons (d : Nat) (ds : List Nat) : digitsVal (d :: ds) = d * 10 ^ ds.length + digitsVal ds := by
  rw [digitsVal_eq, digitsVal_eq, List.reverse_cons, Nat.ofDigits_append, List.length_reverse, Nat.ofDigits_singleton]
  ring

theorem digitsVal_lt {ds : List Nat} (h : ∀ d ∈ ds, d < 10) : digitsVal ds < 10 ^ ds.length := by
  rw [digitsVal_eq, ← List.length_reverse]
  exact Nat.ofDigits_lt_base_pow_length (by decide) fun d hd => h d (List.mem_reverse.mp hd)

theorem digitsVal_replicate_append (k : Nat) (ds : List Nat) :
    digitsVal (List.replicate k 0 ++ ds) = digitsVal ds := by
  induction k with
  | zero => rfl
  | succ k ih => rw [List.replicate_succ, List.cons_append, digitsVal_cons, Nat.zero_mul, Nat.zero_add, ih]

/-! ### The digits still to store -/

/-- Digits that begin with no 0 are those of the number they write. -/
theorem decimals_digitsVal {d : Nat} {ds : List Nat} (hd : d ≠ 0) (hlen : ds.length < 22) (h : ∀ x ∈ d :: ds, x < 10) :
    decimals (digitsVal (d :: ds)) = d :: ds := by
  have hpos : 0 < digitsVal (d :: ds) := by
    rw [digitsVal_cons]
    positivity
  have hlt : digitsVal (d :: ds) < 10 ^ 22 :=
    (digitsVal_lt h).trans_le (Nat.pow_le_pow_right (by decide) hlen)
  rw [decimals_eq hpos hlt, digitsVal_eq, Nat.digits_ofDigits 10 (by decide) _
    (fun x hx => h x (List.mem_reverse.mp hx)) (fun _ => by simpa using hd), List.reverse_reverse]

/-- A restart without S finds the digits after the leading 1. -/
theorem digitsToStore_restart {ds : List Nat} (hlen : ds.length ≤ 21) (h : ∀ d ∈ ds, d < 10) (room : Nat) :
    digitsToStore true false room (10 ^ ds.length + digitsVal ds) = ds := by
  have hone : 10 ^ ds.length + digitsVal ds = digitsVal (1 :: ds) := by rw [digitsVal_cons, Nat.one_mul]
  rw [hone, digitsToStore, if_neg Bool.false_ne_true, if_pos rfl, decimals_digitsVal (by decide) (by omega)
    (List.forall_mem_cons.mpr ⟨by decide, h⟩), List.drop_one, List.tail_cons]

/-- With S the digits have the zeros before them that the length left asks for. -/
theorem digitsToStore_significant {ds : List Nat} (hne : ds ≠ []) (hlen : ds.length ≤ 21) (h : ∀ d ∈ ds, d < 10) :
    digitsToStore true true ds.length (digitsVal ds) = ds := by
  have hlt : digitsVal ds < 10 ^ 22 := (digitsVal_lt h).trans_le (Nat.pow_le_pow_right (by decide) (by omega))
  obtain ⟨hval, hdig, -, -⟩ := decimals_spec hlt
  have hle : (decimals (digitsVal ds)).length ≤ ds.length :=
    length_decimals_le hlt (List.length_pos_iff.mpr hne) (digitsVal_lt h)
  rw [digitsToStore, if_pos rfl]
  refine eq_of_digitsVal_eq ?_ ?_ h ((digitsVal_replicate_append _ _).trans hval)
  · rw [List.length_append, List.length_replicate, Nat.sub_add_cancel hle]
  · intro d hd
    obtain hd | hd := List.mem_append.mp hd
    · rw [List.eq_of_mem_replicate hd]
      decide
    · exact hdig d hd

end Sys2Proof.Machine
end

section
/-! SUPPORT. The bytes of the string operations: the statement (43_extend.md sections 1 to 4; 60_exceptions.md section
1, R1207). -/

namespace Sys2Proof.Machine

open Sys2Proof Sys2Proof.Statements

/-- Settles O55: the compare by `cmpsLoop_byte`, the moves by the turn of their loop and the way of the byte, the
conversions by the digit joined or stored, the decimal digits by the number they write. -/
theorem stringBytes : Obligations.StringBytes := by
  refine ⟨fun ac e0 k first s t => movsLoop_asIs_ends, ?compare, ?move, ?table, ?toBinary,
    fun off a b s => ⟨rfl, rfl, rfl⟩, ?toDecimal, ?digits, ?restart, ?movsrj⟩
  case compare =>
    intro f1 f2 x y ac k first s s1 s2 t a b p q p' q' ha hp hb hq hne hquiet hx hy ht
    exact cmpsLoop_byte ha hp hb hq hne hquiet hx hy ht
  case move =>
    intro tr pad ac e0 k first s s1 s2 s3 a b p q f x r ha hp hb hq hquiet
    refine ⟨movsLoop_full hb, movsLoop_fill ha hb hq hquiet, fun hlen hpad hx htr hq2 => ?_⟩
    have hp1 : p = (atByte first s).ac (ac + 1) := hp.trans (ac_atByte _ _ _).symm
    refine ⟨fun he => ?_, fun he hs hbig => ?_, fun he hs => ?_, fun he hs hfits hd => ?_⟩
    · exact movsLoop_move ha hb hquiet hlen hpad (moveNext_ends hp1 hx htr he)
    · exact movsLoop_move ha hb hquiet hlen hpad (moveNext_tooBig hp1 hx htr hq2 he hs hbig)
    · exact movsLoop_move ha hb hquiet hlen hpad (moveNext_drops hp1 hx htr he hs)
    · exact movsLoop_move ha hb hquiet hlen hpad (moveNext_stores hp1 hx htr hq2 he hs hfits hd)
  case table =>
    intro e1 a b w h code s t hr hh hcode
    exact ⟨⟨_, byTable_run hr hh hcode, rfl, rfl, rfl, fun _ => ⟨rfl, rfl⟩⟩,
      ⟨_, digitByTable_run hr hh hcode, rfl, rfl, fun _ => rfl⟩⟩
  case toBinary =>
    intro p hp ac e0 m s s1 s2 s3 r x d n hc hlen h hx hd hn
    refine ⟨exec_toBinary_ends hp hc hlen h hx hd, fun he => ⟨_, exec_toBinary_digit hp hc hlen h hx hd hn he, ?_⟩⟩
    have hsame := (((Frames.eaIn _ _).ok h).trans ((Frames.loadByte _).ok hx)).trans
      ((frames_toBinaryStrings p hp _ _ _).ok hd)
    refine ⟨congrArg (· + 1) hsame.pc, oneDigit_mem, ?_, ?_, fun i hi hi1 hi3 hi4 => ?_, fun hfits => ?_,
      fun hover => ?_⟩
    · exact (ac_oneDigit (by simp) (by simp)).trans (by simp)
    · exact (ac_oneDigit (by simp) (by simp)).trans (by simp)
    · refine (ac_oneDigit hi3 hi4).trans ?_
      rw [if_neg hi1, if_neg hi, hsame.ac]
    · obtain ⟨hval, hflags⟩ := oneDigit_fits (ac := ac) (s := s3) (len := d.len) (p := bpIncr (s.ac (ac + 1)))
        hfits.1 hfits.2
      refine ⟨hval, ?_⟩
      rw [setPc_flags, clearFpd_flags, hflags, hsame.flags]
    · rw [setPc_flags, clearFpd_flags, oneDigit_overflow hover, hsame.flags]
  case toDecimal =>
    intro dg ac signif neg first d ds s s1 s2 v len bp left hq hd hbp hst hlen hleft
    exact ⟨storeDigits_cons hq hd hbp hst hlen hleft, storeDigits_nil s⟩
  case digits =>
    intro n hn
    obtain ⟨hval, hdig, hne, hhead⟩ := decimals_spec (n := n) (by omega)
    exact ⟨hval, hdig, hne, hhead, fun room => ⟨rfl, fun restart => rfl⟩⟩
  case restart =>
    intro ds hne hlen h room
    exact ⟨digitsToStore_restart hlen h room, digitsToStore_significant hne hlen h⟩
  case movsrj =>
    intro ac e0 m s s1 s2 s3 t r a p b q x hc ha hp hb hq hla hlb h hquiet hx hfits hd ht
    exact exec_movsrj_two hc ha hp hb hq hla hlb h hquiet hx hfits hd ht

end Sys2Proof.Machine
end

section
/-! SUPPORT. String operations on short strings: the whole next state (43_extend.md sections 1 to 4). -/

namespace Sys2Proof.Machine

open Sys2Proof Sys2Proof.Statements

section
variable {s s1 s2 s3 t : State} {ac : AcNum} {e0 : VAddr} {m : EaField} {r : EaResult}

/-! ### Empty strings -/

theorem exec_compareString_empty {p : (AcNum → VAddr → EaField → Instr) × (Ordering → Prop)} {f1 f2 : Word}
    (hp : p ∈ compareStrings) (ha : strLen (s.ac ac) = 0) (hb : strLen (s.ac (ac + 3)) = 0)
    (hc : s.cfg.extendDetail = .standard) (h : eaIn .cur m s = .ok r s1) (h1 : rdE (e0 + 1) s1 = .ok f1 s2)
    (h2 : rdE (e0 + 2) s2 = .ok f2 s3) :
    (p.2 .eq → exec (p.1 ac e0 m) s = .next (s3.clearFpd.setPc (s3.pc + 1))) ∧
    (¬ p.2 .eq → exec (p.1 ac e0 m) s = .next s3.clearFpd) := by
  have hacs (i : AcNum) : s3.ac i = s.ac i :=
    (ac_after_read h2 i).trans ((ac_after_read h1 i).trans (ac_after_eaIn h i))
  refine exec_compareString hp hc h h1 h2 ?_
  rw [hacs, hacs, ha, hb]
  rfl

/-- Nothing to move: MOVSO, MOVST, MOVSLJ and MOVSRJ skip. -/
theorem exec_move_empty {i : AcNum → VAddr → EaField → Instr} (hi : i ∈ [Instr.movso, .movst, .movslj, .movsrj])
    (ha : strLen (s.ac ac) = 0) (hb : strLen (s.ac (ac + 3)) = 0) (hc : s.cfg.extendDetail = .standard)
    (h : eaIn .cur m s = .ok r s1) : exec (i ac e0 m) s = .next (s1.clearFpd.setPc (s1.pc + 1)) := by
  rw [← ac_after_eaIn h] at ha hb
  have hmove : ∀ p ∈ moveStrings, exec (p.1 ac e0 m) s = .next (s1.clearFpd.setPc (s1.pc + 1)) := by
    intro p hp
    have hrun := exec_moveString (ac := ac) (e0 := e0) (whole := true) (t := s1) hp hc h (by rw [ha, hb]; rfl)
    rwa [if_pos ⟨rfl, ha⟩] at hrun
  have hright : exec (.movsrj ac e0 m) s = .next (s1.clearFpd.setPc (s1.pc + 1)) :=
    exec_movsrj (l1 := 0) (l2 := 0) (whole := true) hc h ha.symm hb.symm (if_pos (Nat.le_refl 0)).symm rfl
  simp only [moveStrings, List.forall_mem_cons] at hmove
  obtain ⟨hmovso, hmovst, hmovslj, -⟩ := hmove
  fin_cases hi
  exacts [hmovso, hmovst, hmovslj, hright]

theorem exec_toBinary_empty {i : AcNum → VAddr → EaField → Instr} (hi : i ∈ [Instr.cvtdbo, .cvtdbt])
    (ha : strLen (s.ac ac) = 0) (hneg : (s.ac ac).getLsbD 34 = false) (hc : s.cfg.extendDetail = .standard)
    (h : eaIn .cur m s = .ok r s1) : exec (i ac e0 m) s = .next (s1.clearFpd.setPc (s1.pc + 1)) := by
  rw [← ac_after_eaIn h] at ha hneg
  have hrun : ∀ p ∈ toBinaryStrings, exec (p.1 ac e0 m) s = .next (s1.clearFpd.setPc (s1.pc + 1)) := fun p hp =>
    exec_toBinaryString (whole := true) (s2 := s1) hp hc h (by rw [ha]; rfl) (by rw [hneg]; rfl)
  simp only [toBinaryStrings, List.forall_mem_cons] at hrun
  obtain ⟨hoffset, htable, -⟩ := hrun
  fin_cases hi
  exacts [hoffset, htable]

/-- A conversion that starts has a digit to store, whatever the number. -/
theorem digitsToStore_length_pos {hi lo : Word} {signif : Bool} (room : Nat) :
    0 < (digitsToStore false signif room (dval hi lo).natAbs).length := by
  have hge := dval_ge hi lo
  have hlt := dval_lt hi lo
  obtain ⟨-, -, hne, -⟩ := decimals_spec (n := (dval hi lo).natAbs) (by omega)
  have hpos := List.length_pos_iff.mpr hne
  cases signif with
  | false => exact hpos
  | true =>
    rw [digitsToStore, if_pos rfl, List.length_append]
    omega

/-- A conversion to decimal with no room ends with only N changed. -/
theorem exec_toDecimal_empty {i : AcNum → VAddr → EaField → Instr} (hi : i ∈ [Instr.cvtbdo, .cvtbdt])
    (hb : strLen (s.ac (ac + 3)) = 0) (hf : s.flags.fpd = false) (hc : s.cfg.extendDetail = .standard)
    (h : eaIn .cur m s = .ok r s1)
    (ht : t = s1.setAc (ac + 3) (if dval (s.ac ac) (s.ac (ac + 1)) < 0 then s.ac (ac + 3) ||| 0o200000000000
      else s.ac (ac + 3))) :
    exec (i ac e0 m) s = .next t.clearFpd := by
  simp only [← ac_after_eaIn h] at hb ht
  have hrun : ∀ p ∈ toDecimalStrings, exec (p.1 ac e0 m) s = .next t.clearFpd := fun p hp =>
    (exec_toDecimalString hp hc h rfl rfl ht rfl).1 (by rw [hb, hf]; exact digitsToStore_length_pos 0)
  simp only [toDecimalStrings, List.forall_mem_cons] at hrun
  obtain ⟨hoffset, htable, -⟩ := hrun
  fin_cases hi
  exacts [hoffset, htable]

/-! ### EDIT at a STOP, EXTEND of an empty MOVSLJ, MOVSLJ of one byte -/

theorem exec_edit_stop {w : Word} (hc : s.cfg.extendDetail = .standard) (h : eaIn .cur m s = .ok r s1)
    (hr : rdE (rh (s.ac ac)) s1 = .ok w s2) (hp : patByte (s.ac ac) w = 0)
    (ht : t = s2.setAc ac (patNext (s.ac ac) 1)) : exec (.edit ac e0 m) s = .next (t.clearFpd.setPc (t.pc + 1)) := by
  have hloop (k : Nat) : editLoop ac e0 r.addr (k + 1) true s1 = .ok true t :=
    (editLoop_stop (.inl rfl) (ac_after_eaIn h ac).symm hr hp).trans (by rw [ht])
  have hfuel : 2 ^ 20 = 1048575 + 1 := by norm_num
  exact exec_edit (stopped := true) hc h (by rw [hfuel]; exact hloop _)

theorem exec_extend_movslj_empty {x : Word} (hc : s.cfg.extendDetail = .standard) (h1 : ea m s = .ok e0 s1)
    (h2 : vread .cur e0 s1 = .ok x s2) (hx : opField x = 0o16) (h : eaIn .cur (eaField x) s2 = .ok r s3)
    (ha : strLen (s.ac ac) = 0) (hb : strLen (s.ac (ac + 3)) = 0) :
    exec (.extend ac m) s = .next (s3.clearFpd.setPc (s3.pc + 1)) := by
  have hsame := ((Frames.ea m).ok h1).trans ((Frames.vread .cur e0).ok h2)
  have hi : decodeExtended ac e0 x = some (.movslj ac e0 (eaField x)) := by
    rw [decodeExtended, hx]
    rfl
  rw [exec_extend h1 h2, ← exec_decodeExtended hi]
  rw [← hsame.ac] at ha hb
  exact exec_move_empty (i := .movslj) (by simp) ha hb (hsame.cfg ▸ hc) h

theorem exec_movslj_one {b : Word} (ha : strLen (s.ac ac) = 1) (hb : strLen (s.ac (ac + 3)) = 1)
    (hc : s.cfg.extendDetail = .standard) (h : eaIn .cur m s = .ok r s1)
    (hx : loadByte (bpIncr (s.ac (ac + 1))) s1 = .ok b s2) (hfits : b.toNat < 2 ^ bpS (s.ac (ac + 4)))
    (hd : depositByte (bpIncr (s.ac (ac + 4))) b s2 = .ok () s3)
    (ht : t = (((s3.setAc ac (withLen (s.ac ac) 0)).setAc (ac + 1) (bpIncr (s.ac (ac + 1)))).setAc (ac + 3)
      (withLen (s.ac (ac + 3)) 0)).setAc (ac + 4) (bpIncr (s.ac (ac + 4)))) :
    exec (.movslj ac e0 m) s = .next (t.clearFpd.setPc (t.pc + 1)) := by
  have hacs := ac_after_eaIn h
  have hmove := moveNext_stores (b := s.ac (ac + 3)) (hacs (ac + 1)).symm hx
    (show asIs (s.ac ac) b s2 = .ok _ s2 from rfl) ((ac_after_loadByte hx _).trans (hacs _)) rfl rfl hfits hd
  have hloop : movsLoop asIs (fun l1 _ => l1 == 0) ac e0 (1 + 1) true s1 = .ok true t := by
    rw [movsLoop_move (hacs ac).symm (hacs (ac + 3)).symm (.inl rfl) (by omega) (by rw [ha]; rfl) hmove, if_pos rfl, ha,
      hb, Nat.sub_self, ← ht]
    exact movsLoop_full rfl (by simp [ht])
  have hrun := exec_moveString (p := (.movslj, fun _ => asIs)) (ac := ac) (e0 := e0) (by simp [moveStrings]) hc h
    (by rw [hacs, hacs, ha, hb]; exact hloop)
  rwa [if_pos ⟨rfl, by simp [ht]⟩] at hrun

end

/-- Settles O57: each instruction by what it does given its loop (O54), which ends at once or after one turn (O55,
O56). -/
theorem shortStrings : Obligations.ShortStrings := by
  refine ⟨?compare, ?move, ?toBinary, ?toDecimal, ?edit, ?extend, ?one⟩
  case compare =>
    rintro p hp ac e0 m s s1 s2 s3 t r f1 f2 ha hb hc h h1 h2 rfl
    exact exec_compareString_empty hp ha hb hc h h1 h2
  case move =>
    rintro i hi ac e0 m s s1 t r ha hb hc h rfl
    exact exec_move_empty hi ha hb hc h
  case toBinary =>
    rintro i hi ac e0 m s s1 t r ha hneg hc h rfl
    exact exec_toBinary_empty hi ha hneg hc h
  case toDecimal =>
    intro i hi ac e0 m s s1 t r hb hf hc h ht
    exact exec_toDecimal_empty hi hb hf hc h ht
  case edit =>
    intro ac e0 m s s1 s2 t r w hc h hr hp ht
    exact exec_edit_stop hc h hr hp ht
  case extend =>
    rintro ac m s s1 s2 s3 t e0 x r hc h1 h2 hx h ha hb rfl
    exact exec_extend_movslj_empty hc h1 h2 hx h ha hb
  case one =>
    intro ac e0 m s s1 s2 s3 t r b ha hb hc h hx hfits hd ht
    exact exec_movslj_one ha hb hc h hx hfits hd ht

end Sys2Proof.Machine
end

section
/-! SUPPORT. The moves and single-word arithmetic: the whole next state (44_move_arith.md sections 1 to 5; the self
forms of the halfword moves, 48_halfword_test.md section 1). -/

namespace Sys2Proof.Machine

open Sys2Proof Sys2Proof.Statements

/-! ### The tables of forms: each instruction is the operand form of its row -/

section
variable (ac : AcNum) (m : EaField) (s : State)

theorem exec_selfForms : ∀ p ∈ selfForms, exec (p.1 ac m) s = finish (selfRmw p.2 ac m) s := by
  intro p hp
  fin_cases hp <;> rfl

theorem exec_loadFlagForms : ∀ p ∈ loadFlagForms, exec (p.1 ac m) s = finish (acFromMemF p.2 ac m) s := by
  intro p hp
  fin_cases hp <;> rfl

theorem exec_immediateFlagForms : ∀ p ∈ immediateFlagForms,
    exec (p.1 ac m) s = finish (acFromImmF immR p.2 ac m) s := by
  intro p hp
  fin_cases hp <;> rfl

theorem exec_modifyFlagForms : ∀ p ∈ modifyFlagForms, exec (p.1 ac m) s = finish (memRmwF p.2 ac m) s := by
  intro p hp
  fin_cases hp <;> rfl

theorem exec_bothFlagForms : ∀ p ∈ bothFlagForms, exec (p.1 ac m) s = finish (bothRmwF p.2 ac m) s := by
  intro p hp
  fin_cases hp <;> rfl

theorem exec_storeFlagForms : ∀ p ∈ storeFlagForms, exec (p.1 ac m) s = finish (memFromAcF p.2 ac m) s := by
  intro p hp
  fin_cases hp <;> rfl

theorem exec_selfFlagForms : ∀ p ∈ selfFlagForms, exec (p.1 ac m) s = finish (selfRmwF p.2 ac m) s := by
  intro p hp
  fin_cases hp <;> rfl

theorem exec_mulForms : ∀ p ∈ mulForms,
    exec (p.1 ac m) s = finish (mulOp p.2.1 p.2.2.1 p.2.2.2 ac m) s := by
  intro p hp
  fin_cases hp <;> rfl

theorem exec_divForms : ∀ p ∈ divForms,
    exec (p.1 ac m) s = finish (divOp p.2.1 p.2.2.1 p.2.2.2.1 p.2.2.2.2 ac m) s := by
  intro p hp
  fin_cases hp <;> rfl

end

/-! ### The operand fetches of MUL, IDIV and DIV change no register -/

theorem frames_immOperand (e : VAddr) : Frames (immOperand e) := Frames.pure _

theorem frames_mulForms : ∀ p ∈ mulForms, ∀ e : VAddr, Frames (p.2.1 e) := by
  simp only [mulForms, List.forall_mem_cons, List.not_mem_nil, false_imp_iff, implies_true, Frames.rdE, Frames.rdmE,
    frames_immOperand, and_self]

theorem frames_divForms : ∀ p ∈ divForms, ∀ e : VAddr, Frames (p.2.2.1 e) := by
  simp only [divForms, List.forall_mem_cons, List.not_mem_nil, false_imp_iff, implies_true, Frames.rdE, Frames.rdmE,
    frames_immOperand, and_self]

/-! ### MUL, IDIV and DIV with their operands fetched -/

section
variable {s s1 s2 s3 : State} {ac : AcNum} {m : EaField} {e : VAddr} {operand : VAddr → M Word} {b : Word}
  {toMem toAc : Bool} {quot : Config → Word → Word → Word → Option (Word × Word)}

theorem mulOp_run {r : PairFlags} (ho : Frames (operand e)) (h1 : ea m s = .ok e s1) (h2 : operand e s1 = .ok b s2)
    (hr : mul72 (s.ac ac) b = r) (h3 : (if toMem then wrE e r.hi s2 else .ok () s2) = .ok () s3) :
    mulOp operand toMem toAc ac m s =
      .ok () ((if toAc then (s3.setAc ac r.hi).setAc (ac + 1) r.lo else s3).orFlags r.flags) := by
  have hs := ((Frames.ea m).ok h1).trans (ho.ok h2)
  simp only [mulOp, run_bind, h1, h2, run_getAc, hs.ac, hr, run_onlyIf, h3]
  cases toAc <;> rfl

/-- A division performed stores the quotient where the form says so, and the remainder beside it in the accumulators. -/
theorem divOp_performed {q r : Word} (ho : Frames (operand e)) (h1 : ea m s = .ok e s1)
    (h2 : operand e s1 = .ok b s2) (hq : quot s.cfg (s.ac ac) (s.ac (ac + 1)) b = some (q, r))
    (h3 : (if toMem then wrE e q s2 else .ok () s2) = .ok () s3) :
    divOp quot operand toMem toAc ac m s =
      .ok () (if toAc then (s3.setAc ac q).setAc (ac + 1) r else s3) := by
  have hs := ((Frames.ea m).ok h1).trans (ho.ok h2)
  simp only [divOp, run_bind, h1, h2, run_getAc, run_getS, hs.ac, hs.cfg, hq, run_onlyIf, h3]
  cases toAc <;> rfl

/-- A division not performed sets its flags only (R601). -/
theorem divOp_noDivide (ho : Frames (operand e)) (h1 : ea m s = .ok e s1) (h2 : operand e s1 = .ok b s2)
    (hq : quot s.cfg (s.ac ac) (s.ac (ac + 1)) b = none) :
    divOp quot operand toMem toAc ac m s = .ok () (s2.orFlags noDivideFlags) := by
  have hs := ((Frames.ea m).ok h1).trans (ho.ok h2)
  simp only [divOp, run_bind, h1, h2, run_getAc, run_getS, hs.ac, hs.cfg, hq, run_setFlags]

end

/-! ### The statements -/

/-- Settles O29: each self form is `selfRmw` of its row. -/
theorem selfForms : Obligations.SelfForms := by
  intro p hp ac m s s1 s2 t e w h1 h2 h3
  rw [exec_selfForms ac m s p hp]
  exact finish_of_ok (selfRmw_run h1 h2 h3)

/-- Settles O33: the forms of the two tables by their operand form, and FLTR as one that reads C(E). -/
theorem arithmeticToAc : Obligations.ArithmeticToAc := by
  refine ⟨?load, ?fltr, ?immediate⟩
  case load =>
    intro p hp ac m s s1 s2 e w h1 h2
    rw [exec_loadFlagForms ac m s p hp]
    exact finish_of_ok (acFromMemF_run h1 h2)
  case fltr =>
    intro ac m s s1 s2 e w h1 h2
    exact finish_of_ok (acFromMemF_run h1 h2)
  case immediate =>
    intro p hp ac m s s1 e h1
    rw [exec_immediateFlagForms ac m s p hp]
    exact finish_of_ok (acFromImmF_run h1)

/-- Settles O34: the forms of the four tables by their operand form. -/
theorem arithmeticToMemory : Obligations.ArithmeticToMemory := by
  refine ⟨?modify, ?both, ?store, ?self⟩
  case modify =>
    intro p hp ac m s s1 s2 t e w h1 h2 h3
    rw [exec_modifyFlagForms ac m s p hp]
    exact finish_of_ok (memRmwF_run h1 h2 h3)
  case both =>
    intro p hp ac m s s1 s2 t e w h1 h2 h3
    rw [exec_bothFlagForms ac m s p hp]
    exact finish_of_ok (bothRmwF_run h1 h2 h3)
  case store =>
    intro p hp ac m s s1 t e h1 h2
    rw [exec_storeFlagForms ac m s p hp]
    exact finish_of_ok (memFromAcF_run h1 h2)
  case self =>
    intro p hp ac m s s1 s2 t e w h1 h2 h3
    rw [exec_selfFlagForms ac m s p hp]
    exact finish_of_ok (selfRmwF_run h1 h2 h3)

/-- Settles O36: each form is `mulOp` or `divOp` of its row, with an operand fetch that changes no register. -/
theorem mulForms : Obligations.MulForms := by
  refine ⟨?mul, ?performed, fun _ _ => rfl, ?noDivide⟩
  case mul =>
    intro p hp ac m s s1 s2 s3 e b h1 h2 h3
    rw [exec_mulForms ac m s p hp]
    exact finish_of_ok (mulOp_run (frames_mulForms p hp e) h1 h2 rfl h3)
  case performed =>
    intro p hp ac m s s1 s2 s3 e b q r h1 h2 hq h3
    rw [exec_divForms ac m s p hp]
    exact finish_of_ok (divOp_performed (frames_divForms p hp e) h1 h2 hq h3)
  case noDivide =>
    intro p hp ac m s s1 s2 e b h1 h2 hq
    rw [exec_divForms ac m s p hp]
    exact finish_of_ok (divOp_noDivide (frames_divForms p hp e) h1 h2 hq)

end Sys2Proof.Machine
end

section
/-! SUPPORT. Single-word sums, products and quotients as exact integers, with their flags (44_move_arith.md sections 1
to 3, R600 to R602, R620, R629). -/

namespace Sys2Proof.Machine

open Sys2Proof

/-! ### The sum and its carries (R600) -/

theorem negative_eq_decide (w : Word) : negative w = decide (2 ^ 35 ≤ w.toNat) := BitVec.msb_eq_decide w

theorem negative_not (w : Word) : negative (~~~w) = !negative w := by
  rw [negative, BitVec.getLsbD_not]
  rfl

/-- The carry into the sign bit is where the sign of the sum differs from that of the bits without a carry. -/
theorem carry_into_sign {a b c : Nat} (ha : a < 2 ^ 36) (hb : b < 2 ^ 36) (hc : c ≤ 1) :
    decide (2 ^ 35 ≤ a % 2 ^ 35 + b % 2 ^ 35 + c) =
      (decide (2 ^ 35 ≤ a) ^^ decide (2 ^ 35 ≤ b) ^^ decide (2 ^ 35 ≤ (a + b + c) % 2 ^ 36)) := by
  grind

/-- The carry out of the sign bit is the majority of the two signs and the carry into it: both signs, or one with the
sign of the sum clear. -/
theorem carry_out_of_sign {a b c : Nat} (ha : a < 2 ^ 36) (hb : b < 2 ^ 36) (hc : c ≤ 1) :
    decide (2 ^ 36 ≤ a + b + c) = (decide (2 ^ 35 ≤ a) && decide (2 ^ 35 ≤ b) ||
      (decide (2 ^ 35 ≤ a) || decide (2 ^ 35 ≤ b)) && !decide (2 ^ 35 ≤ (a + b + c) % 2 ^ 36)) := by
  grind

theorem add36_word (a b : Word) (cin : Bool) : (add36 a b cin).word = a + b + if cin then 1 else 0 := by
  apply BitVec.eq_of_toNat_eq
  cases cin <;> simp [add36]

/-- The flags of a sum, from the signs of the operands and of the sum. -/
theorem add36_flags (a b : Word) (cin : Bool) :
    (add36 a b cin).flags = carryFlags
      (negative a && negative b || (negative a || negative b) && !negative (add36 a b cin).word)
      (negative a ^^ negative b ^^ negative (add36 a b cin).word) := by
  simp only [add36, negative_eq_decide, BitVec.toNat_ofNat]
  rw [carry_into_sign a.isLt b.isLt cin.toNat_le, carry_out_of_sign a.isLt b.isLt cin.toNat_le]

/-! ### The difference, the negative and the magnitude (R600, R602) -/

theorem sub36_word (a b : Word) : (sub36 a b).word = a - b := by
  rw [sub36, add36_word, if_pos rfl, BitVec.sub_eq_add_neg, BitVec.neg_eq_not_add, BitVec.add_assoc]
  rfl

/-- The flags of a negation are those of the sum 0 - x: both carries from 0, an overflow from MAXNEG, and none from
any other word, whose negative has the other sign. -/
theorem neg36_flags (x : Word) : (neg36 x).flags = (add36 (~~~x) 0 true).flags := by
  by_cases hzero : x = 0
  · subst hzero
    decide
  by_cases hmax : x = signWord
  · subst hmax
    decide
  have hword : (add36 (~~~x) 0 true).word = -x := by
    rw [add36_word, if_pos rfl, BitVec.neg_eq_not_add]
    exact congrArg (· + 1) (BitVec.add_zero _)
  have hneg : negative (-x) = !negative x := by
    have hmsb : (-x).msb = !x.msb := BitVec.msb_neg_of_ne_intMin_of_ne_zero hmax hzero
    exact hmsb
  have hsign : negative 0 = false := by decide
  rw [add36_flags, hword, hneg, negative_not, hsign, neg36, if_neg hzero, if_neg hmax]
  cases negative x <;> rfl

theorem signed_mag36 (x : Word) : signed (mag36 x).word = if x = signWord then -2 ^ 35 else |signed x| := by
  split
  case isTrue h =>
    subst h
    decide
  case isFalse h => exact (BitVec.toInt_abs_eq_natAbs_of_ne_intMin h).trans (Int.abs_eq_natAbs _).symm

/-- Settles O35: the table row by row from `add36_flags`. -/
theorem addFlagTable : Obligations.AddFlagTable := by
  refine ⟨?sum, fun a b => ⟨sub36_word a b, rfl⟩, fun x => ⟨rfl, neg36_flags x, signed_mag36 x, rfl⟩⟩
  rintro a b cin r rfl
  rw [← add36_word]
  refine ⟨rfl, ?_⟩
  rw [add36_flags]
  -- The eight rows of the sign table, each a value of `carryFlags`.
  cases negative a <;> cases negative b <;> cases negative (add36 a b cin).word <;> rfl

/-! ### The two corners (R620, D28) -/

theorem signed_eq_min_iff (w : Word) : signed w = -2 ^ 35 ↔ w = signWord :=
  ⟨fun h => BitVec.toInt_inj.mp (h.trans (by decide)), by rintro rfl; decide⟩

theorem signed_eq_neg_one_iff (w : Word) : signed w = -1 ↔ w = ones :=
  ⟨fun h => BitVec.toInt_inj.mp (h.trans (by decide)), by rintro rfl; decide⟩

theorem signed_eq_zero_iff (w : Word) : signed w = 0 ↔ w = 0 :=
  ⟨fun h => BitVec.toInt_inj.mp (h.trans (by decide)), by rintro rfl; decide⟩

theorem abs_signed_le (w : Word) : |signed w| ≤ 2 ^ 35 := abs_le.mpr ⟨signed_ge w, (signed_lt w).le⟩

theorem abs_signed_lt {w : Word} (h : w ≠ signWord) : |signed w| < 2 ^ 35 :=
  abs_lt.mpr ⟨(signed_ge w).lt_of_ne fun h0 => h ((signed_eq_min_iff w).mp h0.symm), signed_lt w⟩

/-! ### Products (R620) -/

section
variable {a b : Word} {p : Int}

/-- Only the square of MAXNEG leaves the range of a double word. -/
theorem abs_product_lt (h : ¬(a = signWord ∧ b = signWord)) : |signed a * signed b| < 2 ^ 70 := by
  rw [abs_mul, show (2 : Int) ^ 70 = 2 ^ 35 * 2 ^ 35 by norm_num]
  obtain h | h := not_and_or.mp h
  · exact mul_lt_mul_of_lt_of_le_of_nonneg_of_pos (abs_signed_lt h) (abs_signed_le b) (abs_nonneg _) (by norm_num)
  · exact mul_lt_mul' (abs_signed_le a) (abs_signed_lt h) (abs_nonneg _) (by norm_num)

theorem mul72_exact (h : ¬(a = signWord ∧ b = signWord)) (hp : p = signed a * signed b) :
    mul72 a b = ⟨wordOfInt (p / 2 ^ 35), withSign (p < 0) (wordOfInt p), Flags.zero⟩ := by
  subst hp
  exact if_neg h

/-- The two words of a value in range, whatever the low sign. -/
theorem dval_words (h : |p| < 2 ^ 70) (sign : Bool) :
    dval (wordOfInt (p / 2 ^ 35)) (withSign sign (wordOfInt p)) = p := by
  obtain ⟨hge, hlt⟩ := abs_lt.mp h
  rw [dval_withSign, dval, low_wordOfInt, signed_wordOfInt (by omega) (by omega)]
  omega

theorem imul36_square : imul36 signWord signWord = ⟨signWord, overflowFlags⟩ := rfl

theorem imul36_fits (hp : p = signed a * signed b) (h : -2 ^ 35 ≤ p ∧ p < 2 ^ 35) :
    imul36 a b = ⟨wordOfInt p, Flags.zero⟩ := by
  have hcorner : ¬(a = signWord ∧ b = signWord) := by
    rintro ⟨rfl, rfl⟩
    subst hp
    exact absurd h (by decide)
  subst hp
  rw [imul36, if_neg hcorner, if_neg (by omega)]

theorem imul36_overflows (hp : p = signed a * signed b) (h : ¬(-2 ^ 35 ≤ p ∧ p < 2 ^ 35))
    (hcorner : ¬(a = signWord ∧ b = signWord)) :
    imul36 a b = ⟨withSign (p < 0) (wordOfInt p), overflowFlags⟩ := by
  subst hp
  rw [imul36, if_neg hcorner, if_pos (by omega)]

theorem imul36_overflow_values (hp : p = signed a * signed b) (h : ¬(-2 ^ 35 ≤ p ∧ p < 2 ^ 35)) :
    (imul36 a b).flags = overflowFlags ∧ (imul36 a b).word.toNat % 2 ^ 35 = p % 2 ^ 35 ∧
      negative (imul36 a b).word = (decide (p < 0) || (a == signWord && b == signWord)) := by
  by_cases hcorner : a = signWord ∧ b = signWord
  · obtain ⟨rfl, rfl⟩ := hcorner
    subst hp
    rw [imul36_square]
    decide
  · have hsquare : (a == signWord && b == signWord) = false := by
      simpa only [Bool.and_eq_false_iff, beq_eq_false_iff_ne, ← not_and_or] using hcorner
    rw [imul36_overflows hp h hcorner, hsquare, Bool.or_false]
    refine ⟨rfl, ?_, negative_withSign _ _⟩
    have hlow := low_wordOfInt p
    rw [← low_withSign (p < 0)] at hlow
    exact_mod_cast hlow

end

/-! ### Quotients and remainders (R629) -/

section
variable {c : Config} {a b hi lo q r : Word} {n : Int}

/-- The words of a truncated quotient that fits and of its remainder. -/
theorem quotient_words (hb : signed b ≠ 0) (hge : -2 ^ 35 ≤ n.tdiv (signed b)) (hlt : n.tdiv (signed b) < 2 ^ 35)
    (hq : wordOfInt (n.tdiv (signed b)) = q) (hr : wordOfInt (n.tmod (signed b)) = r) :
    n = signed q * signed b + signed r ∧ |signed r| < |signed b| ∧ 0 ≤ signed r * n := by
  have hrem := abs_tmod_lt n hb
  obtain ⟨hrge, hrlt⟩ := abs_lt.mp (hrem.trans_le (abs_signed_le b))
  rw [← hq, ← hr, signed_wordOfInt hge hlt, signed_wordOfInt hrge.le hrlt]
  exact ⟨(Int.tdiv_mul_add_tmod n _).symm, hrem, tmod_mul_self_nonneg n _⟩

theorem idiv36_zero (c : Config) (a : Word) : idiv36 c a 0 = none := if_pos rfl

theorem idiv36_corner (c : Config) : idiv36 c signWord ones = c.idivMaxnegM1 := rfl

theorem idiv36_performed (hb : b ≠ 0) (h : ¬(a = signWord ∧ b = ones)) :
    idiv36 c a b = some (wordOfInt ((signed a).tdiv (signed b)), wordOfInt ((signed a).tmod (signed b))) := by
  rw [idiv36, if_neg hb, if_neg h, Int.tmod_def, mul_comm (signed b)]

/-- Only MAXNEG by -1 has a quotient that does not fit. -/
theorem idiv36_quotient_fits (hb : b ≠ 0) (h : ¬(a = signWord ∧ b = ones)) :
    -2 ^ 35 ≤ (signed a).tdiv (signed b) ∧ (signed a).tdiv (signed b) < 2 ^ 35 := by
  rw [← signed_eq_min_iff, ← signed_eq_neg_one_iff] at h
  have hle : ((signed a).tdiv (signed b)).natAbs ≤ (signed a).natAbs := by
    rw [Int.natAbs_tdiv]
    exact Nat.div_le_self _ _
  have hrem := abs_tmod_lt (signed a) (mt (signed_eq_zero_iff b).mp hb)
  rw [Int.abs_eq_natAbs, Int.abs_eq_natAbs] at hrem
  have hdiv := Int.tdiv_mul_add_tmod (signed a) (signed b)
  have hmin := signed_ge a
  have hmax := signed_lt a
  refine ⟨by omega, lt_of_not_ge fun hq => h ?_⟩
  have hquot : (signed a).tdiv (signed b) = 2 ^ 35 := by omega
  rw [hquot] at hdiv
  omega

theorem idiv36_none_iff (h : ¬(a = signWord ∧ b = ones)) : idiv36 c a b = none ↔ b = 0 := by
  refine ⟨fun hnone => ?_, ?_⟩
  · by_contra hb
    rw [idiv36_performed hb h] at hnone
    exact Option.some_ne_none _ hnone
  · rintro rfl
    exact idiv36_zero c a

theorem idiv36_some (h : ¬(a = signWord ∧ b = ones)) (hqr : idiv36 c a b = some (q, r)) :
    signed a = signed q * signed b + signed r ∧ |signed r| < |signed b| ∧ 0 ≤ signed r * signed a := by
  have hb : b ≠ 0 := by
    rw [ne_eq, ← idiv36_none_iff (c := c) h, hqr]
    exact Option.some_ne_none _
  rw [idiv36_performed hb h] at hqr
  obtain ⟨hge, hlt⟩ := idiv36_quotient_fits hb h
  cases hqr
  exact quotient_words (mt (signed_eq_zero_iff b).mp hb) hge hlt rfl rfl

/-- DIV in terms of the dividend as one integer: not performed, or the words of the truncated quotient and remainder. -/
theorem div72_eq (c : Config) (b : Word) (hn : n = dval hi lo) :
    div72 c hi lo b = if |signed b| * 2 ^ 35 ≤ |n| then none
      else some (wordOfInt (n.tdiv (signed b)), wordOfInt (n.tmod (signed b))) := by
  have hfits : (signed b).natAbs * 2 ^ 35 ≤ n.natAbs ↔ |signed b| * 2 ^ 35 ≤ |n| := by
    rw [Int.abs_eq_natAbs, Int.abs_eq_natAbs]
    norm_cast
  rw [div72, ← hn, Int.tmod_def, mul_comm (signed b)]
  exact if_congr hfits rfl rfl

theorem div72_none_iff (c : Config) (hi lo b : Word) :
    div72 c hi lo b = none ↔ |signed b| * 2 ^ 35 ≤ |dval hi lo| := by
  rw [div72_eq c b rfl]
  split
  case isTrue h => exact iff_of_true rfl h
  case isFalse h => exact iff_of_false (Option.some_ne_none _) h

theorem div72_some (h : div72 c hi lo b = some (q, r)) :
    dval hi lo = signed q * signed b + signed r ∧ |signed r| < |signed b| ∧ 0 ≤ signed r * dval hi lo := by
  have hfits : ¬|signed b| * 2 ^ 35 ≤ |dval hi lo| := by
    rw [← div72_none_iff c, h]
    exact Option.some_ne_none _
  have hb : signed b ≠ 0 := by
    intro h0
    rw [h0, abs_zero, zero_mul] at hfits
    exact hfits (abs_nonneg _)
  obtain ⟨hge, hlt⟩ := abs_lt.mp (abs_tdiv_lt (not_le.mp hfits))
  rw [div72_eq c b rfl, if_neg hfits] at h
  cases h
  exact quotient_words hb hge.le hlt rfl rfl

end

/-- Settles O37: MUL by `mul72_exact`, IMUL by `imul36_fits` and `imul36_overflow_values`, IDIV by `idiv36_none_iff`
and `idiv36_some`, DIV by `div72_none_iff` and `div72_some`. -/
theorem mulDivValues : Obligations.MulDivValues := by
  refine ⟨?mul, rfl, ?imul, fun c a b h => idiv36_none_iff h, idiv36_corner,
    fun c a b q r h hqr => idiv36_some h hqr, div72_none_iff, fun c hi lo b q r h => div72_some h⟩
  case mul =>
    intro a b h
    rw [mul72_exact h rfl]
    exact ⟨dval_words (abs_product_lt h) _, negative_withSign _ _, rfl⟩
  case imul =>
    intro a b p hp
    refine ⟨fun h => ?_, imul36_overflow_values hp⟩
    rw [imul36_fits hp h]
    exact ⟨rfl, signed_wordOfInt h.1 h.2⟩

end Sys2Proof.Machine
end

section
/-! SUPPORT. One step that runs the word another instruction or the host leaves (45_shift_jump.md section 4, R686, R687;
60_exceptions.md sections 3 and 8, R1223, R1260). -/

namespace Sys2Proof.Machine

open Sys2Proof

/-! ### The word left to execute, run by the same step -/

section
variable {k : Nat} {s t u : State} {w : Word} {p : Pending}

theorem drain_pending (h : s.pending = some p)
    (he : exec (decode s.cfg p.word) { s with pending := none, pxct := p.pxct, inhibit := p.inhibit } = .next t) :
    drain (k + 1) s = drain k t := by
  rw [drain_some h, he]

theorem runPending_drained (hd : drain drainFuel s = .next t) (hp : t.pending = none)
    (hc : t.its2pr = true → t.phase = .forced) :
    runPending (.next s) = .next { t with pxct := 0, inhibit := false, phase := .fetch } := by
  have hcomplete : complete t = .next t := by
    by_cases h : t.its2pr = true
    · simp [complete, hc h]
    · simp [complete, h]
  simp only [runPending, hd, settle, hp, hcomplete]

theorem drainFuel_eq : drainFuel = (2 ^ 20 - 2) + 1 + 1 := rfl

/-- A word that leaves none. -/
theorem runPending_one (h : s.pending = some p)
    (he : exec (decode s.cfg p.word) { s with pending := none, pxct := p.pxct, inhibit := p.inhibit } = .next t)
    (ht : t.pending = none) (hc : t.its2pr = true → t.phase = .forced) :
    runPending (.next s) = .next { t with pxct := 0, inhibit := false, phase := .fetch } := by
  refine runPending_drained ?_ ht hc
  rw [drainFuel_eq, drain_pending h he, drain_none ht]

/-- A word that leaves another, which leaves none. -/
theorem runPending_two {q : Pending} (h : s.pending = some p)
    (he : exec (decode s.cfg p.word) { s with pending := none, pxct := p.pxct, inhibit := p.inhibit } = .next t)
    (ht : t.pending = some q)
    (hu : exec (decode t.cfg q.word) { t with pending := none, pxct := q.pxct, inhibit := q.inhibit } = .next u)
    (hn : u.pending = none) (hc : u.its2pr = true → u.phase = .forced) :
    runPending (.next s) = .next { u with pxct := 0, inhibit := false, phase := .fetch } := by
  refine runPending_drained ?_ hn hc
  rw [drainFuel_eq, drain_pending h he, drain_pending ht hu, drain_none hn]

end

/-! ### The ordinary fetch and the forced execute -/

section
variable {s s1 : State} {w : Word}

/-- With the 1-proceed latches clear, the start of a fetch sets IPC and the counters, and uses up a breakpoint skip. -/
theorem beginFetch_latchesClear (h : s.its1pr = false ∧ s.its2pr = false) :
    s.beginFetch = { s with ipc := s.pc, indCount := 0, xctCount := 0, bkptSkip := false } := by
  obtain ⟨h1, h2⟩ := h
  cases s
  simp_all [State.beginFetch]

theorem fetchSeq_run (hq : s.its1pr = false ∧ s.its2pr = false)
    (hr : vread .cur s.pc { s with ipc := s.pc, indCount := 0, xctCount := 0, bkptSkip := false } = .ok w s1) :
    fetchSeq s = .ok () { s1 with pc := s1.pc + 1, pending := some ⟨w, 0, false⟩ } := by
  simp only [fetchSeq, run_bind, run_modS, beginFetch_latchesClear hq, run_getS, hr, run_setPending]
  rfl

/-- A step at an ordinary fetch runs the word at PC. -/
theorem step_fetch (h : AtFetch s)
    (hr : vread .cur s.pc { s with report := .ok, ipc := s.pc, indCount := 0, xctCount := 0, bkptSkip := false } =
      .ok w s1) :
    Sys2Proof.Machine.step s = runPending (.next { s1 with pc := s1.pc + 1, pending := some ⟨w, 0, false⟩ }) := by
  rw [step_boundary h.pending h.agenda,
    boundary_fetch (t := { s with report := .ok }) h.fatal h.forced h.quiet h.noTrap h.noBreak,
    finish_of_ok (fetchSeq_run (s := { s with report := .ok }) h.noProceed hr)]

/-- The fetch leaves no other word, and the configuration. -/
theorem fetched_same (h : AtFetch s)
    (hr : vread .cur s.pc { s with report := .ok, ipc := s.pc, indCount := 0, xctCount := 0, bkptSkip := false } =
      .ok w s1) : s1.pending = none ∧ s1.cfg = s.cfg :=
  have f := (Frames.vread _ _).ok hr
  ⟨f.pending.trans h.pending, f.cfg⟩

theorem forcedSeq_run {a : Nat} (ha : a < s.cfg.memSize) (hw : tblGet s.mem a = some w) :
    forcedSeq a s = .ok () { s with
      forcedExec := none, ipc := s.pc, phase := .forced, indCount := 0, xctCount := 1
      pending := some ⟨w, 0, false⟩ } := by
  rw [forcedSeq, run_bind, run_modS]
  simp only [beginAs, run_bind, run_modS]
  rw [readP_run (by exact ha) (by exact hw)]
  rfl

theorem boundary_forced {t : State} {a : Nat} (h1 : t.env.fatal = false) (h2 : t.forcedExec = some a) :
    boundary t = runPending (finish (forcedSeq a) t) := by
  simp [boundary, h1, h2]

end

/-- A forced execute is in executive mode, whatever the flags register holds (R1223, log entry 11). -/
theorem inUser_forced {s : State} (h : s.phase = .forced) : s.inUser = false := by
  simp [State.inUser, h]

/-- Settles O5: the fetch of `step_fetch` and the two words of `runPending_two`; the forced word of `forcedSeq_run`,
which no 1-proceed trap follows. -/
theorem stepRunsTarget : Obligations.StepRunsTarget := by
  refine ⟨?target, ?forced, fun s h => ?mode⟩
  case target =>
    intro s s1 t u w p h hr he hp hcfg hu hn hc
    obtain ⟨hpend, hcfg1⟩ := fetched_same h hr
    rw [← hcfg1] at he
    rw [← hcfg] at hu
    rw [step_fetch h hr]
    refine runPending_two (p := ⟨w, 0, false⟩) rfl ?_ hp hu hn fun h2 => absurd h2 (by simp [hc])
    rw [← he, ← hpend]
  case forced =>
    intro s t a w hp hag hfatal hforced ha hw he hn hc
    rw [step_boundary hp hag, boundary_forced (t := { s with report := .ok }) hfatal hforced,
      finish_of_ok (forcedSeq_run (s := { s with report := .ok }) ha hw)]
    refine runPending_one (p := ⟨w, 0, false⟩) rfl ?_ hn hc
    rw [← he, ← hp]
  case mode =>
    simp [State.mayExec, State.mayIo, inUser_forced h]

end Sys2Proof.Machine
end

section
/-! SUPPORT. Shifts, EXCH, JFFO, AOBJP and AOBJN: the whole next state (45_shift_jump.md sections 1 to 3, R660 to
R672). -/

namespace Sys2Proof.Machine

open Sys2Proof Sys2Proof.Statements

section
variable {s s1 s2 t : State} {ac : AcNum} {m : EaField} {e : VAddr} {w : Word}

/-! ### The operations with their effective address computed -/

theorem shiftOp_run {f : Word → VAddr → Word} (h1 : ea m s = .ok e s1) :
    shiftOp f ac m s = .ok () (s1.setAc ac (f (s.ac ac) e)) := by
  simp only [shiftOp, run_bind, h1, run_getAc, run_putAc, ac_after_ea h1]

theorem ashOp_run (h1 : ea m s = .ok e s1) :
    ashOp ac m s = .ok () ((s1.setAc ac (ash (s.ac ac) e).word).orFlags (ash (s.ac ac) e).flags) := by
  simp only [ashOp, run_bind, h1, run_getAc, run_putAc, run_setFlags, ac_after_ea h1]

theorem shift2Op_run {f : Word → Word → VAddr → Word × Word} (h1 : ea m s = .ok e s1) :
    shift2Op f ac m s = .ok () ((s1.setAc ac (f (s.ac ac) (s.ac (ac + 1)) e).1).setAc (ac + 1)
      (f (s.ac ac) (s.ac (ac + 1)) e).2) := by
  simp only [shift2Op, run_bind, h1, run_getAc, run_putAc2, ac_after_ea h1]

theorem ashcOp_run (h1 : ea m s = .ok e s1) {r : PairFlags} (hr : r = ashc (s.ac ac) (s.ac (ac + 1)) e) :
    ashcOp ac m s = .ok () (((s1.setAc ac r.hi).setAc (ac + 1) r.lo).orFlags r.flags) := by
  simp only [ashcOp, run_bind, h1, run_getAc, run_putAc2, run_setFlags, ac_after_ea h1, hr]

theorem exchOp_run (h1 : ea m s = .ok e s1) (h2 : rdmE e s1 = .ok w s2) (h3 : wrE e (s.ac ac) s2 = .ok () t) :
    exchOp ac m s = .ok () (t.setAc ac w) := by
  simp only [exchOp, run_bind, h1, h2, run_getAc, ac_after_rdmE h1 h2, h3, run_putAc]

theorem jffoOp_zero (h1 : ea m s = .ok e s1) (h0 : s.ac ac = 0) : jffoOp ac m s = .ok () (s1.setAc (ac + 1) 0) := by
  simp only [jffoOp, run_bind, h1, run_getAc, ac_after_ea h1, run_ite, h0, if_true, run_putAc]

theorem jffoOp_nonzero (h1 : ea m s = .ok e s1) (h0 : s.ac ac ≠ 0) :
    jffoOp ac m s = .ok () ((s1.setAc (ac + 1) (BitVec.ofNat 36 (leadingZeros (s.ac ac)))).setPc e) := by
  simp only [jffoOp, run_bind, h1, run_getAc, ac_after_ea h1, run_ite, h0, if_false, run_putAc, run_jump]

theorem aobjOp_run {whenNeg : Bool} {r : Word} (h1 : ea m s = .ok e s1) (hr : r = aob s.cfg.aobCarry (s.ac ac)) :
    aobjOp whenNeg ac m s =
      .ok () (if negative r = whenNeg then (s1.setAc ac r).setPc e else s1.setAc ac r) := by
  simp only [aobjOp, run_bind, h1, run_getS, ((Frames.ea m).ok h1).cfg, ac_after_ea h1, ← hr, run_putAc, run_onlyIf,
    run_jump, beq_iff_eq]
  split <;> rfl

end

/-! ### The tables of forms -/

section
variable (ac : AcNum) (m : EaField) (s : State)

theorem exec_shiftForms : ∀ p ∈ shiftForms, exec (p.1 ac m) s = finish (shiftOp p.2 ac m) s := by
  intro p hp
  fin_cases hp <;> rfl

theorem exec_circ (h : s.cfg.its = true) : exec (.circ ac m) s = finish (shift2Op circ ac m) s := by
  change finish (if s.cfg.its then _ else _) s = _
  rw [if_pos h]

theorem exec_shift2Forms : ∀ p ∈ shift2Forms, (p.2.1 = true → s.cfg.its = true) →
    exec (p.1 ac m) s = finish (shift2Op p.2.2 ac m) s := by
  intro p hp hits
  fin_cases hp
  · rfl
  · rfl
  · exact exec_circ ac m s (hits rfl)

end

/-! ### The first one (R664) -/

/-- The place of the highest one bit, counted from the left. -/
theorem leadingZeros_eq {a : Word} {n : Nat} (hn : n < 36) (hone : a.getLsbD (35 - n) = true)
    (hzero : ∀ k < n, a.getLsbD (35 - k) = false) : leadingZeros a = n := by
  have hne : a.toNat ≠ 0 := by
    intro h0
    rw [BitVec.getLsbD, h0, Nat.zero_testBit] at hone
    cases hone
  have hlow : 2 ^ (35 - n) ≤ a.toNat := Nat.ge_two_pow_of_testBit hone
  have hhigh : a.toNat < 2 ^ (35 - n + 1) := by
    refine Nat.lt_pow_two_of_testBit _ fun i hi => ?_
    rcases Nat.lt_or_ge i 36 with h | h
    · have := hzero (35 - i) (by omega)
      rwa [Nat.sub_sub_self (by omega)] at this
    · exact BitVec.getLsbD_of_ge a i h
  have hlog : a.toNat.log2 = 35 - n := (Nat.log2_eq_iff hne).mpr ⟨hlow, hhigh⟩
  rw [leadingZeros, hlog]
  omega

/-! ### The statements -/

/-- Settles O40: each form is the shift operation of its row. -/
theorem shiftForms : Obligations.ShiftForms := by
  refine ⟨?one, ?ash, ?two, ?ashc⟩
  case one =>
    intro p hp ac m s s1 e h1
    rw [exec_shiftForms ac m s p hp]
    exact finish_of_ok (shiftOp_run h1)
  case ash =>
    intro ac m s s1 e h1
    exact finish_of_ok (ashOp_run h1)
  case two =>
    intro p hp ac m s s1 e hits h1
    rw [exec_shift2Forms ac m s p hp hits]
    exact finish_of_ok (shift2Op_run h1)
  case ashc =>
    intro ac m s s1 e r h1 hr
    exact finish_of_ok (ashcOp_run h1 hr)

/-- Settles O42: JFFO by `leadingZeros_eq`, AOBJP and AOBJN by `aobjOp_run`. -/
theorem exchangeAndCount : Obligations.ExchangeAndCount := by
  refine ⟨?exch, ?zero, ?first, ?aobj⟩
  case exch =>
    intro ac m s s1 s2 t e w h1 h2 h3
    exact finish_of_ok (exchOp_run h1 h2 h3)
  case zero =>
    intro ac m s s1 e h1 h0
    exact finish_of_ok (jffoOp_zero h1 h0)
  case first =>
    intro ac m s s1 e n h1 hn hone hzero
    have hne : s.ac ac ≠ 0 := by
      intro h0
      simp [h0] at hone
    rw [← leadingZeros_eq hn hone hzero]
    exact finish_of_ok (jffoOp_nonzero h1 hne)
  case aobj =>
    rintro p hp ac m s s1 t e r h1 hr rfl
    have hexec : exec (p.1 ac m) s = finish (aobjOp p.2 ac m) s := by
      fin_cases hp <;> rfl
    rw [hexec]
    exact finish_of_ok (aobjOp_run h1 hr)

end Sys2Proof.Machine
end

section
/-! SUPPORT. The shifts bit by bit, and the arithmetic shifts as exact integers (45_shift_jump.md section 1, R660 to
R668). -/

namespace Sys2Proof.Machine

open Sys2Proof Sys2Proof.Statements

/-! ### Direction and count (R660) -/

theorem shiftOf_ofNat {n : Nat} (hn : n < 256) : shiftOf (BitVec.ofNat 18 n) = ⟨true, n⟩ := by
  have hsign : (BitVec.ofNat 18 n).getLsbD 17 = false := by
    rw [BitVec.getLsbD_ofNat, Nat.testBit_lt_two_pow (by omega), Bool.and_false]
  rw [shiftOf, if_neg (Bool.eq_false_iff.mp hsign), BitVec.toNat_ofNat]
  congr 1
  omega

theorem shiftOf_neg_ofNat {n : Nat} (hpos : 0 < n) (hn : n < 256) : shiftOf (-BitVec.ofNat 18 n) = ⟨false, n⟩ := by
  have hsign : (-BitVec.ofNat 18 n).getLsbD 17 = true := by
    rw [getLsbD_sign, decide_eq_true_eq, BitVec.toInt_neg_iff, BitVec.toNat_neg, BitVec.toNat_ofNat]
    omega
  rw [shiftOf, if_pos hsign, BitVec.neg_neg, BitVec.toNat_ofNat]
  congr 1
  omega

/-- A function of E that depends on direction and count alone, a count of 0 having no direction. -/
def OfShift {α : Type} (f : VAddr → α) : Prop :=
  ∃ left right : Nat → α, (∀ e n, shiftOf e = ⟨true, n⟩ → f e = left n) ∧
    (∀ e n, shiftOf e = ⟨false, n⟩ → f e = right n) ∧ left 0 = right 0

theorem OfShift.normal {α : Type} {f : VAddr → α} (hf : OfShift f) {e n : VAddr}
    (hn : n = if e.getLsbD 17 then -BitVec.ofNat 18 ((-e).toNat % 256) else BitVec.ofNat 18 (e.toNat % 256)) :
    f e = f n := by
  obtain ⟨left, right, hleft, hright, hzero⟩ := hf
  have hlt (x : Nat) : x % 256 < 256 := Nat.mod_lt _ (by decide)
  subst hn
  by_cases hsign : e.getLsbD 17 = true
  · rw [if_pos hsign, hright e _ (if_pos hsign)]
    rcases Nat.eq_zero_or_pos ((-e).toNat % 256) with h0 | hpos
    · rw [h0, ← hzero]
      exact (hleft _ 0 (shiftOf_ofNat (by decide))).symm
    · exact (hright _ _ (shiftOf_neg_ofNat hpos (hlt _))).symm
  · rw [if_neg hsign, hleft e _ (if_neg hsign)]
    exact (hleft _ _ (shiftOf_ofNat (hlt _))).symm

section
variable {a hi lo : Word} {e : VAddr} {n : Nat}

/-! ### Logical shifts and rotations (R662, R663, R666 to R668) -/

theorem lsh_left (h : shiftOf e = ⟨true, n⟩) : lsh a e = a <<< n := by simp only [lsh, h, if_true]

theorem lsh_right (h : shiftOf e = ⟨false, n⟩) : lsh a e = a >>> n := by
  simp only [lsh, h, Bool.false_eq_true, if_false]

theorem lshc_left (h : shiftOf e = ⟨true, n⟩) : lshc hi lo e = split72 ((hi ++ lo : BitVec 72) <<< n) := by
  simp only [lshc, h, if_true]

theorem lshc_right (h : shiftOf e = ⟨false, n⟩) : lshc hi lo e = split72 ((hi ++ lo : BitVec 72) >>> n) := by
  simp only [lshc, h, Bool.false_eq_true, if_false]

theorem rotCount_left (w n : Nat) : rotCount w ⟨true, n⟩ = n % w := rfl

theorem rotCount_right (w n : Nat) : rotCount w ⟨false, n⟩ = (w - n % w) % w := rfl

/-- The two words of a 72-bit value, joined again. -/
theorem joined_split72 (x : BitVec 72) : joined (split72 x) = x :=
  (BitVec.extractLsb'_append_extractLsb'_eq_extractLsb' (by rfl)).trans BitVec.extractLsb'_eq_self

theorem joined_rotc (hi lo : Word) (e : VAddr) :
    joined (rotc hi lo e) = (hi ++ lo : BitVec 72).rotateLeft (rotCount 72 (shiftOf e)) := joined_split72 _

theorem circled_circ (hi lo : Word) (e : VAddr) :
    circled (circ hi lo e) = (circled (hi, lo)).rotateLeft (rotCount 72 (shiftOf e)) := by
  rw [circled, circ, BitVec.reverse_reverse_eq]
  exact joined_split72 _

/-- A bit of a value rotated to the left by `r` goes `r` places up, round the end. -/
theorem getLsbD_rotateLeft_add {w i : Nat} (x : BitVec w) (r : Nat) (hi : i < w) :
    (x.rotateLeft (r % w)).getLsbD ((i + r) % w) = x.getLsbD i := by
  have hr : r % w < w := Nat.mod_lt _ (by omega)
  rw [BitVec.getLsbD_rotateLeft, Nat.mod_mod, ← Nat.add_mod_mod]
  by_cases hlt : i + r % w < w
  · rw [Nat.mod_eq_of_lt hlt]
    simp [hlt]
  · rw [Nat.mod_eq_sub_mod (by omega), Nat.mod_eq_of_lt (by omega)]
    simp only [show i + r % w - w < r % w by omega, decide_true, cond_true]
    congr 1
    omega

/-- The rotation to the right by `n` is that to the left by the rest of the width. -/
theorem getLsbD_rotateRight_add {w i : Nat} (x : BitVec w) (n : Nat) (hi : i < w) :
    (x.rotateLeft ((w - n % w) % w)).getLsbD i = x.getLsbD ((i + n) % w) := by
  have hn : n % w < w := Nat.mod_lt _ (by omega)
  have hround : ((i + n) % w + (w - n % w) % w) % w = i := by
    rw [Nat.add_mod_mod, ← Nat.add_mod_mod i, Nat.mod_add_mod, Nat.add_assoc, Nat.add_sub_cancel' hn.le,
      Nat.add_mod_right, Nat.mod_eq_of_lt hi]
  have h := getLsbD_rotateLeft_add x ((w - n % w) % w) (Nat.mod_lt (i + n) (by omega))
  rwa [hround, Nat.mod_mod] at h

/-! ### The sign and the low bits of a word -/

theorem signed_eq_low (w : Word) : signed w = (w.toNat % 2 ^ 35 : Nat) - if negative w then 2 ^ 35 else 0 := by
  have hw := w.isLt
  rw [signed, BitVec.toInt_eq_toNat_cond, negative_eq_decide]
  simp only [decide_eq_true_eq]
  split <;> split <;> omega

theorem toNat_and_maxPos (w : Word) : (w &&& maxPos).toNat = w.toNat % 2 ^ 35 := by
  rw [BitVec.toNat_and]
  exact Nat.and_two_pow_sub_one_eq_mod _ 35

/-- A bit of a word whose sign has been given. -/
theorem getLsbD_withSign (b : Bool) (w : Word) {i : Nat} (hi : i < 35) : (withSign b w).getLsbD i = w.getLsbD i := by
  have hlow := congrArg (Nat.testBit · i) (low_withSign b w)
  simp only [Nat.testBit_mod_two_pow, hi, decide_true, Bool.true_and] at hlow
  exact hlow

theorem and_not_or_self {k : Nat} (x y : BitVec k) : (x &&& ~~~y) ||| y = x ||| y := by
  apply BitVec.eq_of_getLsbD_eq
  intro i hi
  simp only [BitVec.getLsbD_or, BitVec.getLsbD_and, BitVec.getLsbD_not, hi, decide_true, Bool.true_and]
  cases x.getLsbD i <;> cases y.getLsbD i <;> rfl

/-- A word with the sign of another: its bits but the sign, under the sign bit of the other. -/
theorem withSign_negative (w x : Word) : withSign (negative w) x = (w &&& signWord) ||| (x &&& maxPos) := by
  have hsign : w &&& signWord = if negative w then signWord else 0 := BitVec.and_twoPow w 35
  have hrest : signWord ||| (x &&& maxPos) = x ||| signWord := by
    have hnot : maxPos = ~~~signWord := by decide
    rw [hnot, BitVec.or_comm]
    exact and_not_or_self x signWord
  rw [hsign, withSign]
  split
  · exact hrest.symm
  · exact BitVec.zero_or.symm

/-! ### Shifting an integer held as low bits and a sign -/

/-- A value of `k` low bits under a sign. -/
def signedLow (k M : Nat) (neg : Bool) : Int := M - if neg then 2 ^ k else 0

section
variable {k M : Nat} {neg : Bool}

/-- The product with a power of two: the bits that leave to the left, and those that stay. -/
theorem signedLow_mul (hn : n ≤ k) :
    signedLow k M neg * 2 ^ n =
      2 ^ k * ((M / 2 ^ (k - n) : Nat) - if neg then 2 ^ n else 0 : Int) + (M * 2 ^ n % 2 ^ k : Nat) := by
  have hk : 2 ^ k = 2 ^ (k - n) * 2 ^ n := by rw [← pow_add, Nat.sub_add_cancel hn]
  have hdiv : M / 2 ^ (k - n) = M * 2 ^ n / 2 ^ k := by rw [hk, Nat.mul_div_mul_right _ _ (by positivity)]
  have hsplit : (2 : Int) ^ k * (M / 2 ^ (k - n) : Nat) + (M * 2 ^ n % 2 ^ k : Nat) = M * 2 ^ n := by
    rw [hdiv]
    exact_mod_cast Nat.div_add_mod (M * 2 ^ n) (2 ^ k)
  rw [mul_sub, signedLow, sub_mul, ← hsplit]
  cases neg
  · simp
  · simp only [if_true]
    ring

/-- A value with low bits `x` fits when the rest of it is the sign alone. -/
theorem fits_iff {w c x : Int} (hx : 0 ≤ x) (hw : x < w) : (-w ≤ w * c + x ∧ w * c + x < w) ↔ c = 0 ∨ c = -1 := by
  constructor
  · rintro ⟨hge, hlt⟩
    have hupper : c < 1 := by nlinarith
    have hlower : -2 < c := by nlinarith
    omega
  · rintro (rfl | rfl) <;> omega

/-- The product fits when the bits that leave repeat the sign. -/
theorem signedLow_mul_fits (hn : n ≤ k) (hM : M < 2 ^ k) :
    (-2 ^ k ≤ signedLow k M neg * 2 ^ n ∧ signedLow k M neg * 2 ^ n < 2 ^ k) ↔
      M / 2 ^ (k - n) = if neg then 2 ^ n - 1 else 0 := by
  have hlow : ((M * 2 ^ n % 2 ^ k : Nat) : Int) < 2 ^ k := by
    exact_mod_cast Nat.mod_lt _ (by positivity)
  have hlost : M / 2 ^ (k - n) < 2 ^ n := by
    rw [Nat.div_lt_iff_lt_mul (by positivity), ← pow_add, Nat.add_sub_cancel' hn]
    exact hM
  have hpow : ((2 ^ n : Nat) : Int) = 2 ^ n := by norm_cast
  rw [signedLow_mul hn, fits_iff (by positivity) hlow, ← hpow]
  generalize M / 2 ^ (k - n) = lost at hlost ⊢
  generalize 2 ^ n = p at hlost ⊢
  cases neg <;> simp only [if_true, Bool.false_eq_true, if_false] <;> omega

/-- A product that fits is its low bits under the old sign. -/
theorem signedLow_mul_exact (hn : n ≤ k) (h : M / 2 ^ (k - n) = if neg then 2 ^ n - 1 else 0) :
    signedLow k M neg * 2 ^ n = signedLow k (M * 2 ^ n % 2 ^ k) neg := by
  have hpow : ((2 ^ n - 1 : Nat) : Int) = 2 ^ n - 1 := by
    rw [Nat.cast_sub Nat.one_le_two_pow]
    norm_cast
  rw [signedLow_mul hn, h, signedLow]
  cases neg
  · simp
  · simp only [if_true, hpow]
    ring

theorem signedLow_emod (k M : Nat) (neg : Bool) : signedLow k M neg % 2 ^ k = (M % 2 ^ k : Nat) := by
  rw [signedLow]
  cases neg <;> simp

/-- A quotient by 2^k or a higher power is the sign alone. -/
theorem ediv_two_pow_capped {v : Int} (hge : -2 ^ k ≤ v) (hlt : v < 2 ^ k) (n : Nat) : v / 2 ^ min n k = v / 2 ^ n := by
  rcases Nat.le_total n k with h | h
  · rw [min_eq_left h]
  · have hpow : (2 : Int) ^ k ≤ 2 ^ n := pow_le_pow_right₀ (by decide) h
    rw [min_eq_right h]
    by_cases hv : v < 0
    · rw [Int.ediv_eq_neg_one_of_neg_of_le hv (by omega), Int.ediv_eq_neg_one_of_neg_of_le hv (by omega)]
    · rw [Int.ediv_eq_zero_of_lt (by omega) hlt, Int.ediv_eq_zero_of_lt (by omega) (by omega)]

end

/-! ### ASH (R661) -/

theorem signed_eq_signedLow (w : Word) : signed w = signedLow 35 (w.toNat % 2 ^ 35) (negative w) := signed_eq_low w

/-- The bits that leave a word shifted left by `n`. -/
theorem lost_word (a : Word) (hn : n ≤ 35) (neg : Bool) :
    ((a &&& maxPos) >>> (35 - n) = if neg then BitVec.ofNat 36 (2 ^ n - 1) else 0) ↔
      a.toNat % 2 ^ 35 / 2 ^ (35 - n) = if neg then 2 ^ n - 1 else 0 := by
  have hpow : 2 ^ n ≤ 2 ^ 35 := Nat.pow_le_pow_right (by decide) hn
  rw [← BitVec.toNat_inj, BitVec.toNat_ushiftRight, toNat_and_maxPos, Nat.shiftRight_eq_div_pow]
  cases neg
  · exact Iff.rfl
  · simp only [if_true, BitVec.toNat_ofNat]
    rw [Nat.mod_eq_of_lt (show 2 ^ n - 1 < 2 ^ 36 by omega)]

theorem ash_left (h : shiftOf e = ⟨true, n⟩) : ash a e = ⟨withSign (negative a) (a <<< min n 35),
    if a.toNat % 2 ^ 35 / 2 ^ (35 - min n 35) = (if negative a then 2 ^ min n 35 - 1 else 0) then Flags.zero
      else overflowFlags⟩ := by
  rw [withSign_negative]
  simp only [ash, h, if_true, lost_word a (min_le_right n 35)]

theorem ash_right (h : shiftOf e = ⟨false, n⟩) : ash a e = ⟨a.sshiftRight (min n 35), Flags.zero⟩ := by
  simp only [ash, h, Bool.false_eq_true, if_false]

theorem signed_sshiftRight (a : Word) (n : Nat) : signed (a.sshiftRight (min n 35)) = signed a / 2 ^ n := by
  rw [signed, BitVec.toInt_sshiftRight, Int.shiftRight_eq_div_pow]
  push_cast
  exact ediv_two_pow_capped (signed_ge a) (signed_lt a) n

/-- The value of a word shifted left under its sign. -/
theorem signed_shiftLeft (a : Word) (n : Nat) :
    signed (withSign (negative a) (a <<< n)) = signedLow 35 (a.toNat % 2 ^ 35 * 2 ^ n % 2 ^ 35) (negative a) := by
  rw [signed_eq_signedLow, negative_withSign, low_withSign, BitVec.toNat_shiftLeft, Nat.shiftLeft_eq,
    Nat.mod_mod_of_dvd _ (by decide), Nat.mod_mul_mod]

/-! ### ASHC (R665) -/

/-- The 70 magnitude bits of a double word. -/
def low70 (hi lo : Word) : BitVec 70 := hi.extractLsb' 0 35 ++ lo.extractLsb' 0 35

/-- Two words from 70 bits and a sign, with the flags. -/
def pairOf (neg : Bool) (x : BitVec 70) (f : Flags) : PairFlags where
  hi := withSign neg ((x.extractLsb' 35 35).setWidth 36)
  lo := withSign neg ((x.extractLsb' 0 35).setWidth 36)
  flags := f

theorem dval_eq_signedLow (hi lo : Word) : dval hi lo = signedLow 70 (low70 hi lo).toNat (negative hi) := by
  rw [dval, signed_eq_low, low70, toNat_append_add, BitVec.extractLsb'_toNat, BitVec.extractLsb'_toNat, signedLow]
  simp only [Nat.shiftRight_zero]
  split <;> omega

theorem dval_pairOf (neg : Bool) (x : BitVec 70) (f : Flags) :
    dval (pairOf neg x f).hi (pairOf neg x f).lo = signedLow 70 x.toNat neg := by
  have hx := x.isLt
  simp only [pairOf, dval_withSign]
  rw [dval, signed_eq_low, negative_withSign, low_withSign, BitVec.toNat_setWidth, BitVec.toNat_setWidth,
    BitVec.extractLsb'_toNat, BitVec.extractLsb'_toNat, signedLow]
  simp only [Nat.shiftRight_eq_div_pow]
  split <;> omega

theorem ashc_left (h : shiftOf e = ⟨true, n⟩) : ashc hi lo e = pairOf (negative hi) (low70 hi lo <<< min n 70)
    (if (low70 hi lo).toNat / 2 ^ (70 - min n 70) = (if negative hi then 2 ^ min n 70 - 1 else 0) then Flags.zero
      else overflowFlags) := by
  simp only [ashc, h, if_true, Bool.true_and, bne_iff_ne, ite_not]
  rfl

theorem ashc_right (h : shiftOf e = ⟨false, n⟩) :
    ashc hi lo e = pairOf (negative hi) (BitVec.ofInt 70 (dval hi lo / 2 ^ min n 70)) Flags.zero := by
  have hsum : (if negative hi then -2 ^ 70 else 0) + ((low70 hi lo).toNat : Int) = dval hi lo := by
    rw [dval_eq_signedLow, signedLow]
    split <;> omega
  rw [← hsum]
  simp only [ashc, h, Bool.false_eq_true, if_false, Bool.false_and]
  rfl

/-- The quotient of a value by a power of two is in range and has the sign of the value. -/
theorem signedLow_quotient {v : Int} {neg : Bool} (hge : -2 ^ 70 ≤ v) (hlt : v < 2 ^ 70) (hneg : neg = decide (v < 0))
    (n : Nat) : signedLow 70 (BitVec.ofInt 70 (v / 2 ^ n)).toNat neg = v / 2 ^ n := by
  have hpos : (0 : Int) < 2 ^ n := by positivity
  rw [signedLow, BitVec.toNat_ofInt, hneg]
  by_cases hv : v < 0
  · have hq : v / 2 ^ n < 0 := Int.ediv_neg_of_neg_of_pos hv hpos
    have hqge : -2 ^ 70 ≤ v / 2 ^ n := Int.le_ediv_of_mul_le hpos (by nlinarith)
    simp only [hv, decide_true, if_true]
    omega
  · have hq : 0 ≤ v / 2 ^ n := Int.ediv_nonneg (by omega) hpos.le
    have hqle : v / 2 ^ n ≤ v := Int.ediv_le_self _ (by omega)
    simp only [hv, decide_false, Bool.false_eq_true, if_false]
    omega

theorem negative_eq_dval_neg (hi lo : Word) : negative hi = decide (dval hi lo < 0) := by
  have hlt := (low70 hi lo).isLt
  rw [dval_eq_signedLow, signedLow]
  cases negative hi
  · simp
  · simp only [if_true]
    symm
    rw [decide_eq_true_eq]
    omega

/-- The value of a double word shifted left under its sign. -/
theorem dval_shiftLeft (hi lo : Word) (n : Nat) (f : Flags) :
    dval (pairOf (negative hi) (low70 hi lo <<< n) f).hi (pairOf (negative hi) (low70 hi lo <<< n) f).lo =
      signedLow 70 ((low70 hi lo).toNat * 2 ^ n % 2 ^ 70) (negative hi) := by
  rw [dval_pairOf, BitVec.toNat_shiftLeft, Nat.shiftLeft_eq]

end

/-! ### Every shift depends on direction and count alone (R660) -/

theorem ofShift_rotCount {α : Type} (w : Nat) (f : Nat → α) : OfShift fun e => f (rotCount w (shiftOf e)) :=
  ⟨fun n => f (n % w), fun n => f ((w - n % w) % w), fun _ _ h => congrArg (fun sh => f (rotCount w sh)) h,
    fun _ _ h => congrArg (fun sh => f (rotCount w sh)) h, by simp⟩

section
variable (a hi lo : Word)

theorem ofShift_rot : OfShift (rot a) := ofShift_rotCount 36 a.rotateLeft

theorem ofShift_rotc : OfShift (rotc hi lo) :=
  ofShift_rotCount 72 fun r => split72 ((hi ++ lo : BitVec 72).rotateLeft r)

theorem ofShift_circ : OfShift (circ hi lo) :=
  ofShift_rotCount 72 fun r => ((split72 ((hi ++ lo.reverse : BitVec 72).rotateLeft r)).1,
    (split72 ((hi ++ lo.reverse : BitVec 72).rotateLeft r)).2.reverse)

theorem ofShift_lsh : OfShift (lsh a) :=
  ⟨(a <<< ·), (a >>> ·), fun _ _ h => lsh_left h, fun _ _ h => lsh_right h, by simp⟩

theorem ofShift_lshc : OfShift (lshc hi lo) :=
  ⟨_, _, fun _ _ h => lshc_left h, fun _ _ h => lshc_right h, by simp⟩

theorem ofShift_ash : OfShift (ash a) := by
  refine ⟨_, _, fun _ _ h => ash_left h, fun _ _ h => ash_right h, ?_⟩
  have hword : withSign (negative a) a = a := by
    have h := signed_shiftLeft a 0
    rw [BitVec.shiftLeft_zero, pow_zero, mul_one, Nat.mod_mod, ← signed_eq_signedLow] at h
    exact BitVec.toInt_inj.mp h
  simp [hword]

theorem ofShift_ashc : OfShift (ashc hi lo) := by
  refine ⟨_, _, fun _ _ h => ashc_left h, fun _ _ h => ashc_right h, ?_⟩
  have hlow : low70 hi lo <<< 0 = BitVec.ofInt 70 (dval hi lo / 2 ^ 0) := by
    have hlt := (low70 hi lo).isLt
    rw [BitVec.shiftLeft_zero, pow_zero, Int.ediv_one]
    apply BitVec.eq_of_toNat_eq
    rw [dval_eq_signedLow, BitVec.toNat_ofInt, signedLow]
    split <;> omega
  have hlost : (low70 hi lo).toNat / 2 ^ 70 = 0 := Nat.div_eq_of_lt (low70 hi lo).isLt
  rw [Nat.min_eq_left (Nat.zero_le 70), Nat.sub_zero, hlow, hlost]
  simp

end

/-! ### The statement -/

/-- A logical shift to the left, bit by bit. -/
theorem getLsbD_shiftLeft_lt {w i : Nat} (x : BitVec w) (n : Nat) (hi : i < w) :
    (x <<< n).getLsbD i = (decide (n ≤ i) && x.getLsbD (i - n)) := by
  rw [BitVec.getLsbD_shiftLeft, ← decide_not]
  simp only [hi, decide_true, Bool.true_and, Nat.not_lt]

/-- Settles O41: the logical shifts and rotations bit by bit, ASH and ASHC by their value as low bits under a sign
(`signedLow`). -/
theorem shiftValues : Obligations.ShiftValues := by
  refine ⟨?normal, ?left, ?right, ?left2, ?right2, ?ashRight, ?ashLeft, ?capped, ?ashcRight, ?ashcLeft⟩
  case normal =>
    intro a hi lo e n hn
    exact ⟨(ofShift_lsh a).normal hn, (ofShift_rot a).normal hn, (ofShift_ash a).normal hn,
      (ofShift_ashc hi lo).normal hn, (ofShift_rotc hi lo).normal hn, (ofShift_lshc hi lo).normal hn,
      (ofShift_circ hi lo).normal hn⟩
  case left =>
    intro a n i hn hi
    rw [lsh_left (shiftOf_ofNat hn), rot, shiftOf_ofNat hn, rotCount_left]
    exact ⟨getLsbD_shiftLeft_lt a n hi, getLsbD_rotateLeft_add a n hi⟩
  case right =>
    intro a n i hpos hn hi
    rw [lsh_right (shiftOf_neg_ofNat hpos hn), rot, shiftOf_neg_ofNat hpos hn, rotCount_right,
      BitVec.getLsbD_ushiftRight, Nat.add_comm n]
    exact ⟨rfl, getLsbD_rotateRight_add a n hi⟩
  case left2 =>
    intro hi lo n i hn hlt
    rw [joined_rotc, circled_circ, lshc_left (shiftOf_ofNat hn), joined_split72, shiftOf_ofNat hn, rotCount_left]
    exact ⟨getLsbD_rotateLeft_add _ n hlt, getLsbD_shiftLeft_lt _ n hlt, getLsbD_rotateLeft_add _ n hlt⟩
  case right2 =>
    intro hi lo n i hpos hn hlt
    rw [joined_rotc, circled_circ, lshc_right (shiftOf_neg_ofNat hpos hn), joined_split72, shiftOf_neg_ofNat hpos hn,
      rotCount_right, BitVec.getLsbD_ushiftRight, Nat.add_comm n]
    exact ⟨getLsbD_rotateRight_add _ n hlt, rfl, getLsbD_rotateRight_add _ n hlt⟩
  case ashRight =>
    intro a n hpos hn
    rw [ash_right (shiftOf_neg_ofNat hpos hn)]
    exact ⟨signed_sshiftRight a n, rfl⟩
  case ashLeft =>
    rintro a n r hn rfl
    have hM : a.toNat % 2 ^ 35 < 2 ^ 35 := Nat.mod_lt _ (by decide)
    rw [ash_left (shiftOf_ofNat (by omega)), min_eq_left hn, signed_eq_signedLow a, signedLow_mul_fits hn hM]
    refine ⟨fun hfits => ⟨if_pos hfits, ?_⟩, fun hfits => ⟨if_neg hfits, negative_withSign _ _, fun i hi => ?_⟩⟩
    · rw [signed_shiftLeft, signedLow_mul_exact hn hfits]
    · rw [getLsbD_withSign _ _ hi, getLsbD_shiftLeft_lt a n (by omega)]
  case capped =>
    intro a hi lo n hn
    refine ⟨fun hcap => ?_, fun hcap => ?_⟩
    · rw [ash_left (shiftOf_ofNat hn), ash_left (n := 35) rfl, min_eq_right hcap, min_self]
    · rw [ashc_left (shiftOf_ofNat hn), ashc_left (n := 70) rfl, min_eq_right hcap, min_self]
  case ashcRight =>
    rintro hi lo n r hpos hn rfl
    rw [ashc_right (shiftOf_neg_ofNat hpos hn), dval_pairOf]
    refine ⟨?_, negative_withSign _ _, rfl⟩
    rw [signedLow_quotient (dval_ge hi lo) (dval_lt hi lo) (negative_eq_dval_neg hi lo),
      ediv_two_pow_capped (dval_ge hi lo) (dval_lt hi lo)]
  case ashcLeft =>
    rintro hi lo n r hn rfl
    have hM := (low70 hi lo).isLt
    rw [ashc_left (shiftOf_ofNat (by omega)), min_eq_left hn, dval_shiftLeft, dval_eq_signedLow hi lo,
      signedLow_mul_fits hn hM]
    refine ⟨negative_withSign _ _, negative_withSign _ _, fun hfits => ⟨if_pos hfits, ?_⟩,
      fun hfits => ⟨if_neg hfits, ?_⟩⟩
    · rw [signedLow_mul_exact hn hfits]
    · rw [signedLow_emod, Nat.mod_mod, signedLow_mul hn]
      omega

end Sys2Proof.Machine
end

section
/-! SUPPORT. JRST and its functions, JFCL and MAP: the whole next state (45_shift_jump.md sections 3 and 4, R673 to
R685, R688). -/

namespace Sys2Proof.Machine

open Sys2Proof Sys2Proof.Statements

section
variable {s s1 s2 s3 s4 s5 t : State} {ac fn : AcNum} {m : EaField} {e : VAddr} {w f p : Word} {b : Word × Word}

/-! ### The gate (R673) -/

/-- The gate of a JRST function lets the mode in force through. -/
def JrstClass.allows (cls : JrstClass) (s : State) : Bool :=
  match cls with
  | .unrestricted => true
  | .exec => s.mayExec
  | .uio => s.mayIo

/-- A JRST function whose gate is open is its effect. -/
theorem jrstOp_run {cls : JrstClass} {act : VAddr → M Unit} (h1 : ea m s = .ok e s1) (ho : cls.allows s = true) :
    jrstOp cls fn m act s = act e s1 := by
  have fr := (Frames.ea m).ok h1
  cases cls <;> simp only [JrstClass.allows] at ho <;>
    simp only [jrstOp, run_bind, h1, run_getS, run_ite, fr.mayExec, fr.mayIo, ho, if_true]

theorem jrstOp_finish {cls : JrstClass} {act : VAddr → M Unit} (h1 : ea m s = .ok e s1) (ho : cls.allows s = true)
    (h2 : act e s1 = .ok () t) : finish (jrstOp cls fn m act) s = .next t :=
  finish_of_ok ((jrstOp_run h1 ho).trans h2)

/-! ### The effects -/

theorem halt_stops : halt e s = .error (.stop .halt) (s.setPc e) := by
  simp only [halt, run_bind, run_jump, run_raise]

theorem flagsWord_run {r : EaResult} (hs : SameRegisters s s1)
    (hw : w = if r.idx = 0 then r.last.getD (pack 0o254 fn m) else s.acOf (s.block s.ctxEa) r.idx) :
    flagsWord fn m r s1 = .ok w s1 := by
  have hac : s1.acOf (s1.block s1.ctxEa) r.idx = s.acOf (s.block s.ctxEa) r.idx := by
    rw [show s1.ctxEa = s.ctxEa by simp [State.ctxEa, hs.pxct]]
    cases s.ctxEa <;> simp [State.acOf, State.block, hs.acb, hs.base, hs.inUser]
  rw [flagsWord, hac, hw]

theorem jrstfOp_run {r : EaResult} (h1 : eaFull m s = .ok r s1)
    (hw : w = if r.idx = 0 then r.last.getD (pack 0o254 2 m) else s.acOf (s.block s.ctxEa) r.idx) :
    jrstfOp m s = .ok () ((setNewflags (lh w) true s1).setPc r.addr) := by
  simp only [jrstfOp, run_bind, h1, flagsWord_run ((Frames.eaFull m).ok h1) hw, run_restoreFlpc]

theorem jenOp_run {r : EaResult} (hio : s.mayIo = true) (h1 : eaFull m s = .ok r s1)
    (hw : w = if r.idx = 0 then r.last.getD (pack 0o254 0o12 m) else s.acOf (s.block s.ctxEa) r.idx) :
    jenOp m s = .ok () ((setNewflags (lh w) true (dismissSt s1)).setPc r.addr) := by
  have fr := (Frames.eaFull m).ok h1
  simp only [jenOp, run_bind, h1, run_getS, run_ite, fr.mayIo, hio, if_true, flagsWord_run fr hw, run_dismiss,
    run_restoreFlpc]

theorem xjrstf_run (h : rdE2 e s = .ok b s1) :
    xjrstf e s = .ok () ((setNewflags (lh b.1) true s1).setPc (rh b.2)) := by
  simp only [xjrstf, run_bind, h, run_restoreFlpc]

theorem xjen_run (h : rdE2 e s = .ok b s1) :
    xjen e s = .ok () ((setNewflags (lh b.1) true (dismissSt s1)).setPc (rh b.2)) := by
  simp only [xjen, run_bind, h, run_dismiss, run_restoreFlpc]

theorem xpcw_run (h1 : wrE e (xwd s.flags.toHalf 0) s = .ok () s1) (h2 : wrE (e + 1) (xwd 0 s.pc) s1 = .ok () s2)
    (h3 : rdE (e + 2) s2 = .ok f s3) (h4 : rdE (e + 3) s3 = .ok p s4) :
    xpcwIn rdE wrE e s = .ok () ((setNewflags (lh f) false s4).setPc (rh p)) := by
  simp only [xpcwIn, run_bind, run_getS, h1, h2, h3, h4, run_modS]

/-! ### JFCL (R685) -/

theorem jfclOp_run (h1 : ea m s = .ok e s1) : jfclOp ac m s = .ok () { s1 with
    pc := if jfclHit ac s.flags then e else s1.pc
    flags := jfclClr ac s.flags } := by
  simp only [jfclOp, run_bind, h1, run_getS, run_onlyIf, run_jump, run_modS, ((Frames.ea m).ok h1).flags]
  by_cases hit : jfclHit ac s.flags = true
  · simp only [hit, if_true, State.setPc, ((Frames.ea m).ok h1).flags]
  · simp only [hit, Bool.false_eq_true, if_false, ((Frames.ea m).ok h1).flags]

/-! ### MAP (R688) -/

theorem SameRegisters.space {s t : State} (h : SameRegisters s t) (c : Ctx) : t.space c = s.space c := by
  cases c <;> simp [State.space, h.inUser, h.flags]

theorem mapOp_run (hi : s.cfg.its = false) (h1 : ea m s = .ok e s1)
    (h2 : mapWord (s.space s.ctxData) e s1 = .ok w t) : mapOp ac m s = .ok () (t.setAc ac w) := by
  have fr := (Frames.ea m).ok h1
  simp only [mapOp, run_bind, h1, run_getS, run_ite, fr.cfg, hi, Bool.false_eq_true, if_false, fr.ctxData, fr.space, h2,
    run_putAc]

variable {user : Bool} {va : VAddr}

/-- With paging off, and for an accumulator, the map is the identity and writable (R688, log entry 18). -/
theorem mapWord_identity (h : s.base.ebr.pgon = false ∨ va.toNat < 0o20) :
    mapWord user va s = .ok (s.pfwWord (.mapped user true va.toNat)) s := by
  have : (isAc va || !s.base.ebr.pgon) = true := by
    rcases h with h | h
    · simp [h]
    · simp [isAc_of_lt h]
  rw [mapWord, if_pos this]

theorem mapWord_mapped {n : TlbEntry} (hp : s.base.ebr.pgon = true) (hva : 0o20 ≤ va.toNat)
    (hn : entryFor user .map va s = .ok n t) :
    mapWord user va s = .ok (s.pfwWord (.mapped user n.writable (physOf n.ppn va))) t := by
  have : ¬ (isAc va || !s.base.ebr.pgon) = true := by simp [hp, isAc_of_ge hva]
  rw [mapWord, if_neg this, hn]

/-- A translation that page-fails gives the status word, and is no page fail of the instruction. -/
theorem mapWord_fails (hp : s.base.ebr.pgon = true) (hva : 0o20 ≤ va.toNat)
    (hf : entryFor user .map va s = .error .pageFail t) : mapWord user va s = .ok t.pagerWord t := by
  have : ¬ (isAc va || !s.base.ebr.pgon) = true := by simp [hp, isAc_of_ge hva]
  rw [mapWord, if_neg this, hf]

end

/-! ### The statements -/

/-- Settles O44: the functions of JRST by `jrstOp_run`, JFCL by `jfclOp_run`. -/
theorem jrstForms : Obligations.JrstForms := by
  refine ⟨fun m s s1 e h1 => ⟨?jrst, ?portal, fun hio => ?jrst10, fun hex => ?halt⟩, ?xjrst, ?jfcl⟩
  case jrst => exact jrstOp_finish h1 rfl rfl
  case portal => exact jrstOp_finish h1 rfl rfl
  case jrst10 => exact jrstOp_finish h1 hio rfl
  case halt =>
    exact finish_of_error ((jrstOp_run (fn := 4) (cls := .exec) h1 hex).trans halt_stops)
  case xjrst =>
    intro m s s1 s2 e w hx h1 h2
    have hgate : s.cfg.hasXjrst = true := by
      rcases hx with h | h <;> simp [Config.hasXjrst, h]
    have hexec : exec (.xjrst m) s = finish (jrstOp .unrestricted 0o15 m xjrst) s := by
      change finish (if s.cfg.hasXjrst then _ else _) s = _
      rw [if_pos hgate]
    have hrun : xjrst e s1 = .ok () (s2.setPc (rh w)) := by simp only [xjrst, run_bind, h2, run_jump]
    rw [hexec]
    exact jrstOp_finish h1 rfl hrun
  case jfcl =>
    intro ac m s s1 e h1
    rw [((Frames.ea m).ok h1).flags]
    exact finish_of_ok (jfclOp_run h1)

/-- Settles O45: each return by the run of its effect. -/
theorem flagRestores : Obligations.FlagRestores := by
  refine ⟨?jrstf, ?jen, ?pair, ?xpcw, ?sfm⟩
  case jrstf =>
    intro m s s1 r w h1 hw
    exact finish_of_ok (jrstfOp_run h1 hw)
  case jen =>
    intro m s s1 r w hio h1 hw
    exact finish_of_ok (jenOp_run hio h1 hw)
  case pair =>
    intro m s s1 s2 e b h1 h2
    exact ⟨jrstOp_finish h1 rfl (xjrstf_run h2), fun hex => jrstOp_finish h1 hex (xjen_run h2)⟩
  case xpcw =>
    intro m s s1 s2 s3 s4 s5 e f p hex h1 hw1 hw2 hr1 hr2
    have fr := (Frames.ea m).ok h1
    rw [← fr.flags] at hw1
    rw [← fr.pc] at hw2
    exact jrstOp_finish h1 hex (xpcw_run hw1 hw2 hr1 hr2)
  case sfm =>
    intro m s s1 t e hex h1 hw
    rw [← ((Frames.ea m).ok h1).flags] at hw
    exact jrstOp_finish h1 hex hw

/-- Settles O47: `mapWord_identity`, `mapWord_mapped` and `mapWord_fails`; the success word is the standard layout
written out. -/
theorem mapForm : Obligations.MapForm := by
  refine ⟨fun ac m s s1 e hi h1 => ⟨fun h => ?identity, fun hp he => ⟨fun n t hn => ?mapped, fun t hf => ?fails⟩⟩,
    fun s user w pa hl => ?word⟩
  case identity =>
    have fr := (Frames.ea m).ok h1
    rw [← fr.base] at h
    rw [← fr.pfwWord]
    exact finish_of_ok (mapOp_run hi h1 (mapWord_identity h))
  case mapped =>
    have fr := (Frames.ea m).ok h1
    rw [← fr.base] at hp
    rw [← fr.pfwWord]
    exact finish_of_ok (mapOp_run hi h1 (mapWord_mapped hp he hn))
  case fails =>
    rw [← ((Frames.ea m).ok h1).base] at hp
    exact finish_of_ok (mapOp_run hi h1 (mapWord_fails hp he hf))
  case word =>
    simp only [State.pfwWord, hl, pfwStandard, pfw, Bool.false_eq_true, if_false, if_true, BitVec.ofNat_eq_ofNat,
      BitVec.or_zero, pfwU, signWord]

end Sys2Proof.Machine
end

section
/-! SUPPORT. The stack and subroutine instructions: the whole next state (45_shift_jump.md section 5, R689 to R697). -/

namespace Sys2Proof.Machine

open Sys2Proof

/-! ### Flags -/

/-- The flags a stack step sets: TRAP2 when the left half of the pointer is 0 (R689). -/
theorem union_stackFlags (f : Flags) (n : Word) :
    f.union (stackFlags n) = { f with trap2 := f.trap2 || lh n == 0 } := by
  by_cases h : lh n = 0
  · rw [stackFlags, if_pos h, h]
    simp [Flags.union, pushdownFlags, Flags.zero]
  · rw [stackFlags, if_neg h, beq_false_of_ne h]
    simp [Flags.union, Flags.zero]

theorem orFlags_stackFlags (s : State) (n : Word) :
    s.orFlags (stackFlags n) = { s with flags := { s.flags with trap2 := s.flags.trap2 || lh n == 0 } } := by
  rw [State.orFlags, union_stackFlags]

@[simp] theorem run_clrCall (s : State) : clrCall s = .ok () { s with flags := s.flags.callClr } := rfl

section
variable {s s1 s2 t : State} {ac : AcNum} {m : EaField} {e : VAddr} {v n : Word}

/-! ### The stack (R689 to R693) -/

theorem pushjOp_run (h1 : ea m s = .ok e s1) (hn : n = stackInc (s.ac ac)) (h2 : wrStk (rh n) s.flpc s1 = .ok () t) :
    pushjOp ac m s = .ok () { t.setAc ac n with
      pc := e
      flags := { t.flags with fpd := false, afi := false, trap1 := false, trap2 := lh n == 0 } } := by
  simp only [pushjOp, run_bind, h1, run_getS, ac_after_ea h1, ((Frames.ea m).ok h1).flpc, ← hn, h2, run_putAc,
    run_clrCall, run_setFlags, run_jump, orFlags_stackFlags]
  simp only [State.setPc, setAc_flags, Flags.callClr, Bool.false_or]

theorem pushOp_run (h1 : ea m s = .ok e s1) (h2 : rdE e s1 = .ok v s2) (hn : n = stackInc (s.ac ac))
    (h3 : wrStk (rh n) v s2 = .ok () t) :
    pushOp ac m s =
      .ok () { t.setAc ac n with flags := { t.flags with trap2 := t.flags.trap2 || lh n == 0 } } := by
  simp only [pushOp, run_bind, h1, h2, run_getAc, ac_after_rdE h1 h2, ← hn, h3, run_putAc, run_setFlags,
    orFlags_stackFlags, setAc_flags]

/-- The pointer stepped back is the one the store may have written. -/
theorem popOp_run (h1 : ea m s = .ok e s1) (h2 : rdStk (rh (s.ac ac)) s1 = .ok v s2) (h3 : wrE e v s2 = .ok () t) :
    popOp ac m s = .ok () { t.setAc ac (stackDec (t.ac ac)) with
      flags := { t.flags with trap2 := t.flags.trap2 || lh (t.ac ac) == 0 } } := by
  simp only [popOp, run_bind, h1, run_getAc, ac_after_ea h1, h2, h3, run_putAc, run_setFlags, orFlags_stackFlags,
    setAc_flags]

theorem popjOp_run (h1 : ea m s = .ok e s1) (h2 : rdStk (rh (s.ac ac)) s1 = .ok v s2) :
    popjOp ac m s = .ok () { s2.setAc ac (stackDec (s.ac ac)) with
      pc := rh v
      flags := { s2.flags with trap2 := s2.flags.trap2 || lh (s.ac ac) == 0 } } := by
  simp only [popjOp, run_bind, h1, run_getAc, ac_after_ea h1, h2, run_putAc, run_setFlags, orFlags_stackFlags,
    setAc_flags, run_jump, State.setPc]

/-! ### Subroutines (R694 to R697) -/

theorem jsrOp_run (h1 : ea m s = .ok e s1) (h2 : wrE e s.flpc s1 = .ok () t) :
    jsrOp m s = .ok () { t with pc := e + 1, flags := t.flags.callClr } := by
  simp only [jsrOp, run_bind, h1, run_getS, ((Frames.ea m).ok h1).flpc, h2, run_clrCall, run_jump, State.setPc]

theorem jspOp_run (h1 : ea m s = .ok e s1) :
    jspOp ac m s = .ok () { s1.setAc ac s.flpc with pc := e, flags := s.flags.callClr } := by
  simp only [jspOp, run_bind, h1, run_getS, ((Frames.ea m).ok h1).flpc, run_putAc, run_clrCall, run_jump, State.setPc,
    setAc_flags, ((Frames.ea m).ok h1).flags]

/-- A store changes no PC, be the address an accumulator or not. -/
theorem wrE_pc (h : wrE e v s = .ok () t) : t.pc = s.pc := by
  by_cases hva : isAc e = true
  · simp only [wrE, vwrite, hva, if_true] at h
    cases h
    rfl
  · exact (vwrite_same (Bool.eq_false_iff.mpr hva) h).pc

theorem jsaOp_run (h1 : ea m s = .ok e s1) (h2 : wrE e (s.ac ac) s1 = .ok () t) :
    jsaOp ac m s = .ok () ((t.setAc ac (xwd e s.pc)).setPc (e + 1)) := by
  simp only [jsaOp, run_bind, h1, run_getAc, ac_after_ea h1, h2, run_getS, (wrE_pc h2).trans ((Frames.ea m).ok h1).pc,
    run_putAc, run_jump]

theorem jraOp_run (h1 : ea m s = .ok e s1) (h2 : rdE (lh (s.ac ac)) s1 = .ok v s2) :
    jraOp ac m s = .ok () ((s2.setAc ac v).setPc e) := by
  simp only [jraOp, run_bind, h1, run_getAc, ac_after_ea h1, h2, run_putAc, run_jump]

end

/-- Settles O48: each instruction by the run of its operation. -/
theorem stackForms : Obligations.StackForms := by
  refine ⟨?pushj, ?push, ?pop, ?popj, ?jsr, ?jsp, ?jsa, ?jra⟩
  case pushj =>
    intro ac m s s1 t e n h1 hn h2
    exact finish_of_ok (pushjOp_run h1 hn h2)
  case push =>
    intro ac m s s1 s2 t e v n h1 h2 hn h3
    exact finish_of_ok (pushOp_run h1 h2 hn h3)
  case pop =>
    intro ac m s s1 s2 t e v h1 h2 h3
    exact finish_of_ok (popOp_run h1 h2 h3)
  case popj =>
    intro ac m s s1 s2 e v h1 h2
    exact finish_of_ok (popjOp_run h1 h2)
  case jsr =>
    intro ac m s s1 t e h1 h2
    exact finish_of_ok (jsrOp_run h1 h2)
  case jsp =>
    intro ac m s s1 e h1
    exact finish_of_ok (jspOp_run h1)
  case jsa =>
    intro ac m s s1 t e h1 h2
    exact finish_of_ok (jsaOp_run h1 h2)
  case jra =>
    intro ac m s s1 s2 e v h1 h2
    exact finish_of_ok (jraOp_run h1 h2)

end Sys2Proof.Machine
end

section
/-! SUPPORT. XCT, PXCT, XCTR, XCTRI and the local UUOs: the word left to execute, the limit and the chaining checkpoint
(45_shift_jump.md section 4, R686, R687; 41_byte_double.md sections 1 and 2; 40_uuo.md section 1, R401). -/

namespace Sys2Proof.Machine

open Sys2Proof Sys2Proof.Statements

section
variable {s s1 s2 s3 u : State} {ac : AcNum} {m : EaField} {e : VAddr} {w : Word} {op : BitVec 9}

/-! ### One more XCT level (R686) -/

/-- The state with one more XCT level counted. -/
def State.deeper (s : State) : State := { s with xctCount := s.xctCount + 1 }

theorem deeper_same (h : SameRegisters s s1) : s1.deeper = { s1 with xctCount := s.xctCount + 1 } := by
  rw [State.deeper, h.xctCount]

theorem xctLevel_eq (s : State) : xctLevel s =
    if s.cfg.xctMax ≠ 0 ∧ s.cfg.xctMax < s.xctCount + 1 then .error (.stop .xct) s.deeper
    else if 2 ≤ s.xctCount + 1 then reenterIfPending s.deeper else .ok () s.deeper := by
  simp only [xctLevel, run_bind, run_modS, run_getS, run_ite, run_raise, run_pure]
  rfl

/-- Within the limit and with nothing to re-enter for, the level is counted. -/
theorem xctLevel_run (hmax : s.cfg.xctMax = 0 ∨ s.xctCount + 1 ≤ s.cfg.xctMax)
    (hq : s.xctCount = 0 ∨ s.piPending = 0 ∧ s.env.arrivals = []) : xctLevel s = .ok () s.deeper := by
  rw [xctLevel_eq, if_neg (by omega)]
  by_cases h0 : s.xctCount = 0
  · rw [if_neg (by omega)]
  · obtain ⟨hpend, harr⟩ := hq.resolve_left h0
    rw [if_pos (by omega)]
    exact reenterIfPending_quiet hpend harr

/-- Beyond the limit, or with an interrupt to re-enter for, the level ends the instruction. -/
theorem xctLevel_ends (hs : SameRegisters s s1) (h : XctEnds s { s1 with xctCount := s.xctCount + 1 } u) :
    ∃ a t, xctLevel s1 = .error a t ∧ abortOutcome a t = .next u := by
  rw [← deeper_same hs] at h
  rw [xctLevel_eq, hs.cfg, hs.xctCount]
  rcases h with ⟨h0, hlt, rfl⟩ | ⟨hmax, h0, hc, hp, rfl⟩ <;> rw [← hs.ipc]
  · exact ⟨_, _, if_pos ⟨h0, hlt⟩, rfl⟩
  · refine ⟨.reenter, s1.deeper.passCheckpoint, ?_, rfl⟩
    rw [if_neg (by omega), if_pos (by omega)]
    exact reenterIfPending_due (hs.piCycle.trans hc) hp

/-! ### XCT, PXCT, XCTR and XCTRI (R452 to R454, R686, R687) -/

theorem xctOp_run {bits : BitVec 4} (h1 : ea m s = .ok e s1) (hl : xctLevel s1 = .ok () s1.deeper)
    (h2 : vread (if s.pxct.getLsbD 3 then .prev else .cur) e { s1 with xctCount := s.xctCount + 1 } = .ok w s2) :
    xctOp bits m s = .ok () { s2 with pending := some ⟨w, if s.inUser then 0 else bits, false⟩ } := by
  have fr := (Frames.ea m).ok h1
  have hctx : s1.deeper.ctxEa = if s.pxct.getLsbD 3 then .prev else .cur := by
    rw [← fr.pxct]
    rfl
  have hread : rdEa e s1.deeper = .ok w s2 := by
    rw [rdEa, hctx, deeper_same fr, h2]
  have huser : s2.inUser = s.inUser := ((Frames.rdEa e).ok hread).inUser.trans fr.inUser
  simp only [xctOp, run_bind, h1, hl, hread, run_getS, run_setPending, huser]

theorem xctOp_ends {bits : BitVec 4} {a : Abort} (h1 : ea m s = .ok e s1) (hl : xctLevel s1 = .error a u) :
    xctOp bits m s = .error a u := by
  simp only [xctOp, run_bind, h1, hl]

theorem xctrOp_eq {inhibits : Bool} (hi : s.cfg.its = true) (hx : s.mayExec = true) (h1 : ea m s = .ok e s1) :
    xctrOp op inhibits ac m s = (do
      xctLevel
      let w ← vread .cur e
      leaveWord ⟨w, ac, inhibits && s.cfg.xctriInhibit⟩ : M Unit) s1 := by
  have fr := (Frames.ea m).ok h1
  simp only [xctrOp, run_bind, h1, run_getS, run_ite, fr.cfg, fr.mayExec, hi, hx, Bool.and_self, if_true]

theorem xctrOp_run {inhibits : Bool} (hi : s.cfg.its = true) (hx : s.mayExec = true) (h1 : ea m s = .ok e s1)
    (hl : xctLevel s1 = .ok () s1.deeper) (h2 : vread .cur e { s1 with xctCount := s.xctCount + 1 } = .ok w s2) :
    xctrOp op inhibits ac m s =
      .ok () { s2 with pending := some ⟨w, ac, inhibits && s.cfg.xctriInhibit⟩ } := by
  rw [← deeper_same ((Frames.ea m).ok h1)] at h2
  simp only [xctrOp_eq hi hx h1, run_bind, hl, h2, run_leaveWord]

theorem xctrOp_ends {inhibits : Bool} {a : Abort} (hi : s.cfg.its = true) (hx : s.mayExec = true)
    (h1 : ea m s = .ok e s1) (hl : xctLevel s1 = .error a u) : xctrOp op inhibits ac m s = .error a u := by
  simp only [xctrOp_eq hi hx h1, run_bind, hl]

/-! ### Local UUOs (R401) -/

theorem exec_luuoForms (ac : AcNum) (m : EaField) (s : State) : ∀ p ∈ luuoForms,
    exec (p.1 ac m) s = finish (luuoOp p.2 ac m) s := by
  intro p hp
  fin_cases hp <;> rfl

theorem luuoForms_ne_zero : ∀ p ∈ luuoForms, p.2 ≠ 0 := by
  intro p hp
  fin_cases hp <;> decide

/-- An MUUO of an opcode that is no ILLEG stop: the sequence at E. -/
theorem muuoOp_of_ne_zero (h : op ≠ 0) : muuoOp op ac m s = (ea m >>= muuoSeq op ac) s := by
  have hne : (s.cfg.stopOnOp0 && op == 0) = false := by rw [beq_false_of_ne h, Bool.and_false]
  simp only [muuoOp, run_bind, run_getS, hne, Bool.false_eq_true, if_false]

/-- A user's local UUO under ITS with `ITS_USER_LUUO` the MUUO (D37). -/
theorem luuoOp_user (hi : s.cfg.its = true) (hu : s.inUser = true) (hm : s.cfg.itsUserLuuoMuuo = true) :
    luuoOp op ac m s = (ea m >>= muuoSeq op ac) s := by
  simp only [luuoOp, run_bind]
  cases h1 : ea m s with
  | error a t => rfl
  | ok e s1 =>
    have fr := (Frames.ea m).ok h1
    simp only [run_getS, run_ite, fr.cfg, fr.inUser, hi, hu, hm, Bool.and_self, if_true]

/-- A local UUO up to the count of its level. -/
theorem luuoOp_eq (h1 : ea m s = .ok e s1)
    (hn : ¬ (s.cfg.its = true ∧ s.inUser = true ∧ s.cfg.itsUserLuuoMuuo = true))
    (hw : vwrite .cur 0o40 (xwd (op ++ ac ++ (0 : BitVec 5)) e) s1 = .ok () s2)
    (hr : vread .cur 0o41 s2 = .ok w s3) :
    luuoOp op ac m s = (xctLevel >>= fun _ => setPending w 0) s3 := by
  have fr := (Frames.ea m).ok h1
  have hgate : ¬ (s.cfg.its && s.inUser && s.cfg.itsUserLuuoMuuo) = true := by simpa [and_assoc] using hn
  simp only [luuoOp, run_bind, h1, run_getS, run_ite, fr.cfg, fr.inUser, if_neg hgate, opacHalf, hw, hr]

/-- The store of a local UUO is in memory, so its references change no register. -/
theorem luuo_references (h1 : ea m s = .ok e s1)
    (hw : vwrite .cur 0o40 (xwd (op ++ ac ++ (0 : BitVec 5)) e) s1 = .ok () s2)
    (hr : vread .cur 0o41 s2 = .ok w s3) : SameRegisters s s3 :=
  (((Frames.ea m).ok h1).trans (vwrite_same rfl hw)).trans ((Frames.vread _ _).ok hr)

end

/-! ### The statement -/

/-- Settles O46: the level counted by `xctLevel_run` or ended by `xctLevel_ends`, before the read of XCT and its like
and after the references of a local UUO. -/
theorem executeForms : Obligations.ExecuteForms := by
  refine ⟨?words, ?contexts, ?spaces, ?ends, ?luuoUser, ?luuoEnds, ?luuo⟩
  case words =>
    intro m s s1 s2 e w h1 hmax hq
    have fr := (Frames.ea m).ok h1
    rw [← fr.cfg, ← fr.xctCount] at hmax
    rw [← fr.xctCount] at hq
    have hl := xctLevel_run hmax hq
    refine ⟨fun h2 => ⟨?_, fun ac => finish_of_ok (xctOp_run h1 hl h2)⟩, fun h2 hi hx ac =>
      ⟨finish_of_ok (xctrOp_run hi hx h1 hl h2), finish_of_ok (xctrOp_run hi hx h1 hl h2)⟩⟩
    have hxct := finish_of_ok (xctOp_run (bits := 0) h1 hl h2)
    rw [ite_self] at hxct
    exact hxct
  case contexts =>
    rintro m e v bp s c rfl
    refine ⟨rfl, rfl, rfl, rfl, rfl, rfl, rfl, fun r t hr => ?_⟩
    rw [bpAddr, run_bind, run_getS]
    exact bind_of_ok hr
  case spaces =>
    intro s hph
    have huser : s.inUser = s.flags.user := by simp [State.inUser, hph]
    refine ⟨huser, ?_, rfl, rfl, ?_⟩
    · rw [State.space, huser]
      cases s.flags.user <;> rfl
    · rw [State.block, huser]
  case ends =>
    intro m s s1 u e h1 hend
    obtain ⟨a, t, hl, ha⟩ := xctLevel_ends ((Frames.ea m).ok h1) hend
    have hxct (bits : BitVec 4) : finish (xctOp bits m) s = .next u :=
      (finish_of_error (xctOp_ends h1 hl)).trans ha
    exact ⟨hxct 0, fun ac => ⟨hxct ac, fun hi hx =>
      ⟨(finish_of_error (xctrOp_ends hi hx h1 hl)).trans ha, (finish_of_error (xctrOp_ends hi hx h1 hl)).trans ha⟩⟩⟩
  case luuoUser =>
    intro p hp ac m s hi hu hm
    rw [exec_luuoForms ac m s p hp]
    exact finish_congr ((luuoOp_user hi hu hm).trans (muuoOp_of_ne_zero (luuoForms_ne_zero p hp)).symm)
  case luuoEnds =>
    intro p hp ac m s s1 s2 s3 u e w h1 hn hw hr hend
    obtain ⟨a, t, hl, ha⟩ := xctLevel_ends (luuo_references h1 hw hr) hend
    rw [exec_luuoForms ac m s p hp, ← ha]
    refine finish_of_error ?_
    rw [luuoOp_eq h1 hn hw hr, run_bind, hl]
  case luuo =>
    intro p hp ac m s s1 s2 s3 e w h1 hn hw hr hmax hq
    have fr := luuo_references h1 hw hr
    rw [← fr.cfg, ← fr.xctCount] at hmax
    rw [← fr.xctCount] at hq
    rw [exec_luuoForms ac m s p hp, ← fr.xctCount]
    refine finish_of_ok ?_
    rw [luuoOp_eq h1 hn hw hr, bind_of_ok (xctLevel_run hmax hq)]
    rfl

end Sys2Proof.Machine
end

section
/-! SUPPORT. The block transfers (45_shift_jump.md section 2, R670; 49_io.md section 8, R1156, R1157; 60_exceptions.md
section 1, R1207). -/

namespace Sys2Proof.Machine

open Sys2Proof Sys2Proof.Statements

/-! ### The byte conversions bit by bit (R1156, R1157, D40) -/

theorem getLsbD_moveByte (w : Word) (src dst : Nat) {i : Nat} (hi : i < 36) :
    (moveByte w src dst).getLsbD i = (decide (dst ≤ i) && decide (i < dst + 8) && w.getLsbD (src + (i - dst))) := by
  rw [moveByte, BitVec.getLsbD_shiftLeft, BitVec.getLsbD_setWidth, BitVec.getLsbD_extractLsb', ← decide_not]
  by_cases h : dst ≤ i
  · have h8 : (i - dst < 8) = (i < dst + 8) := by
      rw [eq_iff_iff]
      omega
    simp [hi, h, h8, Nat.not_lt.mpr h, show i - dst < 36 by omega]
  · simp [h, Nat.lt_of_not_le h]

theorem getLsbD_byteToUb {c : Config} (hc : c.unibusMap = ⟨18, 26, 0, 8⟩) (w : Word) {i : Nat} (hi : i < 36) :
    (byteToUb c w).getLsbD i =
      (if 34 ≤ i then false else if 26 ≤ i then w.getLsbD (i - 6) else if 18 ≤ i then w.getLsbD (i + 10)
        else if 16 ≤ i then false else if 8 ≤ i then w.getLsbD (i - 4) else w.getLsbD (i + 12)) := by
  simp only [byteToUb, hc, BitVec.getLsbD_or, getLsbD_moveByte _ _ _ hi]
  -- In each range of bits at most one of the four bytes lands.
  split_ifs <;> simp (disch := omega) only [decide_eq_true, decide_eq_false, Bool.true_and, Bool.false_and,
    Bool.or_false, Bool.false_or]
  all_goals
    congr 1
    omega

theorem getLsbD_ubToByte {c : Config} (hc : c.unibusMap = ⟨18, 26, 0, 8⟩) (w : Word) {i : Nat} (hi : i < 36) :
    (ubToByte c w).getLsbD i =
      (if 28 ≤ i then w.getLsbD (i - 10) else if 20 ≤ i then w.getLsbD (i + 6)
        else if 12 ≤ i then w.getLsbD (i - 12) else if 4 ≤ i then w.getLsbD (i + 4) else false) := by
  simp only [ubToByte, hc, BitVec.getLsbD_or, getLsbD_moveByte _ _ _ hi]
  -- In each range of bits at most one of the four bytes lands.
  split_ifs <;> simp (disch := omega) only [decide_eq_true, decide_eq_false, Bool.true_and, Bool.false_and,
    Bool.or_false, Bool.false_or]
  all_goals
    congr 1
    omega

/-! ### Writing an accumulator twice, and with its own value -/

theorem setAc_setAc (s : State) (n : AcNum) (v w : Word) : (s.setAc n v).setAc n w = s.setAc n w := by
  simp only [State.setAc, State.setAcOf, Vector.set_set]

theorem setAc_ac (s : State) (n : AcNum) : s.setAc n (s.ac n) = s := by
  simp only [State.setAc, State.setAcOf, State.ac, State.acOf, Vector.get_eq_getElem, Vector.set_getElem_self]

/-! ### The probe (R167) -/

theorem Frames.accViol (c : Ctx) (va : VAddr) (mode : AccMode) : Frames (Machine.accViol c va mode) := by
  intro s
  have h := Frames.translate (s.space c) mode va s
  rw [Machine.accViol]
  by_cases hva : isAc va = true
  · rw [if_pos hva]
    exact SameRegisters.refl s
  · rw [if_neg hva]
    cases ht : Machine.translate (s.space c) mode va s with
    | ok pa t =>
      rw [ht] at h
      exact h
    | error a t =>
      rw [ht] at h
      cases a
      case pageFail => exact SameRegisters.refl s
      case reenter | stop | fault => exact h

theorem accViol_unpaged {c : Ctx} {va : VAddr} {mode : AccMode} {s : State} (hp : s.base.ebr.pgon = false) :
    accViol c va mode s = .ok false s := by
  rw [accViol, translate_unpaged hp]
  split <;> rfl

theorem Frames.error {α : Type} {x : M α} (hx : Frames x) {s t : State} {a : Abort} (h : x s = .error a t) :
    SameRegisters s t := by
  have := hx s
  rwa [h] at this

section
variable {f : Word → Word} {s s1 s2 s3 s4 t u : State} {ac : AcNum} {m : EaField} {e src : VAddr} {dst n : Nat}
  {first : Bool} {v : Word}

/-! ### One turn of the loop (R670) -/

/-- The accumulator as a progress word (R670). -/
def State.atBlt (s : State) (ac : AcNum) (src : VAddr) (dst : Nat) : State := s.setAc ac (xwd src (BitVec.ofNat 18 dst))

@[simp] theorem run_putBlt (ac : AcNum) (src : VAddr) (dst : Nat) (s : State) :
    putBlt ac src dst s = .ok () (s.atBlt ac src dst) := rfl

theorem bltLoop_zero : bltLoop f ac 0 first src dst s = .ok () (s.atBlt ac src dst) := rfl

/-- The references of one word: both probes pass, the word is read, converted and stored. -/
def MovesWord (f : Word → Word) (src dst : VAddr) (s u : State) : Prop :=
  ∃ s2 s3 s4 v, accViol s.ctxBstk src .read s = .ok false s2 ∧ accViol s.ctxData dst .write s2 = .ok false s3 ∧
    rdStk src s3 = .ok v s4 ∧ wrE dst (f v) s4 = .ok () u

/-- The first word of a transfer whose accumulator points at it. -/
theorem bltLoop_first (h : MovesWord f src (BitVec.ofNat 18 dst) (s.atBlt ac src dst) u) :
    bltLoop f ac (n + 1) true src dst s = bltLoop f ac n false (src + 1) (dst + 1) u := by
  obtain ⟨s2, s3, s4, v, hr, hw, hv, hu⟩ := h
  have hctx : (s.atBlt ac src dst).ctxBstk = s.ctxBstk ∧ (s.atBlt ac src dst).ctxData = s.ctxData := ⟨rfl, rfl⟩
  rw [hctx.1] at hr
  rw [hctx.2] at hw
  simp only [bltLoop, run_bind, run_getS, run_putBlt, run_ite, if_true, hr, hw, hv, hu, Bool.false_eq_true,
    if_false]

/-- A further word, with no interrupt pending, is worked like a first one. -/
theorem bltLoop_further (hq : s.piPending = 0) (harr : s.env.arrivals = []) :
    bltLoop f ac n false src dst s = bltLoop f ac n true src dst (s.atBlt ac src dst) := by
  have htwice : (s.atBlt ac src dst).atBlt ac src dst = s.atBlt ac src dst := setAc_setAc s ac _ _
  have hquiet : reenterIfPending (s.atBlt ac src dst) = .ok () (s.atBlt ac src dst) := reenterIfPending_quiet hq harr
  have hctx : (s.atBlt ac src dst).ctxBstk = s.ctxBstk ∧ (s.atBlt ac src dst).ctxData = s.ctxData := ⟨rfl, rfl⟩
  cases n with
  | zero => rw [bltLoop_zero, bltLoop_zero, htwice]
  | succ n =>
    simp only [bltLoop, run_bind, run_getS, run_putBlt, run_ite, if_true, Bool.false_eq_true, if_false, htwice,
      hquiet, hctx]

/-- A further word, with an interrupt pending, re-enters with the accumulator at the word. -/
theorem bltLoop_interrupted (hc : s.piCycle = false) (hp : s.piPending ≠ 0) :
    bltLoop f ac (n + 1) false src dst s = .error .reenter (s.atBlt ac src dst).passCheckpoint := by
  have hdue : reenterIfPending (s.atBlt ac src dst) = .error .reenter (s.atBlt ac src dst).passCheckpoint :=
    reenterIfPending_due hc (Or.inl hp)
  simp only [bltLoop, run_bind, run_getS, run_putBlt, Bool.false_eq_true, if_false, hdue]

/-- The page fail of one word: a probe fails, and the reference it foresees page-fails. -/
def FailsWord (src dst : VAddr) (s t : State) : Prop :=
  (accViol s.ctxBstk src .read s = .ok true s ∧ rdStk src s = .error .pageFail t) ∨
    ∃ s2, accViol s.ctxBstk src .read s = .ok false s2 ∧ accViol s.ctxData dst .write s2 = .ok true s2 ∧
      rdmE dst s2 = .error .pageFail t

theorem bltLoop_fails (h : FailsWord src (BitVec.ofNat 18 dst) (s.atBlt ac src dst) t) :
    bltLoop f ac (n + 1) true src dst s = .error .pageFail t := by
  have hctx : (s.atBlt ac src dst).ctxBstk = s.ctxBstk ∧ (s.atBlt ac src dst).ctxData = s.ctxData := ⟨rfl, rfl⟩
  rw [FailsWord, hctx.1, hctx.2] at h
  rcases h with ⟨hr, ht⟩ | ⟨s2, hr, hw, ht⟩
  · simp only [bltLoop, run_bind, run_getS, run_putBlt, run_ite, if_true, hr, ht]
  · simp only [bltLoop, run_bind, run_getS, run_putBlt, run_ite, if_true, Bool.false_eq_true, if_false, hr, hw, ht]

theorem FailsWord.sameAc {src dst : VAddr} (h : FailsWord src dst s t) (k : AcNum) : t.ac k = s.ac k := by
  rcases h with ⟨-, ht⟩ | ⟨s2, hr, -, ht⟩
  · exact ((Frames.rdStk src).error ht).ac k
  · exact (((Frames.accViol _ _ _).ok hr).trans ((Frames.rdmE dst).error ht)).ac k

/-! ### The operation: the accumulator gives both addresses -/

section
variable {dst : VAddr}

theorem atBlt_next (s : State) (ac : AcNum) (src dst : VAddr) :
    s.atBlt ac src (dst.toNat + 1) = s.setAc ac (xwd src (dst + 1)) := by
  rw [State.atBlt, BitVec.ofNat_add, BitVec.ofNat_toNat, BitVec.setWidth_eq]
  rfl

theorem atBlt_halves (hs : src = lh (s.ac ac)) (hd : dst = rh (s.ac ac)) : s.atBlt ac src dst.toNat = s := by
  rw [State.atBlt, BitVec.ofNat_toNat, BitVec.setWidth_eq, hs, hd, xwd_halves, setAc_ac]

theorem bltLoop_firstWord (hs : src = lh (s.ac ac)) (hd : dst = rh (s.ac ac)) (h : MovesWord f src dst s u) :
    bltLoop f ac (n + 1) true src dst.toNat s = bltLoop f ac n false (src + 1) (dst.toNat + 1) u := by
  refine bltLoop_first ?_
  rwa [atBlt_halves hs hd, BitVec.ofNat_toNat, BitVec.setWidth_eq]

theorem bltOp_block (hs : src = lh (s.ac ac)) (hd : dst = rh (s.ac ac)) (h : dst.toNat ≤ e.toNat) :
    bltOp f ac e s = bltLoop f ac (e.toNat - dst.toNat + 1) true src dst.toNat s := by
  subst hs hd
  simp only [bltOp, run_bind, run_getS]
  rw [if_neg (by omega), Nat.sub_add_comm h]

theorem bltOp_one (hs : src = lh (s.ac ac)) (hd : dst = rh (s.ac ac)) (h : e.toNat < dst.toNat)
    (hm : s.cfg.bltMinOne = true) : bltOp f ac e s = bltLoop f ac 1 true src dst.toNat s := by
  subst hs hd
  simp only [bltOp, run_bind, run_getS]
  rw [if_pos h, if_pos hm]

theorem bltOp_none (h : e.toNat < (rh (s.ac ac)).toNat) (hm : s.cfg.bltMinOne = false) : bltOp f ac e s = .ok () s := by
  simp only [bltOp, run_bind, run_getS]
  rw [if_pos h, if_neg (Bool.eq_false_iff.mp hm)]
  rfl

/-- A transfer of one word: to E itself, or below E under `BLT_MIN_ONE`. -/
theorem bltOp_single (hs : src = lh (s.ac ac)) (hd : dst = rh (s.ac ac))
    (h : dst = e ∨ (e.toNat < dst.toNat ∧ s.cfg.bltMinOne = true)) :
    bltOp f ac e s = bltLoop f ac 1 true src dst.toNat s := by
  rcases h with rfl | ⟨hlt, hm⟩
  · rw [bltOp_block hs hd le_rfl, Nat.sub_self]
  · exact bltOp_one hs hd hlt hm

/-- A transfer of at least one word. -/
theorem bltOp_some (hs : src = lh (s.ac ac)) (hd : dst = rh (s.ac ac))
    (h : dst.toNat ≤ e.toNat ∨ s.cfg.bltMinOne = true) :
    ∃ n, bltOp f ac e s = bltLoop f ac (n + 1) true src dst.toNat s := by
  rcases Nat.lt_or_ge e.toNat dst.toNat with hlt | hle
  · exact ⟨0, bltOp_one hs hd hlt (h.resolve_left (by omega))⟩
  · exact ⟨_, bltOp_block hs hd hle⟩

/-- A word moved, the transfer goes on as from the accumulator that points past it. -/
theorem bltOp_moves (hs : src = lh (s.ac ac)) (hd : dst = rh (s.ac ac)) (hlt : dst.toNat < e.toNat)
    (hmove : MovesWord f src dst s u) (hq : u.piPending = 0) (harr : u.env.arrivals = []) :
    bltOp f ac e s = bltOp f ac e (u.setAc ac (xwd (src + 1) (dst + 1))) := by
  have hdst : (dst + 1).toNat = dst.toNat + 1 := by
    rw [BitVec.toNat_add, Nat.mod_eq_of_lt (by simp; omega)]
    rfl
  have hnext : bltOp f ac e (u.setAc ac (xwd (src + 1) (dst + 1))) =
      bltLoop f ac (e.toNat - (dst + 1).toNat + 1) true (src + 1) (dst + 1).toNat
        (u.setAc ac (xwd (src + 1) (dst + 1))) :=
    bltOp_block (by simp) (by simp) (by omega)
  rw [hnext, hdst, bltOp_block hs hd hlt.le, bltLoop_firstWord hs hd hmove, bltLoop_further hq harr, atBlt_next]
  congr 1
  omega

end

end

/-! ### Whole blocks with paging off -/

/-- A word moved with paging off: only its destination changes. -/
theorem movesWord_unpaged {f : Word → Word} {src dst : VAddr} {s : State} {w : Word} (hp : s.base.ebr.pgon = false)
    (hsrc : 0o20 ≤ src.toNat) (hdst : 0o20 ≤ dst.toNat) (hsm : src.toNat < s.cfg.memSize)
    (hdm : dst.toNat < s.cfg.memSize) (hw : tblGet s.mem src.toNat = some w) :
    MovesWord f src dst s (s.setMem dst.toNat (f w)) := by
  have hread : rdStk src s = .ok w s := ((references_unpaged s.ctxBstk src 0 w s hp hsrc).1 hsm hw).1
  exact ⟨s, s, s, w, accViol_unpaged hp, accViol_unpaged hp, hread, vwrite_physical hp hdst hdm⟩

section
variable {f : Word → Word} {src dst i k : Nat} {v : Nat → Word} {m : List (Nat × Word)}

/-- A word whose source the transfer has not written. -/
theorem blockWord_fresh (h : src < dst → i < dst - src) : blockWord f src dst v i = f (v i) := by
  rw [blockWord]
  split
  case isTrue hlt => rw [Nat.div_eq_of_lt (h hlt), Nat.mod_eq_of_lt (h hlt), zero_add, Function.iterate_one]
  case isFalse => rfl

/-- A word whose source the transfer has written: the word `dst - src` before it, converted again. -/
theorem blockWord_again (h : src < dst) (hi : dst - src ≤ i) :
    blockWord f src dst v i = f (blockWord f src dst v (i - (dst - src))) := by
  rw [blockWord, blockWord, if_pos h, if_pos h, Nat.div_eq_sub_div (by omega) hi, Nat.mod_eq_sub_mod hi,
    Function.iterate_succ_apply']

/-- Memory after `k` words of a block from `src` to `dst`. -/
def blockMem (f : Word → Word) (src dst : Nat) (m : List (Nat × Word)) : Nat → List (Nat × Word)
  | 0 => m
  | k + 1 => tblSet (blockMem f src dst m k) (dst + k) (f ((tblGet (blockMem f src dst m k) (src + k)).getD 0))

theorem tblGet_blockMem_outside {a : Nat} (h : ¬ (dst ≤ a ∧ a < dst + k)) :
    tblGet (blockMem f src dst m k) a = tblGet m a := by
  induction k with
  | zero => rfl
  | succ k ih => rw [blockMem, tblGet_tblSet, if_neg (by omega), ih (by omega)]

/-- The source of the next word, the words before it being moved. -/
theorem tblGet_blockMem_source (hv : (src < dst → k < dst - src) → tblGet m (src + k) = some (v k))
    (hmoved : ∀ i < k, tblGet (blockMem f src dst m k) (dst + i) = some (blockWord f src dst v i)) :
    ∃ w, tblGet (blockMem f src dst m k) (src + k) = some w ∧ f w = blockWord f src dst v k := by
  by_cases hfresh : src < dst → k < dst - src
  · refine ⟨v k, ?_, (blockWord_fresh hfresh).symm⟩
    rw [tblGet_blockMem_outside (by omega), hv hfresh]
  · obtain ⟨hlt, hk⟩ := Classical.not_imp.mp hfresh
    refine ⟨_, ?_, (blockWord_again hlt (by omega)).symm⟩
    rw [← hmoved _ (by omega)]
    congr 1
    omega

theorem tblGet_blockMem (hv : ∀ i < k, (src < dst → i < dst - src) → tblGet m (src + i) = some (v i)) :
    ∀ i < k, tblGet (blockMem f src dst m k) (dst + i) = some (blockWord f src dst v i) := by
  induction k with
  | zero => exact fun i hi => absurd hi (Nat.not_lt_zero i)
  | succ k ih =>
    have hmoved := ih fun i hi => hv i (by omega)
    obtain ⟨w, hw, hf⟩ := tblGet_blockMem_source (hv k (by omega)) hmoved
    intro i hi
    rw [blockMem, tblGet_tblSet, hw, Option.getD_some, hf]
    by_cases hik : i = k
    · rw [hik, if_pos rfl]
    · rw [if_neg (by omega), hmoved i (by omega)]

end

/-- A block of `n` words that can be moved with paging off and no interrupt pending: it lies in memory, outside the
accumulators, and the words the transfer has not written itself are there. -/
structure BlockReady (s : State) (src dst n : Nat) (v : Nat → Word) : Prop where
  unpaged : s.base.ebr.pgon = false
  quiet : s.piPending = 0
  arrivals : s.env.arrivals = []
  srcLow : 0o20 ≤ src
  dstLow : 0o20 ≤ dst
  srcMem : src + n ≤ s.cfg.memSize
  dstMem : dst + n ≤ s.cfg.memSize
  srcTop : src + n < 2 ^ 18
  dstTop : dst + n < 2 ^ 18
  words : ∀ i < n, (src < dst → i < dst - src) → tblGet s.mem (src + i) = some (v i)

/-- The state after `k` words of a block. -/
def State.blockMoved (s : State) (f : Word → Word) (ac : AcNum) (src dst k : Nat) : State :=
  ({ s with mem := blockMem f src dst s.mem k } : State).atBlt ac (BitVec.ofNat 18 (src + k)) (dst + k)

section
variable {f : Word → Word} {s : State} {ac : AcNum} {src dst n : Nat} {v : Nat → Word}

theorem blockMoved_atBlt (k : Nat) :
    (s.blockMoved f ac src dst k).atBlt ac (BitVec.ofNat 18 (src + k)) (dst + k) = s.blockMoved f ac src dst k :=
  setAc_setAc _ ac _ _

/-- One word of a block. -/
theorem blockMoved_movesWord (h : BlockReady s src dst n v) {k : Nat} (hk : k < n) :
    ∃ u, MovesWord f (BitVec.ofNat 18 (src + k)) (BitVec.ofNat 18 (dst + k)) (s.blockMoved f ac src dst k) u ∧
      u.piPending = 0 ∧ u.env.arrivals = [] ∧
      u.atBlt ac (BitVec.ofNat 18 (src + (k + 1))) (dst + (k + 1)) = s.blockMoved f ac src dst (k + 1) := by
  have hsrc : (BitVec.ofNat 18 (src + k)).toNat = src + k :=
    (BitVec.toNat_ofNat ..).trans (Nat.mod_eq_of_lt (by have := h.srcTop; omega))
  have hdst : (BitVec.ofNat 18 (dst + k)).toNat = dst + k :=
    (BitVec.toNat_ofNat ..).trans (Nat.mod_eq_of_lt (by have := h.dstTop; omega))
  obtain ⟨w, hw, -⟩ := tblGet_blockMem_source (f := f) (h.words k hk)
    (tblGet_blockMem fun i hi => h.words i (by omega))
  refine ⟨_, movesWord_unpaged h.unpaged ?_ ?_ ?_ ?_ (w := w) ?_, h.quiet, h.arrivals, ?_⟩
  · rw [hsrc]
    exact h.srcLow.trans (Nat.le_add_right _ _)
  · rw [hdst]
    exact h.dstLow.trans (Nat.le_add_right _ _)
  · rw [hsrc]
    exact lt_of_lt_of_le (by omega) h.srcMem
  · rw [hdst]
    exact lt_of_lt_of_le (by omega) h.dstMem
  · rw [hsrc]
    exact hw
  · have hmem : blockMem f src dst s.mem (k + 1) = tblSet (blockMem f src dst s.mem k) (dst + k) (f w) := by
      rw [blockMem, hw, Option.getD_some]
    rw [hdst, State.blockMoved, State.blockMoved, hmem]
    exact setAc_setAc ({ s with mem := tblSet (blockMem f src dst s.mem k) (dst + k) (f w) } : State) ac _ _

/-- The loop over what is left of a block. -/
theorem bltLoop_blockMoved (h : BlockReady s src dst n v) : ∀ j k : Nat, k + j = n →
    bltLoop f ac j true (BitVec.ofNat 18 (src + k)) (dst + k) (s.blockMoved f ac src dst k) =
      .ok () (s.blockMoved f ac src dst n)
  | 0, k, hk => by
    rw [bltLoop_zero, blockMoved_atBlt, ← hk]
    rfl
  | j + 1, k, hk => by
    obtain ⟨u, hmove, hq, harr, hnext⟩ := blockMoved_movesWord (f := f) (ac := ac) h (k := k) (by omega)
    have hsrc : BitVec.ofNat 18 (src + k) + 1 = BitVec.ofNat 18 (src + (k + 1)) := (BitVec.ofNat_add (src + k) 1).symm
    rw [bltLoop_first (by rwa [blockMoved_atBlt]), hsrc, Nat.add_assoc, bltLoop_further hq harr, hnext]
    exact bltLoop_blockMoved h j (k + 1) (by omega)

/-- A whole block. -/
theorem bltOp_blockMoved {e : VAddr} {k : Nat} (hs : src = (lh (s.ac ac)).toNat) (hd : dst = (rh (s.ac ac)).toNat)
    (hcount : e.toNat = dst + k ∨ (k = 0 ∧ e.toNat < dst ∧ s.cfg.bltMinOne = true))
    (h : BlockReady s src dst (k + 1) v) :
    bltOp f ac e s = .ok () (s.blockMoved f ac src dst (k + 1)) := by
  have hloop : bltLoop f ac (k + 1) true (BitVec.ofNat 18 src) dst (s.blockMoved f ac src dst 0) =
      .ok () (s.blockMoved f ac src dst (k + 1)) := bltLoop_blockMoved h (k + 1) 0 (Nat.zero_add _)
  have hstart : s.blockMoved f ac src dst 0 = s := by
    subst hs hd
    rw [State.blockMoved, Nat.add_zero, Nat.add_zero, BitVec.ofNat_toNat, BitVec.setWidth_eq]
    exact atBlt_halves rfl rfl
  subst hs hd
  rw [hstart, BitVec.ofNat_toNat, BitVec.setWidth_eq] at hloop
  rw [← hloop]
  rcases hcount with he | ⟨rfl, hlt, hm⟩
  · rw [bltOp_block rfl rfl (by omega), he, Nat.add_sub_cancel_left]
  · exact bltOp_one rfl rfl hlt hm

/-- A block of more than one word with an interrupt pending is left after its first word. -/
theorem bltOp_interrupted {src dst e : VAddr} {u : State} (hs : src = lh (s.ac ac)) (hd : dst = rh (s.ac ac))
    (hlt : dst.toNat < e.toNat) (hmove : MovesWord f src dst s u) (hc : u.piCycle = false) (hp : u.piPending ≠ 0) :
    bltOp f ac e s = .error .reenter (u.setAc ac (xwd (src + 1) (dst + 1))).passCheckpoint := by
  have hcount : e.toNat - dst.toNat = e.toNat - dst.toNat - 1 + 1 := by omega
  rw [bltOp_block hs hd hlt.le, bltLoop_firstWord hs hd hmove, hcount, bltLoop_interrupted hc hp, atBlt_next]

end

/-! ### The instructions -/

theorem exec_blockForms {p : (AcNum → EaField → Instr) × (Config → Word → Word) × Bool} (hp : p ∈ blockForms)
    {ac : AcNum} {m : EaField} {s s1 : State} {e : VAddr}
    (hio : p.2.2 = true → s.mayIo = true) (h1 : ea m s = .ok e s1) :
    exec (p.1 ac m) s = finish (bltOp (p.2.1 s.cfg) ac e) s1 := by
  fin_cases hp
  · exact finish_congr (bind_of_ok h1)
  · exact finish_congr (ioOp_run (hio rfl) h1)
  · exact finish_congr (ioOp_run (hio rfl) h1)

/-! ### The statement -/

/-- Settles O43: word by word by `bltOp_moves` and `bltLoop_firstWord`, whole blocks by `bltOp_blockMoved`. -/
theorem blockTransfer : Obligations.BlockTransfer := by
  refine ⟨?bytes, ?goesOn, ?lastWord, ?fails, ?block, ?none, ?interrupted⟩
  case bytes =>
    intro c w hc i hi
    exact ⟨getLsbD_byteToUb hc w hi, getLsbD_ubToByte hc w hi⟩
  case goesOn =>
    intro p hp ac m s s1 s2 s3 s4 u e src dst v hio h1 hs hd hlt hr hw hv hu hq harr
    rw [← ac_after_ea h1] at hs hd
    rw [exec_blockForms hp hio h1]
    exact finish_congr (bltOp_moves hs hd hlt ⟨s2, s3, s4, v, hr, hw, hv, hu⟩ hq harr)
  case lastWord =>
    intro p hp ac m s s1 s2 s3 s4 u e src dst v hio h1 hs hd hone hr hw hv hu
    rw [← ac_after_ea h1] at hs hd
    rw [← ((Frames.ea m).ok h1).cfg] at hone
    rw [exec_blockForms hp hio h1]
    refine finish_of_ok ?_
    rw [bltOp_single hs hd hone, bltLoop_firstWord hs hd ⟨s2, s3, s4, v, hr, hw, hv, hu⟩, bltLoop_zero, atBlt_next]
  case fails =>
    intro p hp ac m s s1 s2 t e src dst hio h1 hs hd hsome hfail
    rw [← ac_after_ea h1] at hs hd
    rw [← ((Frames.ea m).ok h1).cfg] at hsome
    have hword : FailsWord src dst s1 t := hfail.imp_right fun h => ⟨s2, h⟩
    obtain ⟨n, hloop⟩ := bltOp_some (f := p.2.1 s.cfg) hs hd hsome
    refine ⟨?_, ?_⟩
    · rw [exec_blockForms hp hio h1]
      refine finish_of_error (hloop.trans (bltLoop_fails ?_))
      rwa [atBlt_halves hs hd, BitVec.ofNat_toNat, BitVec.setWidth_eq]
    · rw [hword.sameAc, hs, hd, xwd_halves]
  case block =>
    intro p hp ac m s s1 e src dst k v h1 hio hpg hq harr hs hd hcount hsl hdl hsm hst hdm hdt hv
    have fr := (Frames.ea m).ok h1
    have hready : BlockReady s1 src dst (k + 1) v := {
      unpaged := hpg, quiet := hq, arrivals := harr, srcLow := hsl, dstLow := hdl
      srcMem := fr.cfg ▸ hsm, dstMem := fr.cfg ▸ hdm, srcTop := hst, dstTop := hdt
      words := fun i hi => hv i (Nat.lt_succ_iff.mp hi) }
    rw [← fr.ac] at hs hd
    rw [← fr.cfg] at hcount
    refine ⟨s1.blockMoved (p.2.1 s.cfg) ac src dst (k + 1), ?_, fun i hi => ?_, fun a ha => ?_, ?_, fun n hn => ?_,
      fr.pc, fr.flags⟩
    · rw [exec_blockForms hp hio h1]
      exact finish_of_ok (bltOp_blockMoved hs hd hcount hready)
    · exact tblGet_blockMem hready.words i (Nat.lt_succ_iff.mpr hi)
    · exact tblGet_blockMem_outside (by omega)
    · rw [State.blockMoved, State.atBlt, ac_setAc, if_pos rfl]
      rfl
    · rw [State.blockMoved, State.atBlt, ac_setAc, if_neg hn, ← fr.ac]
      rfl
  case none =>
    intro p hp ac m s s1 e hio h1 hlt hm
    rw [← ac_after_ea h1] at hlt
    rw [← ((Frames.ea m).ok h1).cfg] at hm
    rw [exec_blockForms hp hio h1]
    exact finish_of_ok (bltOp_none hlt hm)
  case interrupted =>
    intro p hp ac m s s1 e src dst v hio h1 hpg hpend hcycle hs hd hsl hdl hlt hsm hdm hv
    have fr := (Frames.ea m).ok h1
    rw [← fr.ac] at hs hd
    rw [← fr.cfg] at hsm hdm
    rw [← fr.piCycle] at hcycle
    have hmove := movesWord_unpaged (f := p.2.1 s.cfg) hpg hsl hdl hsm hdm hv
    refine ⟨_, (exec_blockForms hp hio h1).trans (finish_of_error (bltOp_interrupted hs hd hlt hmove hcycle hpend)),
      rfl, fr.ipc, ?_, memSameOutside_setMem s1 dst.toNat _, ?_⟩
    · exact (tblGet_tblSet ..).trans (if_pos rfl)
    · exact (ac_setAc ac ac _ _).trans (if_pos rfl)

end Sys2Proof.Machine
end

section
/-! SUPPORT. The compares, jumps and skips 0o300 to 0o377: the whole next state on each outcome of the condition
(46_compare_skip.md section 1, R700, R701). -/

namespace Sys2Proof.Machine

open Sys2Proof Sys2Proof.Statements

/-! ### The condition of opcode bits 2:0 on signed values (R700) -/

/-- The relation of two integers that a condition names. -/
def Cond.Relates : Cond → Int → Int → Prop
  | .never => fun _ _ => False
  | .lt => fun x y => x < y
  | .eq => fun x y => x = y
  | .le => fun x y => x ≤ y
  | .always => fun _ _ => True
  | .ge => fun x y => y ≤ x
  | .ne => fun x y => x ≠ y
  | .gt => fun x y => y < x

theorem signed_inj {a b : Word} : signed a = signed b ↔ a = b := BitVec.toInt_inj

/-- The condition of two words is the relation of their signed values. -/
theorem Cond.holds_iff (c : Cond) (a b : Word) : c.holds a b = true ↔ c.Relates (signed a) (signed b) := by
  cases c with
  | never => exact ⟨Bool.false_ne_true, False.elim⟩
  | lt => exact BitVec.slt_iff_toInt_lt
  | eq => exact beq_iff_eq.trans signed_inj.symm
  | le => exact BitVec.sle_iff_toInt_le
  | always => exact ⟨fun _ => trivial, fun _ => rfl⟩
  | ge => exact BitVec.sle_iff_toInt_le
  | ne => exact bne_iff_ne.trans signed_inj.symm.not
  | gt => exact BitVec.slt_iff_toInt_lt

/-- The operand 0,,E is never negative. -/
theorem signed_immR (e : VAddr) : signed (immR e) = e.toNat := by
  have hnat : (immR e).toNat = e.toNat := (BitVec.toNat_append (0 : Half) e).trans (by simp)
  have he := e.isLt
  rw [signed, BitVec.toInt_eq_toNat_of_lt (by omega), hnat]

theorem Cond.holds_immR_iff (c : Cond) (a : Word) (e : VAddr) :
    c.holds a (immR e) = true ↔ c.Relates (signed a) e.toNat := by
  rw [c.holds_iff, signed_immR]

theorem Cond.holds_zero_iff (c : Cond) (a : Word) : c.holds a 0 = true ↔ c.Relates (signed a) 0 := by
  rw [c.holds_iff, (signed_eq_zero_iff 0).mpr rfl]

/-! ### Acts on a condition -/

/-- A jump on a condition, as one state. -/
theorem run_jumpIf (b : Bool) (v : VAddr) (s : State) :
    onlyIf b (jump v) s = .ok () (if b then s.setPc v else s) := by
  cases b <;> rfl

/-- The load of AC unless its number is 0, as one state. -/
theorem run_putAcUnlessZero (n : AcNum) (v : Word) (s : State) :
    onlyIf (n != 0) (putAc n v) s = .ok () (if n = 0 then s else s.setAc n v) := by
  rw [onlyIf_ac_ne_zero]
  split <;> rfl

/-- An operation that takes one way or the other, by a condition that stands for a proposition. -/
theorem finish_either {op : M Unit} {b : Bool} {P : Prop} {taken passed : State} (hb : b = true ↔ P)
    (h : op s = .ok () (if b then taken else passed)) :
    (P → finish op s = .next taken) ∧ (¬ P → finish op s = .next passed) := by
  rw [finish_of_ok h, ← hb]
  exact ⟨fun hP => by rw [if_pos hP], fun hP => by rw [if_neg hP]⟩

/-! ### The operations with their operands fetched (R701) -/

section
variable {s s1 s2 s3 t : State} {ac : AcNum} {m : EaField} {e : VAddr} {w : Word} {c : Cond}

theorem caiOp_run (h1 : ea m s = .ok e s1) :
    caiOp c ac m s = .ok () (if c.holds (s.ac ac) (immR e) then s1.setPc (s1.pc + 1) else s1) := by
  simp only [caiOp, run_bind, h1, run_getAc, ac_after_ea h1, run_skipIf]

theorem camOp_run (h1 : ea m s = .ok e s1) (h2 : rdE e s1 = .ok w s2) :
    camOp c ac m s = .ok () (if c.holds (s.ac ac) w then s2.setPc (s2.pc + 1) else s2) := by
  simp only [camOp, run_bind, h1, h2, run_getAc, ac_after_rdE h1 h2, run_skipIf]

theorem jumpOp_run (h1 : ea m s = .ok e s1) :
    jumpOp c ac m s = .ok () (if c.holds (s.ac ac) 0 then s1.setPc e else s1) := by
  simp only [jumpOp, run_bind, h1, run_getAc, ac_after_ea h1, run_jumpIf]

theorem skipOp_run (h1 : ea m s = .ok e s1) (h2 : rdE e s1 = .ok w s2)
    (ht : t = if ac = 0 then s2 else s2.setAc ac w) :
    skipOp c ac m s = .ok () (if c.holds w 0 then t.setPc (t.pc + 1) else t) := by
  simp only [skipOp, run_bind, h1, h2, run_putAcUnlessZero, ← ht, run_skipIf]

/-- AOJ and SOJ. -/
theorem acStepJump_run {k : Word} {r : WordFlags} (h1 : ea m s = .ok e s1) (hr : r = add36 (s.ac ac) k false)
    (ht : t = (s1.setAc ac r.word).orFlags r.flags) :
    acStepJump k c ac m s = .ok () (if c.holds r.word 0 then t.setPc e else t) := by
  simp only [acStepJump, run_bind, h1, run_getAc, ac_after_ea h1, ← hr, run_putAc, run_setFlags, ← ht, run_jumpIf]

/-- AOS and SOS. -/
theorem memStepSkip_run {k : Word} {r : WordFlags} (h1 : ea m s = .ok e s1) (h2 : rdmE e s1 = .ok w s2)
    (hr : r = add36 w k false) (h3 : wrE e r.word s2 = .ok () s3)
    (ht : t = (if ac = 0 then s3 else s3.setAc ac r.word).orFlags r.flags) :
    memStepSkip k c ac m s = .ok () (if c.holds r.word 0 then t.setPc (t.pc + 1) else t) := by
  simp only [memStepSkip, run_bind, h1, h2, ← hr, h3, run_putAcUnlessZero, run_setFlags, ← ht, run_skipIf]

end

/-! ### The tables of forms: each instruction is the operation of its group, with the condition of its row -/

section
variable (ac : AcNum) (m : EaField) (s : State)

theorem exec_caiForms : ∀ p ∈ caiForms,
    ∃ c : Cond, exec (p.1 ac m) s = finish (caiOp c ac m) s ∧ p.2 = c.Relates := by
  intro p hp
  fin_cases hp <;> exact ⟨_, rfl, rfl⟩

theorem exec_camForms : ∀ p ∈ camForms,
    ∃ c : Cond, exec (p.1 ac m) s = finish (camOp c ac m) s ∧ p.2 = c.Relates := by
  intro p hp
  fin_cases hp <;> exact ⟨_, rfl, rfl⟩

theorem exec_jumpForms : ∀ p ∈ jumpForms,
    ∃ c : Cond, exec (p.1 ac m) s = finish (jumpOp c ac m) s ∧ p.2 = c.Relates := by
  intro p hp
  fin_cases hp <;> exact ⟨_, rfl, rfl⟩

theorem exec_skipForms : ∀ p ∈ skipForms,
    ∃ c : Cond, exec (p.1 ac m) s = finish (skipOp c ac m) s ∧ p.2 = c.Relates := by
  intro p hp
  fin_cases hp <;> exact ⟨_, rfl, rfl⟩

theorem exec_acStepForms : ∀ p ∈ acStepForms,
    ∃ c : Cond, exec (p.1 ac m) s = finish (acStepJump p.2.1 c ac m) s ∧ p.2.2 = c.Relates := by
  intro p hp
  fin_cases hp <;> exact ⟨_, rfl, rfl⟩

theorem exec_memStepForms : ∀ p ∈ memStepForms,
    ∃ c : Cond, exec (p.1 ac m) s = finish (memStepSkip p.2.1 c ac m) s ∧ p.2.2 = c.Relates := by
  intro p hp
  fin_cases hp <;> exact ⟨_, rfl, rfl⟩

end

/-! ### The statements -/

/-- Settles O31: each form is the operation of its group (`exec_caiForms` and its like), whose condition is the relation
of its row (`Cond.holds_iff`). -/
theorem compareForms : Obligations.CompareForms := by
  refine ⟨?cai, ?cam, ?jump, ?skip⟩
  case cai =>
    intro p hp ac m s s1 e h1
    obtain ⟨c, hexec, hrel⟩ := exec_caiForms ac m s p hp
    rw [hexec, hrel]
    exact finish_either (c.holds_immR_iff _ _) (caiOp_run h1)
  case cam =>
    intro p hp ac m s s1 s2 e w h1 h2
    obtain ⟨c, hexec, hrel⟩ := exec_camForms ac m s p hp
    rw [hexec, hrel]
    exact finish_either (c.holds_iff _ _) (camOp_run h1 h2)
  case jump =>
    intro p hp ac m s s1 e h1
    obtain ⟨c, hexec, hrel⟩ := exec_jumpForms ac m s p hp
    rw [hexec, hrel]
    exact finish_either (c.holds_zero_iff _) (jumpOp_run h1)
  case skip =>
    intro p hp ac m s s1 s2 t e w h1 h2 ht
    obtain ⟨c, hexec, hrel⟩ := exec_skipForms ac m s p hp
    rw [hexec, hrel]
    exact finish_either (c.holds_zero_iff _) (skipOp_run h1 h2 ht)

/-- Settles O32: each form is the operation of its group, which goes by the condition of the sum and 0. -/
theorem stepCompareForms : Obligations.StepCompareForms := by
  refine ⟨?ac, ?mem⟩
  case ac =>
    intro p hp ac m s s1 t e r h1 hr ht
    obtain ⟨c, hexec, hrel⟩ := exec_acStepForms ac m s p hp
    rw [hexec, hrel]
    exact finish_either (c.holds_zero_iff _) (acStepJump_run h1 hr ht)
  case mem =>
    intro p hp ac m s s1 s2 s3 t e w r h1 h2 hr h3 ht
    obtain ⟨c, hexec, hrel⟩ := exec_memStepForms ac m s p hp
    rw [hexec, hrel]
    exact finish_either (c.holds_zero_iff _) (memStepSkip_run h1 h2 hr h3 ht)

end Sys2Proof.Machine
end

section
/-! SUPPORT. The moves that set no flags, the boolean functions and the halfword moves, self forms aside: the whole next
state (44_move_arith.md section 2, R604 to R606, R608 to R610, R617; 47_boolean.md section 1, R800, R801;
48_halfword_test.md section 1, R900, R901). -/

namespace Sys2Proof.Machine

open Sys2Proof Sys2Proof.Statements

/-! ### The tables of forms: each instruction is the operand form of its table, with the function of its row -/

section
variable (ac : AcNum) (m : EaField) (s : State)

theorem exec_loadForms : ∀ p ∈ loadForms, exec (p.1 ac m) s = finish (acFromMem p.2 ac m) s := by
  intro p hp
  fin_cases hp <;> rfl

theorem exec_immediateForms : ∀ p ∈ immediateForms, exec (p.1 ac m) s = finish (acFromImm p.2 ac m) s := by
  intro p hp
  fin_cases hp <;> rfl

theorem exec_acOnlyForms : ∀ p ∈ acOnlyForms, exec (p.1 ac m) s = finish (acOnly p.2 ac m) s := by
  intro p hp
  fin_cases hp <;> rfl

theorem exec_modifyForms : ∀ p ∈ modifyForms, exec (p.1 ac m) s = finish (memRmw p.2 ac m) s := by
  intro p hp
  fin_cases hp <;> rfl

theorem exec_bothForms : ∀ p ∈ bothForms, exec (p.1 ac m) s = finish (bothRmw p.2 ac m) s := by
  intro p hp
  fin_cases hp <;> rfl

theorem exec_storeForms : ∀ p ∈ storeForms, exec (p.1 ac m) s = finish (memFromAc p.2 ac m) s := by
  intro p hp
  fin_cases hp <;> rfl

theorem exec_storeBothForms : ∀ p ∈ storeBothForms, exec (p.1 ac m) s = finish (bothFromAc p.2 ac m) s := by
  intro p hp
  fin_cases hp <;> rfl

end

/-! ### The statements -/

/-- Settles O25: each basic form is `acFromMem` of its row's function. -/
theorem loadForms : Obligations.LoadForms := by
  intro p hp ac m s s1 s2 e w h1 h2
  rw [exec_loadForms ac m s p hp]
  exact finish_of_ok (acFromMem_run h1 h2)

/-- Settles O26: each immediate form is `acFromImm`, each form of AC alone `acOnly`, of its row's function. -/
theorem immediateForms : Obligations.ImmediateForms := by
  refine ⟨?immediate, ?acOnly⟩
  case immediate =>
    intro p hp ac m s s1 e h1
    rw [exec_immediateForms ac m s p hp]
    exact finish_of_ok (acFromImm_run h1)
  case acOnly =>
    intro p hp ac m s s1 e h1
    rw [exec_acOnlyForms ac m s p hp]
    exact finish_of_ok (acOnly_run h1)

/-- Settles O27: each memory form is `memRmw`, each both form `bothRmw`, of its row's function. -/
theorem modifyForms : Obligations.ModifyForms := by
  refine ⟨?memory, ?both⟩
  case memory =>
    intro p hp ac m s s1 s2 t e w h1 h2 h3
    rw [exec_modifyForms ac m s p hp]
    exact finish_of_ok (memRmw_run h1 h2 h3)
  case both =>
    intro p hp ac m s s1 s2 t e w h1 h2 h3
    rw [exec_bothForms ac m s p hp]
    exact finish_of_ok (bothRmw_run h1 h2 h3)

/-- Settles O28: each memory form is `memFromAc`, each both form `bothFromAc`, of its row's function. -/
theorem storeForms : Obligations.StoreForms := by
  refine ⟨?memory, ?both⟩
  case memory =>
    intro p hp ac m s s1 t e h1 h2
    rw [exec_storeForms ac m s p hp]
    exact finish_of_ok (memFromAc_run h1 h2)
  case both =>
    intro p hp ac m s s1 t e h1 h2
    rw [exec_storeBothForms ac m s p hp]
    exact finish_of_ok (bothFromAc_run h1 h2)

end Sys2Proof.Machine
end

section
/-! SUPPORT. The tests 0o600 to 0o677: the whole next state (48_halfword_test.md section 2, R980, R981). -/

namespace Sys2Proof.Machine

open Sys2Proof Sys2Proof.Statements

/-! ### The mask of a test (R980) -/

/-- Bit 3 of the opcode: whether the mask comes from memory. -/
def MaskSource.inMemory : MaskSource → Bool
  | .right | .left => false
  | .direct | .swapped => true

/-- The mask that a source makes of E and C(E). -/
def MaskSource.mask : MaskSource → VAddr → Word → Word
  | .right => fun e _ => immR e
  | .left => fun e _ => immL e
  | .direct => fun _ w => w
  | .swapped => fun _ w => swapHalves w

/-- An immediate mask needs no reference to memory; the word in C(E)'s place does not matter. -/
theorem MaskSource.get_immediate {src : MaskSource} (hsrc : src.inMemory = false) (e : VAddr) (w : Word) (s : State) :
    src.get e s = .ok (src.mask e w) s := by
  cases src with
  | right => rfl
  | left => rfl
  | direct => exact nomatch hsrc
  | swapped => exact nomatch hsrc

/-- A mask in memory is made of the word that a read of E gives. -/
theorem MaskSource.get_memory {src : MaskSource} (hsrc : src.inMemory = true) {e : VAddr} {w : Word} {s t : State}
    (h : rdE e s = .ok w t) : src.get e s = .ok (src.mask e w) t := by
  cases src with
  | right => exact nomatch hsrc
  | left => exact nomatch hsrc
  | direct => exact h
  | swapped => simp only [MaskSource.get, MaskSource.mask, run_bind, h, run_pure]

theorem Frames.maskSource (src : MaskSource) (e : VAddr) : Frames (src.get e) :=
  match src with
  | .right => Frames.pure _
  | .left => Frames.pure _
  | .direct => Frames.rdE _
  | .swapped => Frames.bind (Frames.rdE _) fun _ => Frames.pure _

/-! ### The operation with its mask fetched (R981) -/

section
variable {s s1 s2 t : State} {ac : AcNum} {m : EaField} {e : VAddr} {k : Word} {src : MaskSource} {md : TestMod}
  {sk : TestSkip}

theorem ac_after_mask (h1 : ea m s = .ok e s1) (h2 : src.get e s1 = .ok k s2) (n : AcNum) : s2.ac n = s.ac n :=
  (((Frames.maskSource src e).ok h2).ac n).trans (ac_after_ea h1 n)

/-- AC receives its modification, and the skip goes by the AC from before it. -/
theorem testOp_run (h1 : ea m s = .ok e s1) (h2 : src.get e s1 = .ok k s2)
    (ht : t = s2.setAc ac (md.apply (s.ac ac) k)) :
    testOp src md sk ac m s = .ok () (if sk.holds (s.ac ac &&& k) then t.setPc (t.pc + 1) else t) := by
  simp only [testOp, run_bind, h1, h2, run_getAc, ac_after_mask h1 h2, run_putAc, ← ht, run_skipIf]

end

/-! ### The tables of forms: each instruction is `testOp` with the mask, modification and condition of its row -/

section
variable (ac : AcNum) (m : EaField) (s : State)

theorem exec_testImmediateForms : ∀ p ∈ testImmediateForms, ∃ (src : MaskSource) (md : TestMod) (sk : TestSkip),
    exec (p.1 ac m) s = finish (testOp src md sk ac m) s ∧
      src.inMemory = false ∧ ∀ w, p.2 = (fun e => src.mask e w, md.apply, sk.holds) := by
  intro p hp
  fin_cases hp <;> exact ⟨_, _, _, rfl, rfl, fun _ => rfl⟩

theorem exec_testMemoryForms : ∀ p ∈ testMemoryForms, ∃ (src : MaskSource) (md : TestMod) (sk : TestSkip),
    exec (p.1 ac m) s = finish (testOp src md sk ac m) s ∧
      src.inMemory = true ∧ ∀ e, p.2 = (src.mask e, md.apply, sk.holds) := by
  intro p hp
  fin_cases hp <;> exact ⟨_, _, _, rfl, rfl, fun _ => rfl⟩

end

/-! ### The statement -/

/-- Settles O30: each test is `testOp` of its row (`exec_testImmediateForms`, `exec_testMemoryForms`), whose mask source
fetches the mask of the row without a reference to memory or from the word read at E. -/
theorem testForms : Obligations.TestForms := by
  refine ⟨?immediate, ?memory⟩
  case immediate =>
    intro p hp ac m s s1 e h1 t ht
    obtain ⟨src, md, sk, hexec, hsrc, hrow⟩ := exec_testImmediateForms ac m s p hp
    rw [hrow 0] at ht ⊢
    rw [hexec]
    exact finish_of_ok (testOp_run h1 (MaskSource.get_immediate hsrc e 0 s1) ht)
  case memory =>
    intro p hp ac m s s1 s2 e w h1 h2 t ht
    obtain ⟨src, md, sk, hexec, hsrc, hrow⟩ := exec_testMemoryForms ac m s p hp
    rw [hrow e] at ht ⊢
    rw [hexec]
    exact finish_of_ok (testOp_run h1 (MaskSource.get_memory hsrc h2) ht)

end Sys2Proof.Machine
end

section
/-! SUPPORT. Decoding what the encoder writes (30_encoding.md sections 1 and 4, R300, R331, R340; 43_extend.md section 1,
R550), and the registers after reset (70_reset_and_hazards.md section 1, R1400). -/

namespace Sys2Proof

/-! ### The table by pieces -/

/-- The eight pieces of the opcode table, by the first digit of the opcode. -/
noncomputable def tablePieces (c : Config) : List (List (AcNum → EaField → Instr)) :=
  [opcodes0, opcodes1 c, opcodes2 c, opcodes3, opcodes4, opcodes5, opcodes6, opcodes7 c]

theorem getD_flatten {α : Type} (d : α) {k q r : Nat} (hr : r < k) : ∀ {l : List (List α)},
    (∀ p ∈ l, p.length = k) → l.flatten.getD (k * q + r) d = (l.getD q []).getD r d
  | [], _ => by simp
  | p :: l, h => by
    have hp : p.length = k := h p List.mem_cons_self
    have hl : ∀ p ∈ l, p.length = k := fun p hp => h p (List.mem_cons_of_mem _ hp)
    cases q with
    | zero => simpa using List.getD_append p l.flatten d r (by omega)
    | succ q =>
      have hk : k * (q + 1) + r - p.length = k * q + r := by rw [hp, Nat.mul_succ]; omega
      rw [List.flatten_cons, List.getD_append_right _ _ _ _ (by rw [hp, Nat.mul_succ]; omega), hk, getD_flatten d hr hl]
      rfl

theorem length_tablePieces (c : Config) : ∀ p ∈ tablePieces c, p.length = 0o100 := by
  simp only [tablePieces, List.forall_mem_cons, List.not_mem_nil, false_implies, implies_true, and_true]
  exact ⟨rfl, rfl, rfl, rfl, rfl, rfl, rfl, rfl⟩

/-- The row of an opcode stands in the piece of its first digit, at the place of the last two. -/
theorem getD_opcodeTable (c : Config) (n : Nat) (d : AcNum → EaField → Instr) :
    (opcodeTable c).getD n d = ((tablePieces c).getD (n / 0o100) []).getD (n % 0o100) d := by
  have htable : opcodeTable c = (tablePieces c).flatten := by
    simp only [opcodeTable, tablePieces, List.append_assoc, List.flatten_cons, List.flatten_nil, List.append_nil]
  rw [htable, ← getD_flatten d (Nat.mod_lt n (by decide)) (length_tablePieces c), Nat.div_add_mod]

/-! ### Decoding one and two words -/

section
variable {c : Config} {i : Instr} {b : Bool} {op : BitVec 9} {ac : AcNum} {m : EaField}

theorem decodeWords_of_row
    (h : ((tablePieces c).getD (op.toNat / 0o100) []).getD (op.toNat % 0o100) (.muuo op) ac m = i) :
    decodeWords c [(pack op ac m).toNat] = .ok i := by
  rw [decodeWords_single, decode_pack, getD_opcodeTable, h]

/-- A row that stands under one setting of ITS is read off the table with that setting written in. -/
theorem decodeWords_of_gated_row (hb : c.its = b)
    (h : ((tablePieces { c with its := b }).getD (op.toNat / 0o100) []).getD (op.toNat % 0o100) (.muuo op) ac m = i) :
    decodeWords c [(pack op ac m).toNat] = .ok i := by
  subst hb
  exact decodeWords_of_row h

theorem decodeWords_extended {e0 : VAddr} {op1 : BitVec 9}
    (h : decodeExtended ac e0 (pack op1 0 m) = some i) :
    decodeWords c [(pack 0o123 ac (.direct e0)).toNat, (pack op1 0 m).toNat] = .ok i := by
  have hlt (w : Word) : ¬ 2 ^ 36 ≤ w.toNat := Nat.not_le.mpr w.isLt
  simp only [decodeWords, hlt, if_false, BitVec.ofNat_toNat, BitVec.setWidth_eq, opField_pack, acField_pack,
    eaField_pack, EaField.direct, and_self, if_true, h]

theorem decodeExtended_pack {e0 : VAddr} {op1 : BitVec 9} {f} (h0 : op1 ≠ 0)
    (h : extendTable[op1.toNat - 1]? = some f) :
    decodeExtended ac e0 (pack op1 0 m) = some (f ac e0 m) := by
  obtain ⟨n, hn⟩ := Nat.exists_eq_succ_of_ne_zero (fun h => h0 (BitVec.eq_of_toNat_eq h) : op1.toNat ≠ 0)
  rw [hn] at h
  simp only [decodeExtended, opField_pack, hn, eaField_pack]
  rw [show extendTable[n]? = some f from h]
  rfl

end

/-! ### Monitor UUOs (R340) -/

/-- The instruction is a monitor UUO. -/
def Instr.isMonitorUuo : Instr → Bool
  | .muuo _ _ _ => true
  | _ => false

section
variable {c : Config} {i : Instr} {op op' : BitVec 9} {ac ac' : AcNum} {m m' : EaField}

theorem pack_inj (h : pack op ac m = pack op' ac' m') : op = op' ∧ ac = ac' ∧ m = m' :=
  ⟨by simpa using congrArg opField h, by simpa using congrArg acField h, by simpa using congrArg eaField h⟩

theorem isMuuo_of_pack (h : [pack op' ac' m'] = [pack op ac m]) (hno : isMuuo c op' ac' = false) :
    isMuuo c op ac = false := by
  obtain ⟨rfl, rfl, rfl⟩ := pack_inj (List.singleton_inj.mp h)
  exact hno

theorem two_words_ne_one (v w x : Word) : [v, w] ≠ [x] := fun h => nomatch congrArg List.length h

/-- Where an instruction shares an opcode with monitor UUOs by the setting of ITS, its gate tells them apart. -/
theorem isMuuo_of_gate {b : Bool} (hb : c.its = b) (hno : isMuuo { c with its := b } op ac = false) :
    isMuuo c op ac = false := by
  subst hb
  exact hno

/-- An instruction that stands for a word of the table and is no monitor UUO has no monitor UUO's encoding. -/
theorem isMuuo_of_wf (hwf : i.wf c = true) (hi : i.isMonitorUuo = false) (h : encode i = [pack op ac m]) :
    isMuuo c op ac = false := by
  cases i with
  | muuo => exact nomatch hi
  | xctri | xctr | circ | clrcsh | spm | lpmr => exact isMuuo_of_pack h (isMuuo_of_gate (b := true) hwf rfl)
  | map => exact isMuuo_of_pack h (isMuuo_of_gate (b := false) (Bool.not_inj hwf) rfl)
  | xjrst =>
    have hx : c.hasXjrst = true := hwf
    exact isMuuo_of_pack h (by simp [isMuuo, hx])
  | cmpsl | cmpse | cmpsle | edit | cmpsge | cmpsn | cmpsg | cvtdbo | cvtdbt | cvtbdo | cvtbdt | movso | movst
  | movslj | movsrj => exact absurd h (two_words_ne_one _ _ _)
  | _ => exact isMuuo_of_pack h (by rfl)

/-- A word with a monitor UUO's encoding decodes to that monitor UUO: no other instruction has its encoding. -/
theorem decode_muuo (h : isMuuo c op ac = true) : decode c (pack op ac m) = .muuo op ac m := by
  obtain ⟨hwf, henc⟩ := encodeDecode c (pack op ac m)
  generalize decode c (pack op ac m) = i at hwf henc
  have hi : i.isMonitorUuo = true := by
    by_contra hi
    exact nomatch h.symm.trans (isMuuo_of_wf hwf (Bool.eq_false_iff.mpr hi) henc)
  cases i with
  | muuo op' ac' m' =>
    obtain ⟨rfl, rfl, rfl⟩ := pack_inj (List.singleton_inj.mp henc)
    rfl
  | _ => exact nomatch hi

/-! ### Every instruction -/

theorem decodeWords_encode (h : i.wf c = true) : decodeWords c ((encode i).map BitVec.toNat) = .ok i := by
  cases i with
  | muuo op ac m => exact (decodeWords_single c _).trans (congrArg _ (decode_muuo h))
  | adjbp ac m =>
    refine decodeWords_of_row ?_
    exact if_neg (bne_iff_ne.mp h)
  | pxct ac m =>
    refine decodeWords_of_row ?_
    exact if_neg (bne_iff_ne.mp h)
  | xjrst m =>
    refine decodeWords_of_row ?_
    exact if_pos h
  | cmpsl | cmpse | cmpsle | edit | cmpsge | cmpsn | cmpsg | cvtdbo | cvtdbt | cvtbdo | cvtbdt | movso | movst
  | movslj | movsrj => exact decodeWords_extended (decodeExtended_pack (by decide) rfl)
  | xctri | xctr | circ | clrcsh | sdbr1 | sdbr2 | sdbr3 | sdbr4 | spm
  | ldbr1 | ldbr2 | ldbr3 | ldbr4 | lpmr | iordi | iordq | iord | iowr
  | iowri | iowrq | iordbi | iordbq | iordb | iowrb | iowrbi | iowrbq => exact decodeWords_of_gated_row (b := true) h rfl
  | map | rdspb | rdcsb | rdpur | rdcstm | wrspb | wrcsb | wrpur | wrcstm
  | tioe | tion | rdio | wrio | bsio | bcio | tioeb | tionb
  | rdiob | wriob | bsiob | bciob => exact decodeWords_of_gated_row (b := false) (Bool.not_inj h) rfl
  | _ => exact decodeWords_of_row rfl

end

/-! ### The statements -/

/-- Settles O6: one-word instructions by their row, under their gate (`decodeWords_of_row`, `decodeWords_of_gated_row`);
monitor UUOs by `decode_muuo`; the EXTEND operations by their two words. -/
theorem decodeEncode : Obligations.DecodeEncode := fun _ _ h => decodeWords_encode h

/-- Settles O8: the decoder run on the words. -/
theorem decodeWrittenWords : Obligations.DecodeWrittenWords := ⟨rfl, rfl, rfl, rfl, rfl, rfl⟩

end Sys2Proof

namespace Sys2Proof.Machine

/-- Settles O1: the fields of the reset state. -/
theorem resetRegisters : Obligations.ResetRegisters := by
  unfold Obligations.ResetRegisters
  decide

/-- Settles O2: the checks of the invariant run on the reset state. -/
theorem resetInvariant : Obligations.ResetInvariant := by
  unfold Obligations.ResetInvariant
  decide

end Sys2Proof.Machine
end

section
/-! SUPPORT. The levels of the priority-interrupt system (60_exceptions.md section 2, R1211 to R1214). -/

namespace Sys2Proof.Machine

open Sys2Proof

/-! ### Masks of levels (R1211) -/

theorem lowest_pos (m : BitVec 7) : 0 < lowest m := by
  unfold lowest
  split_ifs <;> decide

theorem succ_lt_lowest_iff {m : BitVec 7} {n : Nat} (hn : n < 7) :
    n + 1 < lowest m ↔ n < lowest m ∧ m.getLsbD (7 - (n + 1)) = false := by
  unfold lowest
  interval_cases n <;> split_ifs <;> simp_all

/-- The lowest-numbered level is beyond `n` exactly when no level up to `n` is in the mask. -/
theorem lt_lowest_iff {m : BitVec 7} {n : Nat} (hn : n ≤ 7) :
    n < lowest m ↔ ∀ k, 1 ≤ k → k ≤ n → m.getLsbD (7 - k) = false := by
  induction n with
  | zero => exact ⟨fun _ k h1 h0 => absurd (h1.trans h0) (by decide), fun _ => lowest_pos m⟩
  | succ n ih =>
    rw [succ_lt_lowest_iff (by omega), ih (by omega)]
    constructor
    · rintro ⟨hlow, hbit⟩ k h1 hk
      obtain rfl | hlt := Nat.eq_or_lt_of_le hk
      · exact hbit
      · exact hlow k h1 (by omega)
    · exact fun h => ⟨fun k h1 hk => h k h1 (by omega), h (n + 1) (by omega) (Nat.le_refl _)⟩

theorem lowest_le_of_bit {m : BitVec 7} {n : Nat} (h1 : 1 ≤ n) (h7 : n ≤ 7) (hb : m.getLsbD (7 - n) = true) :
    lowest m ≤ n := by
  by_contra hlt
  exact nomatch hb.symm.trans ((lt_lowest_iff h7).mp (Nat.not_le.mp hlt) n h1 (Nat.le_refl n))

theorem lowest_eq_iff {m : BitVec 7} {n : Nat} (h1 : 1 ≤ n) (h7 : n ≤ 7) :
    lowest m = n ↔ m.getLsbD (7 - n) = true ∧ ∀ k, 1 ≤ k → k < n → m.getLsbD (7 - k) = false := by
  obtain ⟨k, rfl⟩ : ∃ k, n = k + 1 := ⟨n - 1, by omega⟩
  have hstep := succ_lt_lowest_iff (m := m) (n := k) (by omega)
  have hall : k < lowest m ↔ ∀ j, 1 ≤ j → j < k + 1 → m.getLsbD (7 - j) = false := by
    simpa only [Nat.lt_succ_iff] using lt_lowest_iff (m := m) (n := k) (by omega)
  rw [← hall]
  cases hb : m.getLsbD (7 - (k + 1)) <;> simp only [hb, and_true, reduceCtorEq, and_false, false_and, true_and,
    iff_false] at hstep ⊢ <;> omega

/-- A level in the mask, as the statements write it. -/
theorem getLsbD_lvbit {l n : Nat} (hl1 : 1 ≤ l) (hl7 : l ≤ 7) (hn1 : 1 ≤ n) (hn7 : n ≤ 7) :
    (lvbit l).getLsbD (7 - n) = decide (l = n) := by
  interval_cases l <;> interval_cases n <;> rfl

/-! ### The statements -/

/-- Settles O16: `lowest_eq_iff` for the requests, `lt_lowest_iff` for the active levels. -/
theorem pendingLevel : Obligations.PendingLevel := by
  intro s n h1 h7
  rw [← lt_lowest_iff h7]
  by_cases hon : s.pi.on = true
  · simp only [State.piPending, hon, if_true, true_and]
    generalize (s.piAprq ||| s.pi.ioq ||| s.pi.prq) &&& s.pi.enb = r
    rw [← and_assoc, ← lowest_eq_iff h1 h7]
    split <;> omega
  · simp only [State.piPending, hon, Bool.false_eq_true, if_false, false_and, iff_false]
    omega

theorem getLsbD_dismissed {a : BitVec 7} {n : Nat} (h1 : 1 ≤ n) (h7 : n ≤ 7) :
    (a &&& ~~~(lvbit (lowest a))).getLsbD (7 - n) = true ↔
      a.getLsbD (7 - n) = true ∧ ∃ k, 1 ≤ k ∧ k < n ∧ a.getLsbD (7 - k) = true := by
  rw [BitVec.getLsbD_and, BitVec.getLsbD_not, Bool.and_eq_true]
  refine and_congr_right fun hb => ?_
  have hle := lowest_le_of_bit h1 h7 hb
  have hlow := lt_lowest_iff (m := a) (n := n - 1) (by omega)
  rw [getLsbD_lvbit (lowest_pos a) (hle.trans h7) h1 h7]
  simp only [show 7 - n < 7 by omega, decide_true, Bool.true_and, Bool.not_eq_true', decide_eq_false_iff_not]
  constructor
  · intro hne
    by_contra hno
    have hlt : n - 1 < lowest a := hlow.mpr fun k hk1 hk => by
      by_contra hbit
      exact hno ⟨k, hk1, by omega, Bool.not_eq_false _ ▸ hbit⟩
    omega
  · rintro ⟨k, hk1, hk, hbit⟩ rfl
    exact absurd (lowest_le_of_bit hk1 (by omega) hbit) (by omega)

/-- With no active level there is none to clear. -/
theorem dismissSt_eq (s : State) :
    dismissSt s = { s with pi := { s.pi with act := s.pi.act &&& ~~~(lvbit (lowest s.pi.act)) } } := by
  rw [dismissSt]
  split
  case isTrue h0 =>
    have hact : s.pi.act &&& ~~~(lvbit (lowest s.pi.act)) = s.pi.act := by simp [h0]
    rw [hact]
  case isFalse => rfl

/-- Settles O17: the lowest-numbered active level has no active level before it, the others have that one. -/
theorem dismissHighest : Obligations.DismissHighest := by
  intro s
  rw [dismissSt_eq]
  exact ⟨rfl, rfl, rfl, rfl, rfl, fun n h1 h7 => getLsbD_dismissed h1 h7⟩

end Sys2Proof.Machine
end

section
/-! SUPPORT. The sequences that save flags and PC and enter a handler: page fail, MUUO and 1-proceed (60_exceptions.md
sections 1, 4, 6 and 7, R1203, R1205, R1230 to R1232, R1245, R1246, R1250, R1257). -/

namespace Sys2Proof.Machine

open Sys2Proof

/-! ### The new flags of a handler (R1250, R1257) -/

/-- PCU or-ed into a half is or-ed into UIO alone, the flag of its place. -/
theorem ofHalf_pcu (h : Half) (user : Bool) :
    Flags.ofHalf (h ||| if user then 0o004000 else 0) = { Flags.ofHalf h with uio := h.getLsbD 11 || user } := by
  cases user <;> simp [Flags.ofHalf]

/-- The state a handler starts in: a save area stored, and flags and PC of its new-flags,,PC cell loaded, PCU set when the
old mode was user, the 1-proceed latch spent. -/
def State.entered (s : State) (mem : List (Nat × Word)) (n : Word) : State :=
  (setNewflags (lh n ||| if s.flags.user then 0o004000 else 0) false { s with mem := mem, its2pr := false }).setPc (rh n)

section
variable {s : State} {mem : List (Nat × Word)} {n : Word}

@[simp] theorem entered_mem : (s.entered mem n).mem = mem := rfl

/-- The flags loaded without the guard of JRST: AFI goes to the 1-proceed request under ITS (R1250). -/
theorem setNewflags_unguarded_flags (w : Half) (s : State) :
    (setNewflags w false s).flags = { Flags.ofHalf w with afi := w.getLsbD 9 && !s.cfg.its } := by
  cases hi : s.cfg.its <;> simp [setNewflags, Flags.ofHalf, hi]

theorem setNewflags_its1pr (w : Half) (j : Bool) (s : State) :
    (setNewflags w j s).its1pr = (s.its1pr || (s.cfg.its && w.getLsbD 9)) := rfl

theorem entered_flags : (s.entered mem n).flags = { Flags.ofHalf (lh n) with
    uio := (lh n).getLsbD 11 || s.flags.user, afi := (lh n).getLsbD 9 && !s.cfg.its } := by
  rw [State.entered, setPc_flags, setNewflags_unguarded_flags, ofHalf_pcu]
  cases s.flags.user <;> simp

theorem entered_its1pr : (s.entered mem n).its1pr = (s.its1pr || (s.cfg.its && (lh n).getLsbD 9)) := by
  rw [State.entered, setPc_its1pr, setNewflags_its1pr]
  cases s.flags.user <;> simp

end

/-! ### Saving and entering (R1203, R1230) -/

section
variable {s : State} {α : Type} {l : List (Nat × α)} {f : α → Word} {cell : Nat} {mem : List (Nat × Word)} {n : Word}

/-- A save area whose cells exist, then the handler whose cell holds a word once the save area is stored. -/
theorem saveAll_enterHandler_run (hsaves : ∀ c ∈ l, s.upt + c.1 < s.cfg.memSize)
    (hmem : mem = l.foldl (fun k c => tblSet k (s.upt + c.1) (f c.2)) s.mem) (hcell : cell < s.cfg.memSize)
    (hn : tblGet mem cell = some n) :
    (saveAll s.upt (l.map fun c => (c.1, f c.2)) >>= fun _ => enterHandler cell) s = .ok () (s.entered mem n) := by
  have hall : ∀ c ∈ l.map fun c => (c.1, f c.2), s.upt + c.1 < s.cfg.memSize := by
    intro c hc
    obtain ⟨d, hd, rfl⟩ := List.mem_map.mp hc
    exact hsaves d hd
  rw [run_bind, saveAll_run hall, List.foldl_map, ← hmem]
  simp only [enterHandler, run_bind, run_getS, seqRead_run (s := { s with mem := mem }) hcell hn, run_modS]
  rfl

end

/-! ### The page-fail sequence (R1203, R1205) -/

theorem pfCells_eq (s : State) :
    s.pfCells = if s.cfg.its then s.cfg.pfIts else if s.base.ebr.t20 then s.cfg.pfT20 else s.cfg.pfT10 := by
  cases hi : s.cfg.its <;> simp [State.pfCells, State.t20Format, hi]

/-- A page fail whose save area and new-PC cell exist: the state its handler starts in, PC having gone back to IPC. -/
theorem abortOutcome_pageFail_entered {s : State} {mem : List (Nat × Word)} {n : Word} (hi : s.inhibit = false)
    (hsaves : ∀ c ∈ s.pfCells.saves, s.upt + c.1 < s.cfg.memSize) (hcell : s.upt + s.pfCells.entry < s.cfg.memSize)
    (hmem : mem = s.pfCells.saves.foldl
      (fun l c => tblSet l (s.upt + c.1) (pfItemWord s.savedFlags s.ipc s.pagerWord c.2)) s.mem)
    (hn : tblGet mem (s.upt + s.pfCells.entry) = some n) :
    abortOutcome .pageFail s = .next { (s.setPc s.ipc).entered mem n with report := .pageFail } := by
  refine abortOutcome_pageFail hi ?_
  rw [pageFailSeq, run_bind, run_modS]
  exact saveAll_enterHandler_run (s := s.setPc s.ipc) (f := pfItemWord s.savedFlags s.ipc s.pagerWord) hsaves hmem hcell hn

section
variable {s : State} {n : Word} {off base : Nat}

/-- The save area of a page fail in two words, the status word and FLPC (the default outside TOPS-20). -/
theorem pageFail_two_words (hi : s.inhibit = false) (hcells : s.pfCells = ⟨[(off, .status), (off + 1, .flpc)], off + 2⟩)
    (hbase : base = s.upt + off) (hlt : base + 2 < s.cfg.memSize) (hn : tblGet s.mem (base + 2) = some n) :
    ∃ t, abortOutcome .pageFail s = .next t ∧ t.pc = rh n ∧ tblGet t.mem base = some s.pagerWord ∧
      tblGet t.mem (base + 1) = some (xwd s.savedFlags s.ipc) ∧
      MemSameOutside (fun a => base ≤ a ∧ a < base + 2) s t := by
  subst hbase
  refine ⟨_, abortOutcome_pageFail_entered (n := n) hi ?_ ?_ rfl ?_, rfl, ?_, ?_, fun a ha => ?_⟩
  · simp only [hcells, List.forall_mem_cons, List.not_mem_nil, false_implies, implies_true, and_true]
    omega
  · simpa only [hcells, Nat.add_assoc] using hlt
  all_goals
    simp (disch := omega) only [hcells, List.foldl_cons, List.foldl_nil, pfItemWord, entered_mem, tblGet_tblSet,
      ← Nat.add_assoc, if_true, if_neg, hn]

/-- The save area of a page fail in three words, the status word, the flags and PC (the default under TOPS-20). -/
theorem pageFail_three_words (hi : s.inhibit = false)
    (hcells : s.pfCells = ⟨[(off, .status), (off + 1, .flags), (off + 2, .pc)], off + 3⟩)
    (hbase : base = s.upt + off) (hlt : base + 3 < s.cfg.memSize) (hn : tblGet s.mem (base + 3) = some n) :
    ∃ t, abortOutcome .pageFail s = .next t ∧ t.pc = rh n ∧ tblGet t.mem base = some s.pagerWord ∧
      tblGet t.mem (base + 1) = some (xwd s.savedFlags 0) ∧ tblGet t.mem (base + 2) = some (xwd 0 s.ipc) ∧
      MemSameOutside (fun a => base ≤ a ∧ a < base + 3) s t := by
  subst hbase
  refine ⟨_, abortOutcome_pageFail_entered (n := n) hi ?_ ?_ rfl ?_, rfl, ?_, ?_, ?_, fun a ha => ?_⟩
  · simp only [hcells, List.forall_mem_cons, List.not_mem_nil, false_implies, implies_true, and_true]
    omega
  · simpa only [hcells, Nat.add_assoc] using hlt
  all_goals
    simp (disch := omega) only [hcells, List.foldl_cons, List.foldl_nil, pfItemWord, entered_mem, tblGet_tblSet,
      ← Nat.add_assoc, if_true, if_neg, hn]

end

/-- Settles O19: `abortOutcome_pageFail_entered` for any save format, with the default formats in two and in three words. -/
theorem pageFailEntry : Obligations.PageFailEntry := by
  refine ⟨?general, ?defaults⟩
  case general =>
    rintro s n cells old mem hi rfl rfl hsaves hcell hmem hn
    rw [← pfCells_eq] at hsaves hcell hmem hn
    exact ⟨_, abortOutcome_pageFail_entered hi hsaves hcell hmem hn, rfl, rfl, rfl, rfl, entered_flags, rfl,
      entered_its1pr⟩
  case defaults =>
    rintro s n base new old hi rfl h10 h20 hits hbase rfl hlt hn
    have hcells := pfCells_eq s
    cases hk : s.cfg.its <;> cases h2 : s.base.ebr.t20 <;> simp only [hk, h2, h10, h20, hits] at hcells hbase hlt hn ⊢
    case false.true =>
      obtain ⟨t, ht, hpc, hword, hflags, hold, hsame⟩ := pageFail_three_words hi hcells hbase hlt hn
      exact ⟨t, ht, hpc, hword, fun _ => ⟨hflags, hold⟩, fun hno => absurd ⟨trivial, trivial⟩ hno, hsame⟩
    all_goals
      obtain ⟨t, ht, hpc, hword, hold, hsame⟩ := pageFail_two_words hi hcells hbase hlt hn
      exact ⟨t, ht, hpc, hword, nofun, fun _ => hold, hsame⟩

/-! ### The MUUO sequence (R1230 to R1232) -/

section
variable {s t : State} (h : SameRegisters s t)
include h

theorem SameRegisters.upt : t.upt = s.upt := by rw [State.upt, State.upt, h.base]

theorem SameRegisters.savedFlags : t.savedFlags = s.savedFlags := by
  rw [State.savedFlags, State.savedFlags, h.flags, h.its2pr]

theorem SameRegisters.ubrWord : t.ubrWord = s.ubrWord := by rw [State.ubrWord, State.ubrWord, h.base]

theorem SameRegisters.muuoCells : t.muuoCells = s.muuoCells := by
  rw [State.muuoCells, State.muuoCells, State.t20Format, State.t20Format, h.base, h.cfg]

theorem SameRegisters.muuoCell : t.muuoCell = s.muuoCell := by
  rw [State.muuoCell, State.muuoCell, h.upt, h.flags, h.phase, h.cfg]

end

/-- The new-PC cell by its number: USER, PUBLIC and the trap sequence, as bits from the left (R1232). -/
theorem muuoCell_eq (s : State) : s.muuoCell = s.upt + s.cfg.muuoNew.toList.getD
    (4 * s.flags.user.toNat + 2 * s.flags.pub.toNat + (if s.phase = .trap then 1 else 0)) 0 := by
  have key (v : Vector Nat 8) (t : BitVec 3) : v.get t.toFin = v.toList.getD t.toNat 0 := by
    rw [List.getD_eq_getElem _ _ (by simpa using t.isLt), Vector.getElem_toList, Vector.get_eq_getElem]
    rfl
  rw [State.muuoCell, key]
  congr 2
  cases s.flags.user <;> cases s.flags.pub <;> cases s.phase <;> rfl

theorem muuoCell_default {s : State} (h : s.cfg.muuoNew = Config.default.muuoNew) :
    s.muuoCell = s.upt + 0o430 + 4 * s.flags.user.toNat + 2 * s.flags.pub.toNat +
      (if s.phase = .trap then 1 else 0) := by
  have key (k : Nat) (hk : k < 8) : Config.default.muuoNew.toList.getD k 0 = 0o430 + k := by
    interval_cases k <;> rfl
  have hu := Bool.toNat_le s.flags.user
  have hp := Bool.toNat_le s.flags.pub
  rw [muuoCell_eq, h, key _ (by split <;> omega)]
  omega

section
variable {s s1 : State} {op : BitVec 9} {ac : AcNum} {m : EaField} {e : VAddr} {n : Word} {mem : List (Nat × Word)}

theorem muuoOp_run (h1 : ea m s = .ok e s1) (hop : ¬ (s.cfg.stopOnOp0 = true ∧ op = 0)) :
    muuoOp op ac m s = muuoSeq op ac e s1 := by
  have hgo : ¬ (s.cfg.stopOnOp0 && op == 0) = true := by simpa using hop
  simp only [muuoOp, run_bind, run_getS, h1, if_neg hgo]

/-- An MUUO whose save area and new-PC cell exist: the state its handler starts in. -/
theorem exec_muuo_entered (h1 : ea m s = .ok e s1) (hop : ¬ (s.cfg.stopOnOp0 = true ∧ op = 0))
    (hsaves : ∀ c ∈ s.muuoCells, s.upt + c.1 < s.cfg.memSize) (hcell : s.muuoCell < s.cfg.memSize)
    (hmem : mem = s.muuoCells.foldl
      (fun l c => tblSet l (s.upt + c.1) (muuoItemWord op ac e s.savedFlags s.pc s.ubrWord c.2)) s1.mem)
    (hn : tblGet mem s.muuoCell = some n) : exec (.muuo op ac m) s = .next (s1.entered mem n) := by
  have fr := (Frames.ea m).ok h1
  refine finish_of_ok ((muuoOp_run h1 hop).trans ?_)
  rw [← fr.muuoCells, ← fr.upt, ← fr.savedFlags, ← fr.pc, ← fr.ubrWord] at hmem
  rw [← fr.cfg, ← fr.upt, ← fr.muuoCells] at hsaves
  rw [← fr.cfg, ← fr.muuoCell] at hcell
  rw [← fr.muuoCell] at hn
  exact saveAll_enterHandler_run (f := muuoItemWord op ac e s1.savedFlags s1.pc s1.ubrWord) hsaves hmem hcell hn

/-- The default save area of an MUUO outside TOPS-20. -/
theorem exec_muuo_three_words (h1 : ea m s = .ok e s1) (hop : ¬ (s.cfg.stopOnOp0 = true ∧ op = 0))
    (hcells : s.muuoCells = Config.default.muuoT10) (hlt : s.upt + 0o440 ≤ s.cfg.memSize)
    (hcell : s.upt + 0o430 ≤ s.muuoCell ∧ s.muuoCell < s.upt + 0o440) (hn : tblGet s1.mem s.muuoCell = some n) :
    ∃ t, exec (.muuo op ac m) s = .next t ∧ t.pc = rh n ∧
      tblGet t.mem (s.upt + 0o424) = some (xwd (opacHalf op ac) e) ∧
      tblGet t.mem (s.upt + 0o425) = some (xwd s.savedFlags s.pc) ∧ tblGet t.mem (s.upt + 0o426) = some s.ubrWord ∧
      MemSameOutside (fun a => s.upt + 0o424 ≤ a ∧ a ≤ s.upt + 0o426) s1 t := by
  refine ⟨_, exec_muuo_entered (n := n) h1 hop ?_ (hcell.2.trans_le hlt) rfl ?_, rfl, ?_, ?_, ?_, fun a ha => ?_⟩
  · simp only [hcells, Config.default, List.forall_mem_cons, List.not_mem_nil, false_implies, implies_true, and_true]
    omega
  all_goals
    simp (disch := omega) only [hcells, Config.default, List.foldl_cons, List.foldl_nil, muuoItemWord, entered_mem,
      tblGet_tblSet, if_true, if_neg, hn]

/-- The default save area of an MUUO under TOPS-20. -/
theorem exec_muuo_four_words (h1 : ea m s = .ok e s1) (hop : ¬ (s.cfg.stopOnOp0 = true ∧ op = 0))
    (hcells : s.muuoCells = Config.default.muuoT20) (hlt : s.upt + 0o440 ≤ s.cfg.memSize)
    (hcell : s.upt + 0o430 ≤ s.muuoCell ∧ s.muuoCell < s.upt + 0o440) (hn : tblGet s1.mem s.muuoCell = some n) :
    ∃ t, exec (.muuo op ac m) s = .next t ∧ t.pc = rh n ∧
      tblGet t.mem (s.upt + 0o424) = some (xwd s.savedFlags (opacHalf op ac)) ∧
      tblGet t.mem (s.upt + 0o425) = some (xwd 0 s.pc) ∧ tblGet t.mem (s.upt + 0o426) = some (xwd 0 e) ∧
      tblGet t.mem (s.upt + 0o427) = some s.ubrWord ∧
      MemSameOutside (fun a => s.upt + 0o424 ≤ a ∧ a ≤ s.upt + 0o427) s1 t := by
  refine ⟨_, exec_muuo_entered (n := n) h1 hop ?_ (hcell.2.trans_le hlt) rfl ?_, rfl, ?_, ?_, ?_, ?_, fun a ha => ?_⟩
  · simp only [hcells, Config.default, List.forall_mem_cons, List.not_mem_nil, false_implies, implies_true, and_true]
    omega
  all_goals
    simp (disch := omega) only [hcells, Config.default, List.foldl_cons, List.foldl_nil, muuoItemWord, entered_mem,
      tblGet_tblSet, if_true, if_neg, hn]

end

/-- Settles O20: `exec_muuo_entered` for any save format, with the default formats; the stop of opcode 0 by its run. -/
theorem muuoEntry : Obligations.MuuoEntry := by
  refine ⟨?general, ?defaults, ?illeg⟩
  case general =>
    rintro op ac m s s1 e n cells cell old opac mem h1 hop rfl rfl rfl rfl hsaves hcell hmem hn
    rw [← muuoCell_eq] at hcell hn
    have fr := (Frames.ea m).ok h1
    refine ⟨_, exec_muuo_entered h1 hop hsaves hcell hmem hn, rfl, rfl, fr.acb, ?_, rfl, ?_⟩
    · rw [entered_flags, fr.flags, fr.cfg]
    · rw [entered_its1pr, fr.its1pr, fr.cfg]
  case defaults =>
    rintro op ac m s s1 e n cell old h1 hop rfl h10 h20 hnew hlt rfl hn
    have hcell : s.upt + 0o430 ≤ s.muuoCell ∧ s.muuoCell < s.upt + 0o440 := by
      have hu := Bool.toNat_le s.flags.user
      have hp := Bool.toNat_le s.flags.pub
      rw [muuoCell_default hnew]
      split <;> omega
    rw [← muuoCell_default hnew] at hn
    by_cases hfmt : (s.base.ebr.t20 && !s.cfg.its) = true
    · have hcells : s.muuoCells = Config.default.muuoT20 := by rw [State.muuoCells, ← h20]; exact if_pos hfmt
      obtain ⟨t, ht, hpc, hstored⟩ := exec_muuo_four_words h1 hop hcells hlt hcell hn
      exact ⟨t, ht, hpc, fun hno => absurd (by simpa using hfmt) hno, fun _ => hstored⟩
    · have hcells : s.muuoCells = Config.default.muuoT10 := by rw [State.muuoCells, ← h10]; exact if_neg hfmt
      obtain ⟨t, ht, hpc, hstored⟩ := exec_muuo_three_words h1 hop hcells hlt hcell hn
      exact ⟨t, ht, hpc, fun _ => hstored, fun h => absurd (by simpa using h) hfmt⟩
  case illeg =>
    intro ac m s s1 e h1 hstop
    have hrun : muuoOp 0 ac m s = .error (.stop .illeg) s := by
      simp only [muuoOp, run_bind, run_getS, h1, hstop, beq_self_eq_true, Bool.and_self, if_true, run_stopIlleg]
    exact finish_of_error hrun

end Sys2Proof.Machine
end

section
/-! SUPPORT. One step at an ordinary fetch, at an arithmetic trap, and with a 1-proceed request (60_exceptions.md sections 5 to
8, R1240, R1245, R1250, R1260). -/

namespace Sys2Proof.Machine

open Sys2Proof

/-! ### One executed word -/

section
variable {s t : State} {p : Pending}

/-- A step that executes a word which leaves none is at its end. -/
theorem runPending_word (h : s.pending = some p)
    (he : exec (decode s.cfg p.word) { s with pending := none, pxct := p.pxct, inhibit := p.inhibit } = .next t)
    (ht : t.pending = none) : runPending (.next s) = settle t := by
  have hd : drain drainFuel s = .next t := by rw [drainFuel_eq, drain_pending h he, drain_none ht]
  simp only [runPending, hd]

/-- No 1-proceed trap follows a word that was not fetched ordinarily (R1245, log entry 31). -/
theorem settle_not_fetched (h : s.pending = none) (hc : s.its2pr = true → s.phase ≠ .fetch) :
    settle s = .next { s with pxct := 0, inhibit := false, phase := .fetch } := by
  have hcomplete : complete s = .next s := by
    refine if_neg fun hall => ?_
    simp only [Bool.and_eq_true, beq_iff_eq] at hall
    exact hc hall.1.1 hall.1.2
  simp only [settle, h, hcomplete]

end

/-! ### The ordinary fetch (R1260) -/

section
variable {s s1 t : State} {w : Word}

theorem fetchSeq_reads (hr : vread .cur s.pc s.beginFetch = .ok w s1) :
    fetchSeq s = .ok () { s1 with pc := s1.pc + 1, pending := some ⟨w, 0, false⟩ } := by
  have hpc : s.beginFetch.pc = s.pc := rfl
  simp only [fetchSeq, run_bind, run_modS, run_getS, hpc, hr, run_setPending]
  rfl

/-- A word fetched at a boundary, and executed, ends the step. -/
theorem runPending_fetched (hp : s.pending = none) (hr : vread .cur s.pc s.beginFetch = .ok w s1)
    (he : exec (decode s.cfg w) { s1 with pc := s1.pc + 1, pxct := 0, inhibit := false } = .next t)
    (ht : t.pending = none) : runPending (finish fetchSeq s) = settle t := by
  have f := (Frames.vread _ _).ok hr
  have hpend : s1.pending = none := f.pending.trans hp
  have hcfg : s1.cfg = s.cfg := f.cfg
  rw [finish_of_ok (fetchSeq_reads hr)]
  refine runPending_word (p := ⟨w, 0, false⟩) rfl ?_ ht
  rw [← he, ← hcfg, ← hpend]

/-- Settles O4: the word fetched is executed and ends the step. -/
theorem stepRunsDecoded : Obligations.StepRunsDecoded := by
  intro s s1 t w h hr he ht h2
  rw [step_boundary h.pending h.agenda,
    boundary_fetch (t := { s with report := .ok }) h.fatal h.forced h.quiet h.noTrap h.noBreak]
  rw [runPending_fetched (s := { s with report := .ok }) h.pending ?_ he ht, settle_plain ht h2]
  rw [beginFetch_latchesClear (s := { s with report := .ok }) h.noProceed]
  exact hr

end

/-! ### The arithmetic trap (R1240) -/

theorem trapCell_default {s : State} (h : s.cfg.trapCells = Config.default.trapCells) :
    s.trapCell = (if s.flags.user then s.base.ubr.uptPg.toNat else s.base.ebr.eptPg.toNat) * 0o1000 + 0o420 +
      (if s.flags.trap1 then 1 else 0) + (if s.flags.trap2 then 2 else 0) := by
  have hbase : Config.default.trapCells = 0o420 := rfl
  rw [State.trapCell, h, hbase, State.upt, State.ept]
  cases s.flags.user <;> cases s.flags.trap1 <;> cases s.flags.trap2 <;> rfl

theorem trapSeq_run {s : State} {w : Word} (hc : s.trapCell < s.cfg.memSize) (hw : tblGet s.mem s.trapCell = some w) :
    trapSeq s = .ok () { s with
      flags := { s.flags with trap1 := false, trap2 := false }, ipc := s.pc, phase := .trap, indCount := 0
      xctCount := 1, pending := some ⟨w, 0, false⟩ } := by
  simp only [trapSeq, beginAs, run_bind, run_getS, run_modS]
  rw [seqRead_run (by exact hc) (by exact hw)]
  rfl

/-- Settles O21: the trap word of `trapSeq_run` is executed, and no 1-proceed trap follows it. -/
theorem arithmeticTrap : Obligations.ArithmeticTrap := by
  refine ⟨fun s h => trapCell_default h, ?step⟩
  intro s t w hp hag hfatal hforced hquiet hpg htrap hc hw he ht h2
  have hdue : s.trapDue = true := by
    rcases htrap with h | h <;> simp [State.trapDue, h, hpg]
  rw [step_boundary hp hag, boundary_trap (t := { s with report := .ok }) hfatal hforced hquiet hdue,
    finish_of_ok (trapSeq_run (s := { s with report := .ok }) hc hw)]
  rw [runPending_word (t := t) (p := ⟨w, 0, false⟩) rfl ?_ ht,
    settle_not_fetched ht fun hlatch => by rw [h2 hlatch]; decide]
  rw [← he, ← hp]

/-! ### The 1-proceed trap (R1245) -/

section
variable {s : State} {n : Word} {mem : List (Nat × Word)}

/-- The state the 1-proceed handler starts in. -/
def State.proceeded (s : State) (mem : List (Nat × Word)) (n : Word) : State :=
  (setNewflags (lh n) false { s with its2pr := false, its1pr := false, mem := mem }).setPc (rh n)

theorem oneProceed_run (hold : s.upt + s.cfg.its1prOld < s.cfg.memSize) (hnew : s.upt + s.cfg.its1prNew < s.cfg.memSize)
    (hmem : mem = tblSet s.mem (s.upt + s.cfg.its1prOld) s.proceedWord)
    (hn : tblGet mem (s.upt + s.cfg.its1prNew) = some n) : oneProceed s = .ok () (s.proceeded mem n) := by
  subst hmem
  simp only [oneProceed, run_bind, run_modS, run_getS]
  rw [seqWrite_run (by exact hold)]
  dsimp only
  rw [seqRead_run (by exact hnew) (by exact hn)]
  rfl

/-- The end of a step under ITS whose instruction completed with the 1-proceed latch set. -/
theorem settle_proceeds (h2 : s.its2pr = true) (hph : s.phase = .fetch) (hok : s.report = .ok) (hp : s.pending = none)
    (hold : s.upt + s.cfg.its1prOld < s.cfg.memSize) (hnew : s.upt + s.cfg.its1prNew < s.cfg.memSize)
    (hmem : mem = tblSet s.mem (s.upt + s.cfg.its1prOld) s.proceedWord)
    (hn : tblGet mem (s.upt + s.cfg.its1prNew) = some n) :
    ∃ t, settle s = .next t ∧ t.its2pr = false ∧ t.pc = rh n ∧ t.acb = s.acb ∧ t.mem = mem ∧
      t.flags = { Flags.ofHalf (lh n) with afi := (lh n).getLsbD 9 && !s.cfg.its } ∧
      t.its1pr = (s.cfg.its && (lh n).getLsbD 9) := by
  have hcomplete : complete s = .next (s.proceeded mem n) := by
    rw [complete, h2, hph, hok, if_pos (by decide), oneProceed_run hold hnew hmem hn]
    rfl
  refine ⟨{ s.proceeded mem n with pxct := 0, inhibit := false, phase := .fetch }, ?_, rfl, rfl, rfl, rfl,
    setNewflags_unguarded_flags _ _, Bool.false_or _⟩
  simp only [settle, hp, hcomplete]

/-- The fetch takes a 1-proceed request into the latch, or keeps the latch (R1245). -/
theorem beginFetch_requested (h : s.its1pr = true ∨ s.its2pr = true) : s.beginFetch = { s with
    ipc := s.pc, indCount := 0, xctCount := 0, its2pr := true, its1pr := false, bkptSkip := false } := by
  have hlatch : (s.its2pr || s.its1pr) = true := by
    rcases h with h | h <;> simp [h]
  rw [State.beginFetch, hlatch]

end

end Sys2Proof.Machine

namespace Sys2Proof

open Sys2Proof.Machine

/-- Settles O22: the fetch with `beginFetch_requested`, the trap with `settle_proceeds`. -/
theorem oneProceed : Obligations.OneProceed := by
  refine ⟨?fetch, ?trap⟩
  case fetch =>
    intro s s1 t w h hreq hr he ht
    have hstep : Sys2Proof.Machine.step s = settle t := by
      rw [step_boundary (s := s) h.pending h.agenda,
        boundary_fetch (t := { s with report := .ok }) h.fatal h.forced h.quiet h.noTrap h.noBreak]
      refine runPending_fetched (s := { s with report := .ok }) h.pending ?_ he ht
      rw [beginFetch_requested (s := { s with report := .ok }) hreq]
      exact hr
    rw [hstep]
    exact ⟨rfl, fun n mem h2 hph hok hold hnew hmem hn => settle_proceeds h2 hph hok ht hold hnew hmem hn⟩
  case trap =>
    intro s n mem h2 hph hok hp hold hnew hmem hn
    exact settle_proceeds h2 hph hok hp hold hnew hmem hn

end Sys2Proof
end

section
/-! SUPPORT. Flag restores in user mode, and the instructions that are the MUUO of their own word without their privilege or
under the other discipline (10_state.md section 4, R65, R66; 45_shift_jump.md sections 1, 3 and 4; 49_io.md section 1, R1100;
60_exceptions.md section 7, R1250, R1256). -/

namespace Sys2Proof.Machine

open Sys2Proof Sys2Proof.Statements

/-! ### Restores keep user mode (R65, R66, R1250) -/

/-- User mode is not left, and user I/O not gained in it. -/
def ModeKept (s t : State) : Prop :=
  s.flags.user = true → t.flags.user = true ∧ (s.flags.uio = false → t.flags.uio = false)

/-- The state an operation ends in, whether it completes or aborts. -/
def endState {α : Type} : EStateM.Result Abort State α → State
  | .ok _ t => t
  | .error _ t => t

/-- The operation keeps user mode, however it ends. -/
def KeepsMode {α : Type} (x : M α) : Prop := ∀ s : State, ModeKept s (endState (x s))

theorem ModeKept.of_flags {s t : State} (h : t.flags = s.flags) : ModeKept s t := fun hu => by
  rw [h]
  exact ⟨hu, id⟩

theorem ModeKept.trans {s t u : State} (h : ModeKept s t) (k : ModeKept t u) : ModeKept s u := fun hu =>
  have ⟨hut, hiot⟩ := h hu
  have ⟨huu, hiou⟩ := k hut
  ⟨huu, fun hio => hiou (hiot hio)⟩

/-- The guard of a restore (R1250). -/
theorem modeKept_setNewflags (w : Half) (s : State) : ModeKept s (setNewflags w true s) := fun hu =>
  ⟨by simp [setNewflags, hu], fun hio => by simp [setNewflags, hu, hio]⟩

section
variable {α β : Type}

theorem KeepsMode.of_frames {x : M α} (hx : Frames x) : KeepsMode x := by
  intro s
  have h := hx s
  cases hr : x s with
  | ok a t => rw [hr] at h; exact .of_flags h.flags
  | error a t => rw [hr] at h; exact .of_flags h.flags

theorem KeepsMode.modS {f : State → State} (hf : ∀ s, ModeKept s (f s)) : KeepsMode (Machine.modS f) := hf

theorem KeepsMode.bind {x : M α} {f : α → M β} (hx : KeepsMode x) (hf : ∀ a, KeepsMode (f a)) :
    KeepsMode (x >>= f) := by
  intro s
  have h := hx s
  rw [run_bind]
  cases hr : x s with
  | ok a t =>
    rw [hr] at h
    exact h.trans (hf a t)
  | error e t => rwa [hr] at h

end

theorem KeepsMode.restoreFlpc (w : Half) (pc : VAddr) : KeepsMode (Machine.restoreFlpc w pc) :=
  KeepsMode.modS fun s => modeKept_setNewflags w s

theorem KeepsMode.dismiss : KeepsMode Machine.dismiss :=
  KeepsMode.modS fun s => .of_flags (by rw [dismissSt_eq])

theorem KeepsMode.flagsWord (fn : AcNum) (m : EaField) (r : EaResult) : KeepsMode (Machine.flagsWord fn m r) :=
  fun _ => .of_flags rfl

theorem KeepsMode.jrstfOp (m : EaField) : KeepsMode (Machine.jrstfOp m) :=
  .bind (.of_frames (Frames.eaFull m)) fun _ => .bind (.flagsWord 2 m _) fun _ => .restoreFlpc _ _

theorem KeepsMode.xjrstf (e : VAddr) : KeepsMode (Machine.xjrstf e) :=
  .bind (.of_frames (Frames.rdE2 e)) fun _ => .restoreFlpc _ _

theorem KeepsMode.xjen (e : VAddr) : KeepsMode (Machine.xjen e) :=
  .bind (.of_frames (Frames.rdE2 e)) fun _ => .bind .dismiss fun _ => .restoreFlpc _ _

/-- An abort that reports nothing is a page fail that was suppressed, which changes nothing more (R453). -/
theorem abortOutcome_ok {a : Abort} {s t : State} (h : abortOutcome a s = .next t) (hok : t.report = .ok) : t = s := by
  cases a with
  | fault f => exact nomatch h
  | reenter => cases h; exact nomatch hok
  | stop n => cases h; exact nomatch hok
  | pageFail =>
    simp only [abortOutcome] at h
    split at h
    · cases h; rfl
    · split at h <;> cases h <;> exact nomatch hok

/-- A meaning that ends well ends in the state its operation ends in. -/
theorem endState_of_finish {x : M Unit} {s t : State} (h : finish x s = .next t) (hok : t.report = .ok) :
    endState (x s) = t := by
  cases hr : x s with
  | ok a u =>
    rw [finish_of_ok hr] at h
    cases h
    rfl
  | error a u =>
    rw [finish_of_error hr] at h
    exact (abortOutcome_ok h hok).symm

section
variable {m : EaField} {s t : State} {x : M Unit}

theorem modeKept_of_finish (hx : KeepsMode x) (h : finish x s = .next t) (hok : t.report = .ok) : ModeKept s t :=
  endState_of_finish h hok ▸ hx s

/-- A JRST function whose gate is open is its effect at E. -/
theorem jrstOp_open {cls : JrstClass} {fn : AcNum} {act : VAddr → M Unit} (ho : cls.allows s = true) :
    jrstOp cls fn m act s = (ea m >>= act) s := by
  rw [run_bind]
  cases h1 : ea m s with
  | ok e s1 => exact jrstOp_run h1 ho
  | error a u => simp only [jrstOp, run_bind, h1]

theorem modeKept_jrstOp {cls : JrstClass} {fn : AcNum} {act : VAddr → M Unit} (ho : cls.allows s = true)
    (ha : ∀ e, KeepsMode (act e)) (h : finish (jrstOp cls fn m act) s = .next t) (hok : t.report = .ok) :
    ModeKept s t :=
  modeKept_of_finish (.bind (.of_frames (Frames.ea m)) ha) ((finish_congr (jrstOp_open ho)).symm.trans h) hok

/-- JEN with the I/O privilege. -/
theorem jenOp_open (ho : s.mayIo = true) :
    jenOp m s = (eaFull m >>= fun r => flagsWord 0o12 m r >>= fun w =>
      dismiss >>= fun _ => restoreFlpc (lh w) r.addr) s := by
  rw [run_bind]
  cases h1 : eaFull m s with
  | ok r s1 => simp only [jenOp, run_bind, h1, run_getS, run_ite, ((Frames.eaFull m).ok h1).mayIo, ho, if_true]
  | error a u => simp only [jenOp, run_bind, h1]

theorem modeKept_jen (ho : s.mayIo = true) (h : finish (jenOp m) s = .next t) (hok : t.report = .ok) : ModeKept s t :=
  modeKept_of_finish
    (.bind (.of_frames (Frames.eaFull m)) fun _ => .bind (.flagsWord _ m _) fun _ =>
      .bind .dismiss fun _ => .restoreFlpc _ _)
    ((finish_congr (jenOp_open ho)).symm.trans h) hok

end

/-- Settles O23: the guard of `modeKept_setNewflags`, which each restore applies after operations that change no flag. -/
theorem restoreKeepsUserMode : Obligations.RestoreKeepsUserMode := by
  refine ⟨fun w s hu => modeKept_setNewflags w s hu, ?instructions⟩
  intro m s t hu _ h hok
  rcases h with h | h | ⟨hio, h⟩ | ⟨hex, h⟩
  · exact modeKept_of_finish (KeepsMode.jrstfOp m) h hok hu
  · exact modeKept_jrstOp (cls := .unrestricted) rfl KeepsMode.xjrstf h hok hu
  · exact modeKept_jen hio h hok hu
  · exact modeKept_jrstOp (cls := .exec) hex KeepsMode.xjen h hok hu

end Sys2Proof.Machine
end

section
/-! SUPPORT. The instructions that are the MUUO of their own word without their privilege or under the other discipline
(41_byte_double.md sections 1 and 2; 45_shift_jump.md sections 1, 3 and 4; 49_io.md section 1, R1100; 60_exceptions.md section
7, R1256). -/

namespace Sys2Proof.Machine

open Sys2Proof Sys2Proof.Statements

/-! ### The gates closed -/

section
variable {s s1 : State} {op : BitVec 9} {ac fn : AcNum} {m : EaField} {e : VAddr} {act : VAddr → M Unit}

/-- A JRST function whose gate is closed is the MUUO of its AC field (R673). -/
theorem jrstOp_denied {cls : JrstClass} (h1 : ea m s = .ok e s1) (hc : cls.allows s = false) :
    jrstOp cls fn m act s = muuoSeq 0o254 fn e s1 := by
  have fr := (Frames.ea m).ok h1
  cases cls with
  | unrestricted => exact nomatch hc
  | exec =>
    have hc : s.mayExec = false := hc
    simp only [jrstOp, run_bind, h1, run_getS, run_ite, fr.mayExec, hc, Bool.false_eq_true, if_false]
  | uio =>
    have hc : s.mayIo = false := hc
    simp only [jrstOp, run_bind, h1, run_getS, run_ite, fr.mayIo, hc, Bool.false_eq_true, if_false]

theorem jenOp_denied (h1 : ea m s = .ok e s1) (hc : s.mayIo = false) :
    jenOp m s = muuoSeq 0o254 0o12 e s1 := by
  obtain ⟨r, u, hr, hu⟩ := bind_ok h1
  cases hu
  simp only [jenOp, run_bind, hr, run_getS, run_ite, ((Frames.eaFull m).ok hr).mayIo, hc, Bool.false_eq_true, if_false]

theorem xctrOp_denied {inhibits : Bool} (h1 : ea m s = .ok e s1) (hc : s.cfg.its = false ∨ s.mayExec = false) :
    xctrOp op inhibits ac m s = muuoSeq op ac e s1 := by
  have fr := (Frames.ea m).ok h1
  have hgate : ¬ (s.cfg.its && s.mayExec) = true := by
    rcases hc with h | h <;> simp [h]
  simp only [xctrOp, run_bind, h1, run_getS, run_ite, fr.cfg, fr.mayExec, if_neg hgate]

/-- An I/O-class instruction of the other discipline is the MUUO of its opcode, privilege or not (R331, R1100). -/
theorem gatedIo_refused {its : Bool} (h1 : ea m s = .ok e s1) (hi : s.cfg.its ≠ its) :
    gatedIo its op ac m act s = muuoSeq op ac e s1 := by
  by_cases hm : s.mayIo = true
  · simp only [gatedIo, ioOp_run hm h1, run_bind, run_getS, run_ite, ((Frames.ea m).ok h1).cfg, hi, if_false]
  · exact ioOp_denied (Bool.eq_false_iff.mpr hm) h1

theorem mapOp_refused (h1 : ea m s = .ok e s1) (hi : s.cfg.its = true) : mapOp ac m s = muuoSeq 0o257 ac e s1 := by
  simp only [mapOp, run_bind, h1, run_getS, run_ite, ((Frames.ea m).ok h1).cfg, hi, if_true]

theorem muuoOp_eq (h1 : ea m s = .ok e s1) (hop : op ≠ 0) : muuoOp op ac m s = muuoSeq op ac e s1 :=
  muuoOp_run h1 fun h => hop h.2

/-! ### The instructions of one discipline -/

theorem exec_circ_refused (h1 : ea m s = .ok e s1) (hi : s.cfg.its = false) :
    exec (.circ ac m) s = finish (muuoSeq 0o247 ac e) s1 := by
  change finish (if s.cfg.its then _ else _) s = _
  rw [hi, if_neg Bool.false_ne_true]
  exact finish_congr (muuoOp_eq h1 (by decide))

theorem exec_xjrst_refused (h1 : ea m s = .ok e s1) (hx : s.cfg.hasXjrst = false) :
    exec (.xjrst m) s = finish (muuoSeq 0o254 0o15 e) s1 := by
  change finish (if s.cfg.hasXjrst then _ else _) s = _
  rw [hx, if_neg Bool.false_ne_true]
  exact finish_congr (muuoOp_eq h1 (by decide))

end

/-- The I/O-class instructions of one discipline. -/
theorem exec_gatedForms_io (ac : AcNum) (m : EaField) (s : State) : ∀ p ∈ gatedForms.drop 2,
    ∃ op c act, encode (p.1 ac m) = [pack op c m] ∧ exec (p.1 ac m) s = finish (gatedIo p.2 op c m act) s := by
  intro p hp
  fin_cases hp <;> exact ⟨_, _, _, rfl, rfl⟩

section
variable {s s1 : State} {ac : AcNum} {m : EaField} {e : VAddr}

/-- An instruction of one discipline under the other is the MUUO of its own opcode and AC field. -/
theorem exec_gatedForms_refused (h1 : ea m s = .ok e s1) : ∀ p ∈ gatedForms, s.cfg.its ≠ p.2 →
    ∃ op c, encode (p.1 ac m) = [pack op c m] ∧ exec (p.1 ac m) s = finish (muuoSeq op c e) s1 := by
  intro p hp hi
  have htable : gatedForms = (.circ, true) :: (.map, false) :: gatedForms.drop 2 := rfl
  rw [htable, List.mem_cons, List.mem_cons] at hp
  obtain rfl | rfl | hp := hp
  · exact ⟨_, _, rfl, exec_circ_refused h1 (Bool.eq_false_iff.mpr hi)⟩
  · exact ⟨_, _, rfl, finish_congr (mapOp_refused h1 (Bool.not_eq_false _ ▸ hi))⟩
  · obtain ⟨op, c, act, henc, hexec⟩ := exec_gatedForms_io ac m s p hp
    exact ⟨op, c, henc, hexec.trans (finish_congr (gatedIo_refused h1 hi))⟩

end

/-! ### The opcodes 0o700 to 0o777 (R1100) -/

section
variable {i : Instr} {op op' : BitVec 9} {ac ac' : AcNum} {m m' : EaField} {s : State}

theorem ioOp_of_pack {act : VAddr → M Unit} (h : [pack op' ac' m'] = [pack op ac m])
    (hexec : exec i s = finish (ioOp op' ac' m' act) s) : ∃ act, exec i s = finish (ioOp op ac m act) s := by
  obtain ⟨rfl, rfl, rfl⟩ := pack_inj (List.singleton_inj.mp h)
  exact ⟨act, hexec⟩

theorem not_io_of_pack (h : [pack op' ac' m'] = [pack op ac m]) (hop : op'.toNat < 0o700) : ¬ 0o700 ≤ op.toNat := by
  obtain ⟨rfl, -, -⟩ := pack_inj (List.singleton_inj.mp h)
  exact Nat.not_le.mpr hop

/-- An instruction of these opcodes is a monitor UUO or of the I/O class. -/
theorem exec_io_opcodes (h : encode i = [pack op ac m]) (hop : 0o700 ≤ op.toNat) :
    i = .muuo op ac m ∨ ∃ act, exec i s = finish (ioOp op ac m act) s := by
  cases i with
  | muuo =>
    obtain ⟨rfl, rfl, rfl⟩ := pack_inj (List.singleton_inj.mp h)
    exact .inl rfl
  | aprid | wrapr | rdapr | conszapr | consoapr | wrpi | rdpi | conszpi | consopi | clrcsh | rdubr | clrpt | wrubr
  | wrebr | rdebr | rdspb | rdcsb | rdpur | rdcstm | wrspb | wrcsb | wrpur | wrcstm | rdtim | wrtim | sdbr1 | sdbr2
  | sdbr3 | sdbr4 | ldbr1 | ldbr2 | ldbr3 | ldbr4 | spm | lpmr | rdint | wrint | rdhsb | wrhsb | umove | umovem | tioe
  | tion | rdio | wrio | bsio | bcio | tioeb | tionb | rdiob | wriob | bsiob | bciob | bltbu | bltub | iordi | iowri
  | iordq | iowrq | iord | iowr | iordbi | iowrbi | iordbq | iowrbq | iordb | iowrb => exact .inr (ioOp_of_pack h rfl)
  | cmpsl | cmpse | cmpsle | edit | cmpsge | cmpsn | cmpsg | cvtdbo | cvtdbt | cvtbdo | cvtbdt | movso | movst
  | movslj | movsrj => exact absurd h (two_words_ne_one _ _ _)
  | _ => exact absurd hop (not_io_of_pack h (by decide))

/-- Without the I/O privilege such an instruction is the MUUO of its own word. -/
theorem exec_io_denied {s1 : State} {e : VAddr} (henc : encode i = [pack op ac m]) (hop : 0o700 ≤ op.toNat)
    (hm : s.mayIo = false) (h1 : ea m s = .ok e s1) : exec i s = finish (muuoSeq op ac e) s1 := by
  obtain rfl | ⟨act, hexec⟩ := exec_io_opcodes (s := s) henc hop
  · refine finish_congr (muuoOp_eq h1 ?_)
    rintro rfl
    exact absurd hop (by decide)
  · exact hexec.trans (finish_congr (ioOp_denied hm h1))

end

/-! ### The statement -/

/-- Settles O24: each closed gate by its lemma, the opcodes 0o700 to 0o777 by `exec_io_denied`. -/
theorem privilege : Obligations.Privilege := by
  refine ⟨?xjrst, ?gated, ?io, ?jrstIo, ?xctr, ?jrstExec⟩
  case xjrst =>
    intro m s s1 e hi hx h1
    exact exec_xjrst_refused h1 (by simp [Config.hasXjrst, hi, hx])
  case gated =>
    intro p hp op c ac m s s1 e hi henc h1
    obtain ⟨op', c', henc', hexec⟩ := exec_gatedForms_refused (ac := ac) h1 p hp hi
    obtain ⟨rfl, rfl, -⟩ := pack_inj (List.singleton_inj.mp (henc.symm.trans henc'))
    exact hexec
  case io =>
    intro i op ac m s s1 e henc hop hm h1
    exact exec_io_denied henc hop hm h1
  case jrstIo =>
    intro p hp m s s1 e hm h1
    fin_cases hp
    · exact finish_congr (jrstOp_denied (cls := .uio) h1 hm)
    · exact finish_congr (jenOp_denied h1 hm)
  case xctr =>
    intro p hp ac m s s1 e hc h1
    fin_cases hp
    · exact finish_congr (xctrOp_denied h1 hc)
    · exact finish_congr (xctrOp_denied h1 hc)
  case jrstExec =>
    intro p hp m s s1 e hm h1
    have hden (fn : AcNum) (act : VAddr → M Unit) : jrstOp .exec fn m act s = muuoSeq 0o254 fn e s1 :=
      jrstOp_denied h1 hm
    fin_cases hp <;> exact finish_congr (hden _ _)

end Sys2Proof.Machine
end

section
/-! SUPPORT. The functions of 0o700 to 0o702: the whole next state, and the words bit by bit (49_io.md sections 2 to 5 and 7,
R1101 to R1144; 10_state.md sections 6 to 8). -/

namespace Sys2Proof.Machine

open Sys2Proof Sys2Proof.Statements

/-! ### I/O-class operations whose gates are open -/

/-- An I/O-class operation under an optional gate. -/
def ioGatedOp : Option Bool → BitVec 9 → AcNum → EaField → (VAddr → M Unit) → M Unit
  | none => ioOp
  | some its => gatedIo its

section
variable {s s1 t : State} {gate : Option Bool} {op : BitVec 9} {ac : AcNum} {m : EaField} {e : VAddr}
  {act : VAddr → M Unit}

theorem ioGatedOp_run (hm : s.mayIo = true) (hg : ∀ b, gate = some b → s.cfg.its = b) (h1 : ea m s = .ok e s1) :
    ioGatedOp gate op ac m act s = act e s1 := by
  cases gate with
  | none => exact ioOp_run hm h1
  | some its => exact gatedIo_run hm (hg its rfl) h1

theorem ioGatedOp_finish (hm : s.mayIo = true) (hg : ∀ b, gate = some b → s.cfg.its = b) (h1 : ea m s = .ok e s1)
    (ha : act e s1 = .ok () t) : finish (ioGatedOp gate op ac m act) s = .next t :=
  finish_of_ok ((ioGatedOp_run hm hg h1).trans ha)

theorem storeReg_run {f : State → Word} (h : wrE e (f s) s = .ok () t) : storeReg f e s = .ok () t := by
  simp only [storeReg, run_bind, run_getS, h]

theorem loadReg_run {f : Word → State → State} {w : Word} (h : rdE e s = .ok w t) :
    loadReg f e s = .ok () (f w t) := by
  simp only [loadReg, run_bind, h, run_modS]

/-- CONSZ or CONSO as `zero` says. -/
theorem statusTest_run (status : State → Half) (zero : Bool) (e : VAddr) (s : State) :
    (if zero then consz status else conso status) e s =
      .ok () (if (status s &&& e == 0) = zero then s.setPc (s.pc + 1) else s) := by
  cases zero
  · simp only [conso, run_bind, run_getS, run_skipIf, bne, Bool.false_eq_true, if_false, Bool.not_eq_true']
  · simp only [consz, run_bind, run_getS, run_skipIf, if_true]

end

/-! ### The tables of functions -/

section
variable (m : EaField) (s : State)

theorem exec_registerReads : ∀ p ∈ registerReads, ∃ op ac,
    exec (p.1 m) s = finish (ioGatedOp p.2.1 op ac m (storeReg p.2.2)) s := by
  intro p hp
  fin_cases hp <;> exact ⟨_, _, rfl⟩

theorem exec_registerLoads : ∀ p ∈ registerLoads, ∃ op ac,
    exec (p.1 m) s = finish (ioGatedOp p.2.1 op ac m (loadReg p.2.2)) s := by
  intro p hp
  fin_cases hp <;> exact ⟨_, _, rfl⟩

theorem exec_addressFunctions : ∀ p ∈ addressFunctions, ∃ op ac act,
    exec (p.1 m) s = finish (ioGatedOp p.2.1 op ac m act) s ∧ ∀ e t, act e t = .ok () (p.2.2 e t) := by
  intro p hp
  fin_cases hp <;> exact ⟨_, _, _, rfl, fun _ _ => rfl⟩

theorem exec_statusTests : ∀ p ∈ statusTests, ∃ op ac,
    exec (p.1 m) s = finish (ioOp op ac m (if p.2.2 then consz p.2.1 else conso p.2.1)) s := by
  intro p hp
  fin_cases hp <;> exact ⟨_, _, rfl⟩

end

/-! ### The words bit by bit -/

/-- Bits of a mask set, then bits of it cleared (R1102, R1107). -/
theorem getLsbD_set_clear {n : Nat} (a f : BitVec n) (set clear : Bool) {i : Nat} (hi : i < n) :
    (if clear then (if set then a ||| f else a) &&& ~~~f else if set then a ||| f else a).getLsbD i =
      ((a.getLsbD i || set && f.getLsbD i) && !(clear && f.getLsbD i)) := by
  cases set <;> cases clear <;> simp [hi]

theorem wraprApr_bits (e : VAddr) (a : Apr) {i : Nat} (hi : i < 8) :
    (wraprApr e a).enb.getLsbD i = ((a.enb.getLsbD i || e.getLsbD 15 && e.getLsbD (i + 4)) &&
      !(e.getLsbD 14 && e.getLsbD (i + 4))) ∧
    (wraprApr e a).flg.getLsbD i = ((a.flg.getLsbD i || e.getLsbD 12 && e.getLsbD (i + 4)) &&
      !(e.getLsbD 13 && e.getLsbD (i + 4))) := by
  have hf : (e.extractLsb' 4 8).getLsbD i = e.getLsbD (i + 4) := by
    simp [hi, Nat.add_comm]
  rw [← hf]
  exact ⟨getLsbD_set_clear _ _ _ _ hi, getLsbD_set_clear _ _ _ _ hi⟩

theorem wrpiPi_bits (e : VAddr) (p q : PiSys) {i : Nat} (hi : i < 7)
    (hq : q = if e.getLsbD 12 then ⟨false, 0, 0, 0, p.ioq⟩ else p) :
    (wrpiPi e p).prq.getLsbD i = ((q.prq.getLsbD i || e.getLsbD 11 && e.getLsbD i) && !(e.getLsbD 13 && e.getLsbD i)) ∧
    (wrpiPi e p).enb.getLsbD i = ((q.enb.getLsbD i || e.getLsbD 10 && e.getLsbD i) && !(e.getLsbD 9 && e.getLsbD i)) ∧
    (wrpiPi e p).on = ((q.on || e.getLsbD 7) && !e.getLsbD 8) ∧ (wrpiPi e p).act = q.act ∧
    (wrpiPi e p).ioq = p.ioq := by
  have hlv : (e.extractLsb' 0 7).getLsbD i = e.getLsbD i := by
    simp [hi]
  have hcleared : (if e.getLsbD 12 then { p with on := false, enb := 0, act := 0, prq := 0 } else p) = q := hq.symm
  have hioq : q.ioq = p.ioq := by
    rw [hq]
    split <;> rfl
  simp only [wrpiPi, hcleared]
  rw [← hlv]
  refine ⟨getLsbD_set_clear _ _ _ _ hi, getLsbD_set_clear _ _ _ _ hi, ?_, trivial, hioq⟩
  cases e.getLsbD 7 <;> cases e.getLsbD 8 <;> simp

theorem aprStatus_bits (s : State) {i : Nat} (hi : i < 18) :
    (aprStatus s).getLsbD i = (if 12 ≤ i then false else if 4 ≤ i then s.apr.flg.getLsbD (i - 4)
      else if i = 3 then s.apr.flg &&& s.apr.enb != 0 else s.apr.lvl.getLsbD i) := by
  interval_cases i <;> simp [aprStatus, Apr.irq]

theorem piStatus_bits (s : State) {i : Nat} (hi : i < 18) :
    (piStatus s).getLsbD i = (if 15 ≤ i then false else if 8 ≤ i then s.pi.act.getLsbD (i - 8)
      else if i = 7 then s.pi.on else s.pi.enb.getLsbD i) := by
  interval_cases i <;> simp [piStatus]

theorem ubrWord_bits (s : State) {i : Nat} (hi : i < 36) :
    s.ubrWord.getLsbD i = (if i = 35 ∨ i = 33 then true else if 30 ≤ i then false
      else if 27 ≤ i then s.base.ubr.cab.getLsbD (i - 27) else if 24 ≤ i then s.base.ubr.pab.getLsbD (i - 24)
      else decide (i < 13) && s.base.ubr.uptPg.getLsbD i) := by
  interval_cases i <;> simp [State.ubrWord]

theorem rdebr_bits (s : State) {i : Nat} (hi : i < 36) :
    (rdebr s).getLsbD i = (if i = 14 then s.base.ebr.t20 else if i = 13 then s.base.ebr.pgon
      else decide (i < 13) && s.base.ebr.eptPg.getLsbD i) := by
  rw [rdebr, BitVec.getLsbD_setWidth, BitVec.getLsbD_append, BitVec.getLsbD_append]
  interval_cases i <;> simp

/-! ### The statement -/

/-- Settles O58: each table by the operation of its row with its gate open, the double words by their runs, and the words
bit by bit. -/
theorem registerForms : Obligations.RegisterForms := by
  refine ⟨?reads, ?loads, ?functions, ?tests, ?rdtim, ?wrtim, ?spm, ?lpmr, ?wrapr, ?wrpi, ?status, ?base, ?wrubr, ?wrebr⟩
  case reads =>
    intro p hp m s s1 t e hm hg h1 hw
    obtain ⟨op, ac, hexec⟩ := exec_registerReads m s p hp
    exact hexec.trans (ioGatedOp_finish hm hg h1 (storeReg_run hw))
  case loads =>
    intro p hp m s s1 s2 e w hm hg h1 hr
    obtain ⟨op, ac, hexec⟩ := exec_registerLoads m s p hp
    exact hexec.trans (ioGatedOp_finish hm hg h1 (loadReg_run hr))
  case functions =>
    intro p hp m s s1 e hm hg h1
    obtain ⟨op, ac, act, hexec, hact⟩ := exec_addressFunctions m s p hp
    exact hexec.trans (ioGatedOp_finish hm hg h1 (hact e s1))
  case tests =>
    intro p hp m s s1 e hm h1
    obtain ⟨op, ac, hexec⟩ := exec_statusTests m s p hp
    exact hexec.trans (finish_of_ok ((ioOp_run hm h1).trans (statusTest_run p.2.1 p.2.2 e s1)))
  case rdtim =>
    intro m s s1 t e hm h1 hw
    refine finish_of_ok ((ioOp_run hm h1).trans ?_)
    simp only [rdtim, run_bind, run_getS, hw]
  case wrtim =>
    intro m s s1 s2 e b hm h1 hr
    refine finish_of_ok ((ioOp_run hm h1).trans ?_)
    simp only [wrtim, run_bind, hr, run_modS]
  case spm =>
    intro m s s1 s2 t e hm hi h1 hw hz
    refine finish_of_ok ((gatedIo_run hm hi h1).trans ?_)
    simp only [spm, run_bind, run_getS, hw, hz]
  case lpmr =>
    intro m s s1 s2 s3 e b d hm hi h1 hb hd
    refine finish_of_ok ((gatedIo_run hm hi h1).trans ?_)
    simp only [lpmr, run_bind, hb, hd, run_modS]
    rfl
  case wrapr =>
    intro e a i hi
    obtain ⟨henb, hflg⟩ := wraprApr_bits e a hi
    exact ⟨henb, hflg, rfl⟩
  case wrpi =>
    intro e p q i hi hq
    exact wrpiPi_bits e p q hi hq
  case status =>
    intro s i hi
    exact ⟨aprStatus_bits s hi, piStatus_bits s hi⟩
  case base =>
    intro s i hi
    exact ⟨ubrWord_bits s hi, rdebr_bits s hi⟩
  case wrubr =>
    rintro w s t rfl
    cases h35 : w.getLsbD 35 <;> cases h33 : w.getLsbD 33 <;> simp only [wrubrSt, h35, h33] <;> rfl
  case wrebr =>
    intro e s
    rfl

end Sys2Proof.Machine
end

section
/-! SUPPORT. The I/O bus instructions, where nothing answers too, UMOVE and UMOVEM: the whole next state (49_io.md
sections 5 to 9, R1140, R1145 to R1155, R1158 to R1176). -/

namespace Sys2Proof.Machine

open Sys2Proof Sys2Proof.Statements

/-! ### Widths (R1158, R1161) -/

theorem getLsbD_byteMask (i : Nat) : (0o377 : Word).getLsbD i = decide (i < 8) := by
  have hmask : (0o377 : Word) = BitVec.ofNat 36 (2 ^ 8 - 1) := rfl
  rw [hmask, BitVec.getLsbD_ofNat, Nat.testBit_two_pow_sub_one]
  by_cases h : i < 8 <;> simp [h]
  omega

theorem getLsbD_ioBits (size : IoSize) (w : Word) (i : Nat) :
    (ioBits size w).getLsbD i = (w.getLsbD i && (decide (size = .word) || decide (i < 8))) := by
  cases size with
  | word => simp [ioBits]
  | byte =>
    rw [ioBits, if_pos rfl, BitVec.getLsbD_and, getLsbD_byteMask]
    simp

/-- A byte answered on the bus is the low 8 bits. -/
theorem readByte_eq_ioBits (size : IoSize) (v : Word) :
    (if size = .byte then (v.extractLsb' 0 8).setWidth 36 else v) = ioBits size v := by
  cases size with
  | word => rfl
  | byte =>
    apply BitVec.eq_of_getLsbD_eq
    intro i hi
    rw [getLsbD_ioBits, if_pos rfl, BitVec.getLsbD_setWidth, BitVec.getLsbD_extractLsb', Nat.zero_add]
    simp [hi, Bool.and_comm]

theorem ioBits_and_ioBits (size : IoSize) (v w : Word) : ioBits size v &&& ioBits size w = ioBits size v &&& w := by
  apply BitVec.eq_of_getLsbD_eq
  intro i _
  simp only [BitVec.getLsbD_and, getLsbD_ioBits]
  cases v.getLsbD i <;> cases (decide (size = .word) || decide (i < 8)) <;> simp

/-- A read-modify-write of a byte changes the byte as it would the word. -/
theorem ioBits_busModifies (v w : Word) :
    ∀ p ∈ busModifies, ioBits p.2.2 (p.2.1 (ioBits p.2.2 v) w) = ioBits p.2.2 (p.2.1 v w) := by
  have hor : ioBits .byte (ioBits .byte v ||| w) = ioBits .byte (v ||| w) := by
    apply BitVec.eq_of_getLsbD_eq
    intro i _
    simp only [BitVec.getLsbD_or, getLsbD_ioBits]
    cases decide (i < 8) <;> simp
  have handc : ioBits .byte (ioBits .byte v &&& ~~~w) = ioBits .byte (v &&& ~~~w) := by
    apply BitVec.eq_of_getLsbD_eq
    intro i _
    simp only [BitVec.getLsbD_and, getLsbD_ioBits]
    cases decide (i < 8) <;> simp
  intro p hp
  fin_cases hp
  · rfl
  · rfl
  · exact hor
  · exact handc

/-! ### The bus (R1140, R1149) -/

section
variable {s : State} {a : BitVec 22} {size : IoSize} {v : Word}

theorem readIo_answered {vs : List (Option Word)} (h : s.env.reads = some v :: vs) :
    readIo a size s = .ok (ioBits size v)
      { s with env := { s.env with reads := vs, log := .read a size :: s.env.log } } := by
  simp only [readIo, run_bind, run_getS, run_modS, h, List.drop_succ_cons, List.drop_zero, run_pure, readByte_eq_ioBits]

theorem readIo_silent (h : s.env.reads = [] ∨ ∃ vs, s.env.reads = none :: vs) :
    readIo a size s = .error .pageFail { s with
      pagerWord := s.pfwWord (.io s.flags.user a)
      env := { s.env with reads := s.env.reads.drop 1, log := .read a size :: s.env.log } } := by
  rcases h with h | ⟨vs, h⟩ <;>
  · simp only [readIo, run_bind, run_getS, run_modS, h, noDevice, run_failWith]
    rfl

theorem writeIo_taken {ws : List Bool} (h : s.env.writes = true :: ws) :
    writeIo a v size s = .ok ()
      { s with env := { s.env with writes := ws, log := .write a v size :: s.env.log } } := by
  simp only [writeIo, run_bind, run_getS, run_modS, h, List.drop_succ_cons, List.drop_zero, run_pure]

theorem writeIo_silent (h : s.env.writes = [] ∨ ∃ ws, s.env.writes = false :: ws) :
    writeIo a v size s = .error .pageFail { s with
      pagerWord := s.pfwWord (.io s.flags.user a)
      env := { s.env with writes := s.env.writes.drop 1, log := .write a v size :: s.env.log } } := by
  rcases h with h | ⟨ws, h⟩ <;>
  · simp only [writeIo, run_bind, run_getS, run_modS, h, noDevice, run_failWith]
    rfl

end

/-! ### The I/O address (R1148, R1165) -/

theorem Frames.ioea (m : EaField) (e : VAddr) : Frames (Machine.ioea m e) := by
  refine Frames.bind Frames.getS fun s => ?_
  dsimp only
  cases s.cfg.ioeaMode with
  | other k => exact Frames.pure _
  | standard => exact Frames.ite (Frames.bind (Frames.vread _ _) fun _ => Frames.pure _) (Frames.pure _)

theorem Frames.ioAddr (k : IoAddr) (m : EaField) (e : VAddr) : Frames (k.get m e) := by
  cases k with
  | plain => exact Frames.ioea m e
  | formI => exact fun s => SameRegisters.refl s
  | formQ => exact fun s => SameRegisters.refl s

/-- Controller and register as fields of an I/O address (R1165). -/
theorem ctl_append (c : BitVec 4) (e : VAddr) : c ++ e = c.setWidth 22 <<< 18 ||| e.setWidth 22 := by
  apply BitVec.eq_of_getLsbD_eq
  intro i hi
  simp only [BitVec.getLsbD_append, BitVec.getLsbD_or, BitVec.getLsbD_shiftLeft, BitVec.getLsbD_setWidth, hi, decide_true,
    Bool.true_and]
  split
  case isTrue h => simp [h]
  case isFalse h => simp [h, BitVec.getLsbD_of_ge e i (Nat.not_lt.mp h), show i - 18 < 22 by omega]

section
variable {s s1 : State} {a : BitVec 22} {m : EaField} {e : VAddr} {w : Word}

theorem ioea_direct (hmode : s.cfg.ioeaMode = .standard) (hind : m.ind = false)
    (ha : a = m.y.setWidth 22 + (if m.idx = 0 then 0 else (s.ac m.idx).setWidth 22)) : ioea m e s = .ok a s := by
  subst ha
  simp only [ioea, run_bind, run_getS, hmode, hind, Bool.false_eq_true, if_false, run_pure]
  split <;> rfl

theorem ioea_indirect (hmode : s.cfg.ioeaMode = .standard) (hind : m.ind = true)
    (ha : a = m.y.setWidth 22 + (if m.idx = 0 then 0 else (s.ac m.idx).setWidth 22))
    (hr : vread s.ctxEa (a.setWidth 18) s = .ok w s1) : ioea m e s = .ok (w.setWidth 22) s1 := by
  subst ha
  have hx : (m.y.setWidth 22 + (if m.idx = 0 then 0 else s.ac m.idx).setWidth 22 : BitVec 22) =
      m.y.setWidth 22 + (if m.idx = 0 then 0 else (s.ac m.idx).setWidth 22) := by
    split <;> rfl
  simp only [ioea, run_bind, run_getS, hmode, hind, if_true, hx, hr, run_pure]

end

/-! ### The operations at their I/O address -/

section
variable {s s1 s2 t : State} {k : IoAddr} {a : BitVec 22} {size : IoSize} {ac : AcNum} {m : EaField} {e : VAddr} {v w : Word}
  {f : Word → Word → Word} {z : Bool} {x : Abort}

theorem ac_after_ioAddr (h1 : ea m s = .ok e s1) (h2 : k.get m e s1 = .ok a s2) (n : AcNum) : s2.ac n = s.ac n :=
  (((Frames.ioAddr k m e).ok h2).ac n).trans (ac_after_ea h1 n)

/-- The operation goes on at the I/O address, whatever it does there. -/
theorem ioRead_run (h2 : k.get m e s1 = .ok a s2) (hr : readIo a size s2 = .ok v t) :
    ioRead k size ac m e s1 = .ok () (t.setAc ac v) := by
  simp only [ioRead, run_bind, h2, hr, run_putAc]

theorem ioRead_fails (h2 : k.get m e s1 = .ok a s2) (hr : readIo a size s2 = .error x t) :
    ioRead k size ac m e s1 = .error x t := by
  simp only [ioRead, run_bind, h2, hr]

theorem ioWrite_run (h2 : k.get m e s1 = .ok a s2) :
    ioWrite k size ac m e s1 = writeIo a (ioBits size (s2.ac ac)) size s2 := by
  simp only [ioWrite, run_bind, h2, run_getAc]

theorem ioTest_run (h2 : ioea m e s1 = .ok a s2) (hr : readIo a size s2 = .ok v t) :
    ioTest size z ac m e s1 =
      .ok () (if (v &&& ioBits size (t.ac ac) == 0) == z then t.setPc (t.pc + 1) else t) := by
  simp only [ioTest, IoAddr.get, run_bind, h2, hr, run_getAc, run_skipIf]

theorem ioTest_fails (h2 : ioea m e s1 = .ok a s2) (hr : readIo a size s2 = .error x t) :
    ioTest size z ac m e s1 = .error x t := by
  simp only [ioTest, IoAddr.get, run_bind, h2, hr]

theorem ioModify_run (h2 : ioea m e s1 = .ok a s2) (hr : readIo a size s2 = .ok v t) :
    ioModify f size ac m e s1 = writeIo a (ioBits size (f v (t.ac ac))) size t := by
  simp only [ioModify, IoAddr.get, run_bind, h2, hr, run_getAc]

theorem ioModify_fails (h2 : ioea m e s1 = .ok a s2) (hr : readIo a size s2 = .error x t) :
    ioModify f size ac m e s1 = .error x t := by
  simp only [ioModify, IoAddr.get, run_bind, h2, hr]

end

/-! ### The rows of the tables -/

theorem exec_busReads (ac : AcNum) (m : EaField) (s : State) : ∀ p ∈ busReads, ∃ op,
    exec (p.1 ac m) s = finish (gatedIo p.2.1 op ac m (ioRead p.2.2.1 p.2.2.2 ac m)) s := by
  intro p hp
  fin_cases hp <;> exact ⟨_, rfl⟩

theorem exec_busWrites (ac : AcNum) (m : EaField) (s : State) : ∀ p ∈ busWrites, ∃ op,
    exec (p.1 ac m) s = finish (gatedIo p.2.1 op ac m (ioWrite p.2.2.1 p.2.2.2 ac m)) s := by
  intro p hp
  fin_cases hp <;> exact ⟨_, rfl⟩

theorem exec_busTests (ac : AcNum) (m : EaField) (s : State) : ∀ p ∈ busTests, ∃ op,
    exec (p.1 ac m) s = finish (gatedIo false op ac m (ioTest p.2.1 p.2.2 ac m)) s := by
  intro p hp
  fin_cases hp <;> exact ⟨_, rfl⟩

theorem exec_busModifies (ac : AcNum) (m : EaField) (s : State) : ∀ p ∈ busModifies, ∃ op,
    exec (p.1 ac m) s = finish (gatedIo false op ac m (ioModify p.2.1 p.2.2 ac m)) s := by
  intro p hp
  fin_cases hp <;> exact ⟨_, rfl⟩

section
variable {s s1 s2 : State} {a : BitVec 22} {ac : AcNum} {m : EaField} {e : VAddr}

/-- A bus read is its action after the ordinary E. -/
theorem exec_busRead {p : (AcNum → EaField → Instr) × Bool × IoAddr × IoSize} (hp : p ∈ busReads)
    (hm : s.mayIo = true) (hi : s.cfg.its = p.2.1) (h1 : ea m s = .ok e s1) :
    exec (p.1 ac m) s = finish (ioRead p.2.2.1 p.2.2.2 ac m e) s1 := by
  obtain ⟨op, hexec⟩ := exec_busReads ac m s p hp
  exact hexec.trans (finish_congr (gatedIo_run hm hi h1))

theorem exec_busWrite {p : (AcNum → EaField → Instr) × Bool × IoAddr × IoSize} (hp : p ∈ busWrites)
    (hm : s.mayIo = true) (hi : s.cfg.its = p.2.1) (h1 : ea m s = .ok e s1) (h2 : p.2.2.1.get m e s1 = .ok a s2) :
    exec (p.1 ac m) s = finish (writeIo a (ioBits p.2.2.2 (s.ac ac)) p.2.2.2) s2 := by
  obtain ⟨op, hexec⟩ := exec_busWrites ac m s p hp
  refine hexec.trans (finish_congr ((gatedIo_run hm hi h1).trans ?_))
  rw [ioWrite_run h2, ac_after_ioAddr h1 h2]

theorem exec_busTest {p : (AcNum → EaField → Instr) × IoSize × Bool} (hp : p ∈ busTests)
    (hm : s.mayIo = true) (hi : s.cfg.its = false) (h1 : ea m s = .ok e s1) :
    exec (p.1 ac m) s = finish (ioTest p.2.1 p.2.2 ac m e) s1 := by
  obtain ⟨op, hexec⟩ := exec_busTests ac m s p hp
  exact hexec.trans (finish_congr (gatedIo_run hm hi h1))

theorem exec_busModify {p : (AcNum → EaField → Instr) × (Word → Word → Word) × IoSize} (hp : p ∈ busModifies)
    (hm : s.mayIo = true) (hi : s.cfg.its = false) (h1 : ea m s = .ok e s1) :
    exec (p.1 ac m) s = finish (ioModify p.2.1 p.2.2 ac m e) s1 := by
  obtain ⟨op, hexec⟩ := exec_busModifies ac m s p hp
  exact hexec.trans (finish_congr (gatedIo_run hm hi h1))

/-- A read-modify-write that is answered goes on to write the modified word. -/
theorem exec_busModify_answered {p : (AcNum → EaField → Instr) × (Word → Word → Word) × IoSize} {v : Word}
    {vs : List (Option Word)} (hp : p ∈ busModifies) (hm : s.mayIo = true) (hi : s.cfg.its = false)
    (h1 : ea m s = .ok e s1) (h2 : ioea m e s1 = .ok a s2) (hr : s2.env.reads = some v :: vs) :
    exec (p.1 ac m) s = finish (writeIo a (ioBits p.2.2 (p.2.1 v (s.ac ac))) p.2.2)
      { s2 with env := { s2.env with reads := vs, log := .read a p.2.2 :: s2.env.log } } := by
  rw [exec_busModify hp hm hi h1, finish_congr (ioModify_run h2 (readIo_answered hr))]
  have hac : s2.ac ac = s.ac ac := ac_after_ioAddr (k := .plain) h1 h2 ac
  change finish (writeIo a (ioBits p.2.2 (p.2.1 (ioBits p.2.2 v) (s2.ac ac))) p.2.2) _ = _
  rw [ioBits_busModifies v _ p hp, hac]

end

/-! ### The statement -/

/-- Settles O59: the I/O address first, then what the bus answers. -/
theorem busForms : Obligations.BusForms := by
  refine ⟨?modifySilentWrite, ?addresses, ?reads, ?writes, ?tests, ?modifies, ?umove, ?umovem, ?ioea, ?silentReads,
    ?silentWrites, ?word⟩
  case modifySilentWrite =>
    intro p hp ac m s s1 s2 e a v w vs hm hi h1 h2 hr hw hval
    subst hval
    exact (exec_busModify_answered hp hm hi h1 h2 hr).trans (finish_of_error (writeIo_silent hw))
  case addresses =>
    intro m e s
    refine ⟨rfl, ?_, ?_, rfl, rfl⟩
    · rw [← ctl_append]
      rfl
    · rw [← ctl_append]
      rfl
  case reads =>
    intro p hp ac m s s1 s2 e a v vs hm hi h1 h2 hr
    exact (exec_busRead hp hm hi h1).trans (finish_of_ok (ioRead_run h2 (readIo_answered hr)))
  case writes =>
    intro p hp ac m s s1 s2 e a ws hm hi h1 h2 hw
    exact (exec_busWrite hp hm hi h1 h2).trans (finish_of_ok (writeIo_taken hw))
  case tests =>
    intro p hp ac m s s1 s2 t e a v vs hm hi h1 h2 hr ht
    have hac : t.ac ac = s.ac ac := by
      subst ht
      exact ac_after_ioAddr (k := .plain) h1 h2 ac
    have hrun := ioTest_run (z := p.2.2) (ac := ac) h2 (readIo_answered (size := p.2.1) hr)
    rw [← ht, hac, ioBits_and_ioBits] at hrun
    simp only [beq_eq_decide, decide_eq_true_eq] at hrun
    exact (exec_busTest hp hm hi h1).trans (finish_of_ok hrun)
  case modifies =>
    intro p hp ac m s s1 s2 e a v vs ws hm hi h1 h2 hr hw
    exact (exec_busModify_answered hp hm hi h1 h2 hr).trans (finish_of_ok (writeIo_taken hw))
  case umove =>
    intro ac m s s1 s2 e w hm h1 hr
    refine finish_of_ok ((ioOp_run hm h1).trans ?_)
    simp only [Machine.umove, run_bind, hr, run_putAc]
  case umovem =>
    intro ac m s s1 t e hm h1 hw
    refine finish_of_ok ((ioOp_run hm h1).trans ?_)
    simp only [Machine.umovem, run_bind, run_getAc, ac_after_ea h1, hw]
  case ioea =>
    intro m e s s1 a w hmode ha
    exact ⟨fun hind => ioea_direct hmode hind ha, fun hind hr => ioea_indirect hmode hind ha hr⟩
  case silentReads =>
    intro ac m s s1 s2 t e a size hm h1 ht hr
    have hfail : readIo a size s2 = .error .pageFail t := ht ▸ readIo_silent hr
    refine ⟨?_, ?_, ?_⟩
    · rintro p hp hi h2 rfl
      exact (exec_busRead hp hm hi h1).trans (finish_of_error (ioRead_fails h2 hfail))
    · rintro p hp hi h2 rfl
      exact (exec_busTest hp hm hi h1).trans (finish_of_error (ioTest_fails h2 hfail))
    · rintro p hp hi h2 rfl
      exact (exec_busModify hp hm hi h1).trans (finish_of_error (ioModify_fails h2 hfail))
  case silentWrites =>
    intro p hp ac m s s1 s2 e a v hm hi h1 h2 hw hval
    subst hval
    exact (exec_busWrite hp hm hi h1 h2).trans (finish_of_error (writeIo_silent hw))
  case word =>
    intro s user a hlayout
    rw [State.pfwWord, hlayout]
    rfl

end Sys2Proof.Machine
end

section
/-! SUPPORT. The external actions of step 1, breakpoints, I/O errors, a later reset, and what the host is answered
(60_exceptions.md sections 8 to 10, R1260, R1270, R1275, R1280, R1282, R1290 to R1292; 70_reset_and_hazards.md section 1,
R1400). -/

namespace Sys2Proof.Machine

open Sys2Proof Sys2Proof.Statements

/-! ### Steps 1 and 2 of the loop -/

section
variable {s : State}

theorem agents_cons {l : List AgentEvent} {rest : List (List AgentEvent)} (h : s.env.agenda = l :: rest) :
    agents s = l.foldl applyEvent { s with env := { s.env with agenda := rest } } := by
  simp only [agents, h, List.headD_cons, List.drop_succ_cons, List.drop_zero]

theorem step_agents (h : s.pending = none) :
    Sys2Proof.Machine.step s = boundary (agents { s with report := .ok }) := by
  unfold Sys2Proof.Machine.step loopStep
  rw [h]

theorem boundary_fatal (h : s.env.fatal = true) :
    boundary s = .next { s with env := { s.env with fatal := false }, report := .stop .ioerr } := if_pos h

theorem boundary_breakpoint (hfatal : s.env.fatal = false) (hforced : s.forcedExec = none) (hquiet : s.piPending = 0)
    (htrap : s.trapDue = false) (hbreak : s.pc ∈ s.breakpoints) (hskip : s.bkptSkip = false) :
    boundary s = .next { s with report := .stop .ibkpt } := by
  simp only [boundary, hfatal, hforced, hquiet, htrap, hbreak, hskip, ne_eq, not_true_eq_false, Bool.false_eq_true,
    if_false, and_self, if_true]

/-- A breakpoint the host has asked to skip does not stop the fetch (R1280). -/
theorem boundary_skips (hfatal : s.env.fatal = false) (hforced : s.forcedExec = none) (hquiet : s.piPending = 0)
    (htrap : s.trapDue = false) (hskip : s.bkptSkip = true) : boundary s = runPending (finish fetchSeq s) := by
  simp only [boundary, hfatal, hforced, hquiet, htrap, hskip, ne_eq, not_true_eq_false, Bool.false_eq_true, if_false,
    Bool.true_eq_false, and_false]

end

/-! ### The APR flags (R1103, R1270, R1275) -/

theorem getLsbD_aprInputMask (b : AprBits) (pwf bmd ecc con : Bool) {i : Nat} (hi : i < 8) :
    (aprInputMask b pwf bmd ecc con).getLsbD i = (pwf && i == b.pwf.toNat || bmd && i == b.bmd.toNat ||
      ecc && i == b.ecc.toNat || con && i == b.con.toNat) := by
  simp only [aprInputMask, BitVec.getLsbD_or, getLsbD_ite_zero, getLsbD_aprMask _ hi]

/-- An APR flag cleared, bit by bit. -/
theorem getLsbD_clear_aprMask (flg : BitVec 8) (b : BitVec 3) {i : Nat} (hi : i < 8) :
    (flg &&& ~~~(aprMask b)).getLsbD i = (flg.getLsbD i && !(i == b.toNat)) := by
  simp only [BitVec.getLsbD_and, BitVec.getLsbD_not, getLsbD_aprMask b hi, hi, decide_true, Bool.true_and]

/-! ### Deposits (R1290) -/

theorem depositFlags_flags (s : State) (w : Half) : s.depositFlags w =
    { s with flags := if s.cfg.its then { Flags.ofHalf w with afi := false } else Flags.ofHalf w } := by
  cases h : s.cfg.its <;> simp [State.depositFlags, h]

theorem poke_present {s : State} {pa : Nat} (v : Word) (h : pa < s.cfg.memSize) : s.poke pa v = s.setMem pa v := if_pos h

theorem poke_absent {s : State} {pa : Nat} (v : Word) (h : s.cfg.memSize ≤ pa) : s.poke pa v = s :=
  if_neg (Nat.not_lt.mpr h)

/-! ### Console examination (R1291) -/

section
variable {s t : State} {user : Bool} {va : VAddr} {pa : Nat}

theorem conmap_phys (hva : 0o20 ≤ va.toNat) (h : translate user .map va s = .ok pa t) :
    conmap user va s = .phys pa := by
  simp only [conmap, isAc_of_ge hva, Bool.false_eq_true, if_false, h]

theorem conmap_fail (hva : 0o20 ≤ va.toNat) (h : translate user .map va s = .error .pageFail t) :
    conmap user va s = .fail := by
  simp only [conmap, isAc_of_ge hva, Bool.false_eq_true, if_false, h]

end

/-! ### The statement -/

/-- Settles O60: each action of `applyEvent` and each branch of `boundary` in turn. -/
theorem clockAndHost : Obligations.ClockAndHost := by
  refine ⟨?agenda, ?ibkpt, ?skip, ?marks, ?ioerr, ?reset, ?flags, ?inputs, ?tick, ?interval, ?noInterval, ?int80, ?ac,
    ?memory, ?registers, ?conmap⟩
  case agenda =>
    intro s l rest hp
    refine ⟨step_boundary hp, fun ha => ?_⟩
    rw [step_agents hp, agents_cons (s := { s with report := .ok }) ha]
  case ibkpt =>
    intro s hp ha hfatal hforced hquiet htrap hbreak hskip
    rw [step_boundary hp ha]
    exact boundary_breakpoint (s := { s with report := .ok }) hfatal hforced hquiet htrap hbreak hskip
  case skip =>
    intro s s1 t w hskip h hr he ht h2
    rw [step_boundary (s := s) h.pending h.agenda,
      boundary_skips (s := { s with report := .ok }) h.fatal h.forced h.quiet h.noTrap hskip,
      runPending_fetched (s := { s with report := .ok }) h.pending ?_ he ht, settle_plain ht h2]
    rw [beginFetch_latchesClear (s := { s with report := .ok }) h.noProceed]
    exact hr
  case marks => exact fun s l => ⟨rfl, rfl, rfl⟩
  case ioerr =>
    intro s hp ha hfatal
    rw [step_boundary hp ha]
    exact boundary_fatal (s := { s with report := .ok }) hfatal
  case reset =>
    rintro s t rfl
    exact ⟨rfl, rfl, rfl, rfl, rfl, rfl, rfl, rfl, rfl, rfl, rfl, rfl⟩
  case flags =>
    rintro s w f rfl
    exact depositFlags_flags s w
  case inputs =>
    rintro s t pwf bmd ecc con rfl
    refine ⟨rfl, rfl, rfl, fun i hi => ?_⟩
    change (s.apr.flg ||| aprInputMask s.cfg.aprBits pwf bmd ecc con).getLsbD i = _
    rw [BitVec.getLsbD_or, getLsbD_aprInputMask _ _ _ _ _ hi]
    simp only [Bool.or_assoc]
  case tick => exact fun s n => rfl
  case interval => exact fun s h => if_neg h
  case noInterval => exact fun s h => if_pos h
  case int80 =>
    intro s
    refine ⟨rfl, ?_, rfl, rfl, rfl, fun i hi hne => ?_⟩
    · change (s.apr.flg &&& ~~~(aprMask s.cfg.aprBits.int80)).getLsbD s.cfg.aprBits.int80.toNat = false
      rw [getLsbD_clear_aprMask _ _ (BitVec.isLt _), beq_self_eq_true, Bool.not_true, Bool.and_false]
    · change (s.apr.flg &&& ~~~(aprMask s.cfg.aprBits.int80)).getLsbD i = s.apr.flg.getLsbD i
      rw [getLsbD_clear_aprMask _ _ hi, beq_false_of_ne hne, Bool.not_false, Bool.and_true]
  case ac =>
    intro s b n v
    refine ⟨?_, fun b' n' hne => ?_, rfl⟩
    · exact (acOf_setAcOf b b n n v s).trans (if_pos ⟨rfl, rfl⟩)
    · exact (acOf_setAcOf b b' n n' v s).trans (if_neg hne)
  case memory =>
    intro s pa v ev hev
    have hpoke : applyEvent s ev = s.poke pa v := by
      fin_cases hev <;> rfl
    rw [hpoke]
    refine ⟨fun h => ?_, poke_absent v⟩
    rw [poke_present v h]
    exact ⟨(tblGet_tblSet s.mem pa pa v).trans (if_pos rfl), memSameOutside_setMem s pa v, rfl⟩
  case registers => exact fun s v a mask => ⟨rfl, rfl, rfl⟩
  case conmap => exact fun s user va hva => ⟨fun pa t h => conmap_phys hva h, fun t h => conmap_fail hva h⟩

end Sys2Proof.Machine
end

section
/-! SUPPORT. The APR request, and the interrupt sequence of a granted level (60_exceptions.md sections 1 to 3, 7 and 10, R1202,
R1206, R1212, R1220 to R1222, R1250, R1282). -/

namespace Sys2Proof.Machine

open Sys2Proof

/-! ### The APR request and the fixed cell (R1212, R1220) -/

theorem irq_iff (a : Apr) : a.irq = true ↔ ∃ i < 8, a.flg.getLsbD i = true ∧ a.enb.getLsbD i = true := by
  have hzero (i : Nat) : (0 : BitVec 8).getLsbD i = false := by simp
  rw [Apr.irq, bne_iff_ne]
  constructor
  · intro h
    by_contra hnone
    refine h (BitVec.eq_of_getLsbD_eq fun i hi => ?_)
    rw [hzero, BitVec.getLsbD_and, Bool.eq_false_iff, ne_eq, Bool.and_eq_true]
    exact fun hboth => hnone ⟨i, hi, hboth⟩
  · rintro ⟨i, -, hf, he⟩ h
    have hbit : (a.flg &&& a.enb).getLsbD i = true := by rw [BitVec.getLsbD_and, hf, he, Bool.and_true]
    rw [h, hzero] at hbit
    cases hbit

/-- The APR requests its level alone, and level 0 is none. -/
theorem getLsbD_piAprq {s : State} {n : Nat} (h1 : 1 ≤ n) (h7 : n ≤ 7) :
    s.piAprq.getLsbD (7 - n) = true ↔ s.apr.lvl.toNat = n ∧ s.apr.irq = true := by
  rw [State.piAprq, getLsbD_ite_zero]
  by_cases hl : s.apr.lvl = 0
  · have hne : s.apr.lvl.toNat ≠ n := by
      have : (0 : BitVec 3).toNat = 0 := rfl
      rw [hl]
      omega
    simp only [hl, bne_self_eq_false, Bool.false_and, Bool.false_eq_true, false_iff, not_and]
    exact fun h => absurd (hl ▸ h) hne
  · have hpos : 1 ≤ s.apr.lvl.toNat := Nat.pos_of_ne_zero fun h => hl (BitVec.eq_of_toNat_eq h)
    have hlt := s.apr.lvl.isLt
    rw [getLsbD_lvbit hpos (by omega) h1 h7]
    simp only [bne_iff_ne, ne_eq, hl, not_false_eq_true, Bool.and_eq_true, decide_eq_true_eq, true_and, and_comm]

theorem piCell_default {s : State} (n : Nat) (h : s.cfg.piCellBase = Config.default.piCellBase) :
    s.piCell n = s.base.ebr.eptPg.toNat * 0o1000 + 0o40 + 2 * n := by
  rw [State.piCell, h]
  rfl

/-! ### The step that grants a level -/

/-- The next step grants level `n` (R1260). -/
structure Grants (s : State) (n : Nat) : Prop where
  pending : s.pending = none
  agenda : s.env.agenda = []
  fatal : s.env.fatal = false
  forced : s.forcedExec = none
  some_level : n ≠ 0
  level : s.piPending = n

/-- The state in which the interrupt word of a level is looked up: the level active. -/
def State.granted (s : State) (n : Nat) : State :=
  { s with pi := { s.pi with act := s.pi.act ||| lvbit n }, indCount := 0 }

section
variable {s u k : State} {n : Nat} {w f p : Word} {a : Abort}

theorem step_grants (h : Grants s n) : Sys2Proof.Machine.step s =
    seqOutcome { s with report := .ok } (interruptSeq n { s with report := .ok }) := by
  have hlevel : ({ s with report := .ok } : State).piPending = n := h.level
  rw [step_boundary h.pending h.agenda,
    boundary_interrupt (t := { s with report := .ok }) h.fatal h.forced (hlevel ▸ h.some_level), hlevel]

theorem step_grants_ok (h : Grants s n) (hs : interruptSeq n { s with report := .ok } = .ok () u) :
    Sys2Proof.Machine.step s = .next u := by
  rw [step_grants h, hs]
  rfl

theorem step_grants_stops {r : StopName} (h : Grants s n)
    (hs : interruptSeq n { s with report := .ok } = .error (.stop r) u) :
    Sys2Proof.Machine.step s = .next { u with piCycle := false, report := .stop r } := by
  rw [step_grants h, hs]
  rfl

theorem step_grants_pageFails (h : Grants s n)
    (hs : interruptSeq n { s with report := .ok } = .error .pageFail u) :
    Sys2Proof.Machine.step s = .next { u with piCycle := false, report := .stop .pagint } := by
  rw [step_grants h, hs]
  rfl

/-! ### The interrupt word (R1220, R1221) -/

theorem interruptWord_fixed (h : s.deviceOnly n = false) (hc : s.piCell n < s.cfg.memSize)
    (hw : tblGet s.mem (s.piCell n) = some w) : interruptWord n s = .ok w s := by
  simp only [interruptWord, run_bind, run_getS, h, Bool.false_eq_true, if_false, seqRead_run hc hw]

/-- A device that asks for its level without a vector gets the fixed cell. -/
theorem interruptWord_noVector (h : s.deviceOnly n = true) (hv : s.env.vectors.headD none = none)
    (hc : s.piCell n < s.cfg.memSize) (hw : tblGet s.mem (s.piCell n) = some w) : interruptWord n s = .ok w { s with
      env := { s.env with vectors := s.env.vectors.drop 1, log := .vector n :: s.env.log } } := by
  simp only [interruptWord, run_bind, run_getS, h, if_true, ioVector, hv]
  exact seqRead_run hc hw

/-- The word of the fixed cell, whatever the question to the devices has used up. -/
theorem interruptWord_cell (h : s.deviceOnly n = false ∨ s.env.vectors.headD none = none)
    (hc : s.piCell n < s.cfg.memSize) (hw : tblGet s.mem (s.piCell n) = some w) :
    ∃ env, interruptWord n s = .ok w { s with env := env } := by
  cases hd : s.deviceOnly n with
  | false => exact ⟨s.env, interruptWord_fixed hd hc hw⟩
  | true => exact ⟨_, interruptWord_noVector hd (h.resolve_left (by simp [hd])) hc hw⟩

section
variable {kind : Nat} {v : Half} {vs : List (Option (Nat × Half))} {tbl : Word}

theorem interruptWord_vectored (h : s.deviceOnly n = true) (hv : s.env.vectors = some (kind, v) :: vs)
    (hc : s.ept + 0o100 + kind < s.cfg.memSize) (ht : tblGet s.mem (s.ept + 0o100 + kind) = some tbl) (h0 : tbl ≠ 0)
    (ha : vectorAddr s.cfg tbl v < s.cfg.memSize) (hw : tblGet s.mem (vectorAddr s.cfg tbl v) = some w) :
    interruptWord n s = .ok w { s with env := { s.env with vectors := vs, log := .vector n :: s.env.log } } := by
  simp only [interruptWord, run_bind, run_getS, h, if_true, ioVector, hv, List.headD_cons, List.drop_succ_cons,
    List.drop_zero]
  rw [seqRead_run (by exact hc) (by exact ht)]
  dsimp only
  rw [if_neg h0]
  exact seqRead_run ha hw

theorem interruptWord_zeroTable (h : s.deviceOnly n = true) (hv : s.env.vectors = some (kind, v) :: vs)
    (hc : s.ept + 0o100 + kind < s.cfg.memSize) (ht : tblGet s.mem (s.ept + 0o100 + kind) = some 0) :
    interruptWord n s = .error (.stop .zervec)
      { s with env := { s.env with vectors := vs, log := .vector n :: s.env.log } } := by
  simp only [interruptWord, run_bind, run_getS, h, if_true, ioVector, hv, List.headD_cons, List.drop_succ_cons,
    List.drop_zero]
  rw [seqRead_run (by exact hc) (by exact ht)]
  rfl

end

/-- A cell of a sequence that does not exist (R1206). -/
theorem seqRead_absent {pa : Nat} (hp : s.base.ebr.pgon = true) (h : s.cfg.memSize ≤ pa) :
    seqRead pa s = .error (.stop .trpnxm) s.signalNxm := by
  simp only [seqRead, physRead, run_bind, Nat.not_lt.mpr h, if_false, hp, if_true]
  rfl

theorem interruptWord_absent (h : s.deviceOnly n = false) (hp : s.base.ebr.pgon = true)
    (hc : s.cfg.memSize ≤ s.piCell n) : interruptWord n s = .error (.stop .trpnxm) s.signalNxm := by
  simp only [interruptWord, run_bind, run_getS, h, Bool.false_eq_true, if_false, seqRead_absent hp hc]

/-! ### The interrupt instruction (R1222) -/

/-- The sequence looks up its word with the level active; the instruction runs with `pi_cycle` set. -/
theorem interruptSeq_noWord (hw : interruptWord n (s.granted n) = .error a u) : interruptSeq n s = .error a u := by
  unfold State.granted at hw
  simp only [interruptSeq, run_bind, run_modS, hw]

theorem interruptSeq_eq (hw : interruptWord n (s.granted n) = .ok w k) : interruptSeq n s =
    ((if opField w = 0o264 then interruptJsr (rh w)
      else if opField w = 0o254 ∧ acField w = 7 then xpcwIn (vread .execv) (vwrite .execv) (rh w)
      else raise (.stop .illint)) >>= fun _ => modS fun s => { s with piCycle := false }) { k with piCycle := true } := by
  refine (bind_of_ok (run_modS _ s)).trans ((bind_of_ok hw).trans ((bind_of_ok (run_modS _ k)).trans ?_))
  have hy : (eaField w).y = rh w := rfl
  rw [hy]
  split_ifs <;> rfl

theorem interruptSeq_illint (hw : interruptWord n (s.granted n) = .ok w k) (h1 : opField w ≠ 0o264)
    (h2 : ¬ (opField w = 0o254 ∧ acField w = 7)) :
    interruptSeq n s = .error (.stop .illint) { k with piCycle := true } := by
  rw [interruptSeq_eq hw, if_neg h1, if_neg h2]
  rfl

theorem setNewflags_zero (s : State) : setNewflags 0 false s = { s with flags := Flags.zero } := by
  have hflags : (setNewflags 0 false s).flags = Flags.zero := setNewflags_unguarded_flags 0 s
  have hrequest : (setNewflags 0 false s).its1pr = s.its1pr :=
    (setNewflags_its1pr 0 false s).trans (by simp)
  calc setNewflags 0 false s
      = { s with its1pr := (setNewflags 0 false s).its1pr, flags := (setNewflags 0 false s).flags } := rfl
    _ = { s with flags := Flags.zero } := by rw [hflags, hrequest]

/-- JSR as an interrupt instruction, its store completing. -/
theorem interruptSeq_jsr (hw : interruptWord n (s.granted n) = .ok w k) (hop : opField w = 0o264)
    (hst : vwrite .execv (rh w) k.flpc { k with piCycle := true, flags := Flags.zero } = .ok () u) :
    interruptSeq n s = .ok () { u with pc := rh w + 1, piCycle := false } := by
  have hpc : ({ k with piCycle := true } : State).flpc = k.flpc := rfl
  rw [interruptSeq_eq hw, if_pos hop]
  simp only [interruptJsr, run_bind, run_getS, run_modS, setNewflags_zero, hpc, hst, run_jump]
  rfl

/-- JSR as an interrupt instruction, its store aborting. -/
theorem interruptSeq_jsr_aborts (hw : interruptWord n (s.granted n) = .ok w k) (hop : opField w = 0o264)
    (hst : vwrite .execv (rh w) k.flpc { k with piCycle := true, flags := Flags.zero } = .error a u) :
    interruptSeq n s = .error a u := by
  have hpc : ({ k with piCycle := true } : State).flpc = k.flpc := rfl
  rw [interruptSeq_eq hw, if_pos hop]
  simp only [interruptJsr, run_bind, run_getS, run_modS, setNewflags_zero, hpc, hst]

/-- The state after XPCW as an interrupt instruction has loaded its new flags and PC. -/
def State.resumed (s : State) (f p : Word) : State :=
  { s with
    pc := rh p
    piCycle := false
    its1pr := s.its1pr || (s.cfg.its && (lh f).getLsbD 9)
    flags := { Flags.ofHalf (lh f) with afi := (lh f).getLsbD 9 && !s.cfg.its } }

theorem resumed_eq (s : State) (f p : Word) :
    { (setNewflags (lh f) false s).setPc (rh p) with piCycle := false } = s.resumed f p := by
  rw [State.resumed, ← setNewflags_unguarded_flags, ← setNewflags_its1pr (lh f) false s]
  rfl

/-- XPCW as an interrupt instruction, its four references completing. -/
theorem interruptSeq_xpcw {u1 u2 u3 u4 : State} (hw : interruptWord n (s.granted n) = .ok w k)
    (hop : opField w = 0o254) (hac : acField w = 7)
    (h1 : vwrite .execv (rh w) (xwd k.flags.toHalf 0) { k with piCycle := true } = .ok () u1)
    (h2 : vwrite .execv (rh w + 1) (xwd 0 k.pc) u1 = .ok () u2) (h3 : vread .execv (rh w + 2) u2 = .ok f u3)
    (h4 : vread .execv (rh w + 3) u3 = .ok p u4) : interruptSeq n s = .ok () (u4.resumed f p) := by
  have hnot : opField w ≠ 0o264 := by
    rw [hop]
    decide
  rw [interruptSeq_eq hw, if_neg hnot, if_pos ⟨hop, hac⟩, ← resumed_eq]
  simp only [xpcwIn, run_bind, run_getS, run_modS, h1, h2, h3, h4]

end

/-! ### With paging off -/

section
variable {s : State} {n : Nat} {w : Word} {env : Environment}

/-- An interrupt JSR with paging off, wherever its word came from. -/
theorem step_jsr_unpaged (h : Grants s n)
    (hw : interruptWord n (({ s with report := .ok } : State).granted n) =
      .ok w { ({ s with report := .ok } : State).granted n with env := env })
    (hpg : s.base.ebr.pgon = false) (hop : opField w = 0o264) (hlow : 0o20 ≤ (rh w).toNat)
    (hmem : (rh w).toNat < s.cfg.memSize) :
    ∃ t, Sys2Proof.Machine.step s = .next t ∧ tblGet t.mem (rh w).toNat = some s.flpc ∧ t.flags = Flags.zero ∧
      t.pc = rh w + 1 ∧ t.pi.act = s.pi.act ||| lvbit n ∧ t.piCycle = false ∧ t.report = .ok ∧ t.acb = s.acb ∧
      t.env = env ∧ MemSameOutside (· = (rh w).toNat) s t := by
  refine ⟨_, step_grants_ok h (interruptSeq_jsr hw hop (vwrite_physical hpg hlow hmem)), ?_, rfl, rfl, rfl, rfl, rfl, rfl,
    rfl, ?_⟩
  · exact (tblGet_tblSet s.mem _ _ _).trans (if_pos rfl)
  · exact memSameOutside_setMem s _ _

theorem toNat_add_small (e : VAddr) {d : Nat} (hd : e.toNat + d < 2 ^ 18) : (e + BitVec.ofNat 18 d).toNat = e.toNat + d := by
  rw [BitVec.toNat_add, BitVec.toNat_ofNat]
  omega

/-- A virtual read with paging off (R170). -/
theorem vread_physical {c : Ctx} {va : VAddr} {v : Word} (hp : s.base.ebr.pgon = false) (h : 0o20 ≤ va.toNat)
    (hm : va.toNat < s.cfg.memSize) (hv : tblGet s.mem va.toNat = some v) : vread c va s = .ok v s :=
  ((references_unpaged c va 0 v s hp h).1 hm hv).1

/-- An interrupt XPCW with paging off. -/
theorem step_xpcw_unpaged {f p : Word} (h : Grants s n)
    (hw : interruptWord n (({ s with report := .ok } : State).granted n) =
      .ok w { ({ s with report := .ok } : State).granted n with env := env })
    (hpg : s.base.ebr.pgon = false) (hop : opField w = 0o254) (hac : acField w = 7) (hlow : 0o20 ≤ (rh w).toNat)
    (hmem : (rh w).toNat + 3 < s.cfg.memSize) (hva : (rh w).toNat + 3 < 2 ^ 18)
    (hf : tblGet s.mem ((rh w).toNat + 2) = some f) (hp : tblGet s.mem ((rh w).toNat + 3) = some p) :
    ∃ t, Sys2Proof.Machine.step s = .next t ∧ tblGet t.mem (rh w).toNat = some (xwd s.flags.toHalf 0) ∧
      tblGet t.mem ((rh w).toNat + 1) = some (xwd 0 s.pc) ∧ t.pc = rh p ∧
      t.flags = { Flags.ofHalf (lh f) with afi := (Flags.ofHalf (lh f)).afi && !s.cfg.its } ∧
      t.pi.act = s.pi.act ||| lvbit n ∧ t.piCycle = false ∧ t.report = .ok ∧ t.acb = s.acb ∧
      MemSameOutside (fun a => a = (rh w).toNat ∨ a = (rh w).toNat + 1) s t := by
  have e1 : (rh w + 1).toNat = (rh w).toNat + 1 := toNat_add_small (d := 1) _ (by omega)
  have e2 : (rh w + 2).toNat = (rh w).toNat + 2 := toNat_add_small (d := 2) _ (by omega)
  have e3 : (rh w + 3).toNat = (rh w).toNat + 3 := toNat_add_small (d := 3) _ (by omega)
  have hread {d : Nat} {v : Word} (hd : 2 ≤ d) (hv : tblGet s.mem ((rh w).toNat + d) = some v) :
      tblGet (tblSet (tblSet s.mem (rh w).toNat (xwd s.flags.toHalf 0)) (rh w + 1).toNat (xwd 0 s.pc))
        ((rh w).toNat + d) = some v := by
    rw [tblGet_tblSet, if_neg (by omega), tblGet_tblSet, if_neg (by omega), hv]
  have hseq := interruptSeq_xpcw (f := f) (p := p) hw hop hac
    (vwrite_physical (by exact hpg) hlow (Nat.lt_of_le_of_lt (Nat.le_add_right _ 3) hmem))
    (vwrite_physical (by exact hpg) (by omega) (by rw [e1]; exact Nat.lt_of_le_of_lt (by omega) hmem))
    (vread_physical (by exact hpg) (by omega) (by rw [e2]; exact Nat.lt_of_le_of_lt (by omega) hmem)
      (by rw [e2]; exact hread (Nat.le_refl 2) hf))
    (vread_physical (by exact hpg) (by omega) (by rw [e3]; exact hmem) (by rw [e3]; exact hread (Nat.le_succ 2) hp))
  refine ⟨_, step_grants_ok h hseq, ?_, ?_, rfl, rfl, rfl, rfl, rfl, rfl, fun a ha => ?_⟩
  all_goals change tblGet (tblSet (tblSet s.mem (rh w).toNat _) (rh w + 1).toNat _) _ = _
  · rw [tblGet_tblSet, if_neg (by omega), tblGet_tblSet, if_pos rfl]
    rfl
  · rw [e1, tblGet_tblSet, if_pos rfl]
    rfl
  · rw [e1, tblGet_tblSet, if_neg fun h => ha (.inr h), tblGet_tblSet, if_neg fun h => ha (.inl h)]

end

/-! ### The statement -/

/-- Settles O18: the word of the level by `interruptWord_cell` and its like, the instruction by the `interruptSeq` lemma of
its kind. -/
theorem interruptEntry : Obligations.InterruptEntry := by
  refine ⟨fun s n h => piCell_default n h, ?request, ?fixed, ?vectored, ?anywhere, ?stops⟩
  case request =>
    intro s n h1 h7
    rw [getLsbD_piAprq h1 h7, irq_iff]
  case fixed =>
    intro s n w hp ha hf hfo hn hl hdev hpg hc hw
    have hg : Grants s n := ⟨hp, ha, hf, hfo, hn, hl⟩
    obtain ⟨env, hword⟩ := interruptWord_cell (s := ({ s with report := .ok } : State).granted n) hdev hc hw
    refine ⟨fun hop hlow hmem => ?_, fun hop hac f p hlow hmem hva hf hp => ?_, fun h1 h2 => ?_⟩
    · obtain ⟨t, hstep, hst, hfl, hpc, hact, hcy, hrep, hacb, -, hsame⟩ := step_jsr_unpaged hg hword hpg hop hlow hmem
      exact ⟨t, hstep, hst, hfl, hpc, hact, hcy, hrep, hacb, hsame⟩
    · exact step_xpcw_unpaged hg hword hpg hop hac hlow hmem hva hf hp
    · exact ⟨_, step_grants_stops hg (interruptSeq_illint hword h1 h2), rfl, rfl, rfl, rfl, rfl, rfl⟩
  case vectored =>
    intro s n kind c v vs tbl w hp ha hf hfo hn hl hdev hvs hpg hc ht hcv
    subst hcv
    have hg : Grants s n := ⟨hp, ha, hf, hfo, hn, hl⟩
    refine ⟨?_, fun h0 hv hw hop hlow hmem => ?_⟩
    · rintro rfl
      have hseq := interruptSeq_noWord
        (interruptWord_zeroTable (s := ({ s with report := .ok } : State).granted n) hdev hvs hc ht)
      exact ⟨_, step_grants_stops hg hseq, rfl, rfl, rfl, rfl, rfl, rfl, rfl⟩
    · obtain ⟨t, hstep, hst, hfl, hpc, hact, hcy, hrep, hacb, henv, hsame⟩ := step_jsr_unpaged hg
        (interruptWord_vectored (s := ({ s with report := .ok } : State).granted n) hdev hvs hc ht h0 hv hw) hpg hop hlow
        hmem
      exact ⟨t, hstep, hst, hfl, hpc, hact, hcy, hrep, hacb, congrArg Environment.vectors henv,
        congrArg Environment.log henv, hsame⟩
  case anywhere =>
    intro s k n w hp ha hf hfo hn hl hdev hc hw hk
    subst hk
    have hg : Grants s n := ⟨hp, ha, hf, hfo, hn, hl⟩
    have hword := interruptWord_fixed (s := ({ s with report := .ok } : State).granted n) hdev hc hw
    exact ⟨fun hop u hst => step_grants_ok hg (interruptSeq_jsr hword hop hst),
      fun hop hac u1 u2 u3 u4 f p h1 h2 h3 h4 =>
        step_grants_ok hg (interruptSeq_xpcw hword hop hac h1 h2 h3 h4)⟩
  case stops =>
    intro s n hp ha hf hfo hn hl hdev hpg
    have hg : Grants s n := ⟨hp, ha, hf, hfo, hn, hl⟩
    refine ⟨fun hc => ?_, fun w m pte hi h20 hc hw hop hlow htlb hm hpair hpte hno => ?_⟩
    · have hseq := interruptSeq_noWord
        (interruptWord_absent (s := ({ s with report := .ok } : State).granted n) hdev hpg hc)
      refine ⟨_, step_grants_stops hg hseq, rfl, rfl, rfl, rfl, rfl, ?_, rfl⟩
      change (s.apr.flg ||| aprMask s.cfg.aprBits.nxm).getLsbD s.cfg.aprBits.nxm.toNat = true
      rw [BitVec.getLsbD_or, getLsbD_aprMask _ (BitVec.isLt _), beq_self_eq_true, Bool.or_true]
    · have hword := interruptWord_fixed (s := ({ s with report := .ok } : State).granted n) hdev hc hw
      have hwalk := translate_t10_fails (s := { ({ s with report := .ok } : State).granted n with
        piCycle := true, flags := Flags.zero }) (user := false) (mode := .write) hpg hi h20 (mustWalk_of_none htlb) hm
        hpair hpte (hno.imp_right fun h => ⟨rfl, h⟩)
      have hseq := interruptSeq_jsr_aborts hword hop (vwrite_aborted hlow hwalk)
      exact ⟨_, step_grants_pageFails hg hseq, rfl, rfl, rfl, rfl, rfl, rfl⟩

end Sys2Proof.Machine
end
